-- ==== Sys2Proof/Word.lean ====
section
/-! DEFINITION. The words of the model: the byte that crosses a connection, and the unit of time. -/

namespace Sys2Proof

/-- One byte of a frame, a port record or the configuration record (12_frame_and_record_formats.md). -/
abbrev Byte := BitVec 8

/-- A moment or a length of time, in milliseconds. The part's timers resolve to 10 ms (00_scope.md, Units). -/
abbrev Time := Nat

end Sys2Proof
end

