-- ==== Sys2Proof/Syntax.lean ====
section
/-! DEFINITION. The commands of the block: one constructor of `Instr` per row of spec/opcode_table.json,
with the operands the spec's rules give it. Field operands are the values as coded on the wire
(12_frame_and_record_formats.md); their widths are checked in WellFormed.lean. -/

namespace Sys2Proof

/-- One face of the bank (00_scope.md, Terms; coded K, C in R175). -/
inductive Side where
  | kitchen
  | counter
  deriving DecidableEq, Repr

/-- What a temperature sensor answers in its slot (R132). -/
inductive Reading where
  | noAnswer
  | invalidCode
  | value (v : Int)
  deriving DecidableEq, Repr

/-- What one read of the configuration memory gave (R166): no answer, or the bytes from address 0 on. -/
inductive ConfigRead where
  | noAnswer
  | data (bytes : List Byte)
  deriving DecidableEq, Repr

/-- The layer of R94 at which a frame is discarded. -/
inductive DiscardLayer where
  | framing
  | crc
  | content
  deriving DecidableEq, Repr

/-- What one sample of the input chain shows of one compartment (R114): a door reads open or closed,
the presence sensor present or not. -/
structure InputSample where
  kitchenOpen : Bool
  counterOpen : Bool
  present : Bool
  deriving DecidableEq, Repr, Inhabited

/-- The commands, in the order of spec/opcode_table.json. `len` is the length byte of a port record (R175),
`sender` the address in a frame's lead (R88). -/
inductive Instr where
  /-- R165. Power-on, or release of the asserted reset input. -/
  | coldStart
  /-- R165. -/
  | resetAsserted
  /-- R166: what the first read gave, and what the second gives if the first fails. -/
  | configReadDone (first second : ConfigRead)
  /-- R3, R175 kind 1. A `probe` of 65535 is none. -/
  | load (len tag code cls reach limit probe : Nat)
  /-- R12, R175 kind 2. -/
  | attend (len c : Nat)
  /-- R12, R175 kind 5. -/
  | compartmentReset (len c : Nat)
  /-- R121, R175 kind 3. -/
  | release (len c : Nat)
  /-- R19, R175 kind 4 with direction 0 (OUT), or a direction byte that is neither OUT nor IN. -/
  | serviceOut (len c dir : Nat)
  /-- R19, R175 kind 4 with direction 1 (IN), or a direction byte that is neither OUT nor IN. -/
  | serviceIn (len c dir : Nat)
  /-- R171, R175 kind 6. -/
  | bankClose (len : Nat)
  /-- R171, R175 kind 7. -/
  | bankOpen (len : Nat)
  /-- R153, R175 kind 8 with a target other than 255. -/
  | statusCompartment (len c : Nat)
  /-- R154, R175 kind 8 with target 255. -/
  | statusStation (len : Nat)
  /-- R152, R175 kind 9. -/
  | clearFaults (len : Nat)
  /-- R155, R175 kind 10. -/
  | whereTag (len tag : Nat)
  /-- R144. -/
  | kitchenBadRecord
  /-- R144. -/
  | kitchenGapExpiry
  /-- R146. -/
  | kitchenTxDone
  /-- R159, R175 counter kind 1. -/
  | collect (len tag code : Nat)
  /-- R162, R175 counter kind 2. -/
  | cancel (len : Nat)
  /-- R158. -/
  | counterBadRecord
  /-- R158. -/
  | counterGapExpiry
  /-- R158. -/
  | counterTxDone
  /-- R160, of compartment `c`. -/
  | lockoutEnd (c : Nat)
  /-- R111. -/
  | lookupWaitEnd
  /-- R89. -/
  | attemptStart
  /-- R90. -/
  | attemptLost
  /-- R90. -/
  | attemptFailed
  /-- R90. -/
  | attemptCompleted
  /-- R94. -/
  | frameDiscarded (layer : DiscardLayer)
  /-- R101. -/
  | ownAddressFrame
  /-- R91. -/
  | unknownKindFrame (sender : Nat)
  /-- R68. -/
  | claimFrame (sender amount margin sequence : Nat)
  /-- R66. `service` and `line` as coded in R174; a `margin` of 65535 is none. -/
  | drawFrame (sender service line draw power margin due holding : Nat)
  /-- R107. `reason` coded COLLECTED, CONDEMNED, REMOVED. -/
  | goneFrame (sender tag comp reason : Nat)
  /-- R105. -/
  | stowedFrame (sender tag comp cls : Nat)
  /-- R109. -/
  | queryFrame (sender tag : Nat)
  /-- R100. -/
  | helloFresh (sender wc wr wg n count : Nat)
  /-- R67. -/
  | helloAnswer (sender wc wr wg n count : Nat)
  /-- R93. -/
  | drawTimerExpiry
  /-- R97. -/
  | silenceTimerExpiry
  /-- R96. -/
  | joiningTimerExpiry
  /-- R69, of the entry of address `addr`. -/
  | entryLapse (addr : Nat)
  /-- R77. -/
  | claimWindowEnd
  /-- R79. -/
  | lostBackoffEnd
  /-- R81. -/
  | overrunHoldEnd
  /-- R28, of compartment `c`. -/
  | decayStep (c : Nat)
  /-- R27, of compartment `c`. -/
  | holdLimitExpiry (c : Nat)
  /-- R55, of compartment `c`. -/
  | pulseEnd (c : Nat)
  /-- R42, of channel `ch`. -/
  | channelRestEnd (ch : Nat)
  /-- R51. -/
  | staggerEnd
  /-- R118. -/
  | doorOpened (c : Nat) (side : Side)
  /-- R120. -/
  | doorReopened (c : Nat) (side : Side)
  /-- R119. -/
  | doorClosed (c : Nat) (side : Side)
  /-- R127. -/
  | doorForced (c : Nat) (side : Side)
  /-- R128. -/
  | forcedDoorClosed (c : Nat) (side : Side)
  /-- R118. -/
  | releaseWindowLapse (c : Nat) (side : Side)
  /-- R119. -/
  | ajarTime (c : Nat) (side : Side)
  /-- R120. -/
  | settleEnd (c : Nat) (side : Side)
  /-- R126: the remembered request of `side` at compartment `c`. -/
  | waitLapse (c : Nat) (side : Side)
  /-- R140: the slot of the compartment the rotation stands at. -/
  | sensorReading (r : Reading)
  /-- R134. -/
  | ambientReading (r : Reading)
  /-- R114: one entry per compartment, from index 0. -/
  | inputChainSample (samples : List InputSample)
  /-- R175: a record whose kind is not one of the ten. -/
  | kitchenUnknownKind (kind : Nat)
  /-- R158: a record whose kind is neither COLLECT nor CANCEL. -/
  | counterUnknownKind (kind : Nat)
  deriving DecidableEq, Repr

end Sys2Proof
end

