-- ==== Sys2Proof/Decode.lean ====
section
/-! DEFINITION. The commands that a word spells by the bits of spec/opcode_table.json. The table gives no row any
bits, so no word spells a command. Which command a string of bytes on a connection is stands in
Machine/Receive.lean. -/

namespace Sys2Proof

/-- The command a word of `nbits` bits spells by the table's bits: none, for the table gives none. -/
def decodeTableWord (_nbits _w : Nat) : Option Instr := none

end Sys2Proof
end

