-- ==== Sys2Proof/Config.lean ====
section
/-! DEFINITION. What is fixed for the part: the timing constants the chapters give, and the FREE VALUES, each an
opaque constant without a body that stands where the spec states no value. The configuration RECORD, which the
part reads at cold start, is state (Machine/State.lean). -/

namespace Sys2Proof.Config

/-- Resolution of the part's timers (00_scope.md, Units): 10 ms. -/
def clockStep : Time := 10
/-- Decay step period, 10 s (R28). -/
def decayPeriod : Time := 10000
/-- Minimum on-time, 4 s (R40). -/
def minOnTime : Time := 4000
/-- Maximum continuous on-time, 90 s, in seconds (R40). -/
def maxOnSeconds : Nat := 90
/-- Rest of a released channel, 2 s (R40). -/
def rest : Time := 2000
/-- Stagger between two activations, 0.5 s (R40). -/
def stagger : Time := 500
/-- Half the claim window, 250 ms (R75, R76), and the look-ahead of R72. -/
def claimHalfWindow : Time := 250
/-- LOST backoff, 1.0 s (R79). -/
def lostBackoff : Time := 1000
/-- OVERRUN hold, 1.0 s (R81). -/
def overrunHold : Time := 1000
/-- A peer entry stays live this long after its last heard, 3.0 s (R69). -/
def liveTime : Time := 3000
/-- DRAW timer period, 1.0 s (R93). -/
def drawPeriod : Time := 1000
/-- Silence timer, 2.0 s (R97). -/
def silence : Time := 2000
/-- JOINING timer, 2.0 s (R96). -/
def joining : Time := 2000
/-- Failed attempts that isolate, 16 (R90). -/
def maxFailed : Nat := 16
/-- Receive error count limit (R94). -/
def maxRxErrors : Nat := 65535
/-- Places of the transmit queue open to kinds 2 to 5 (R92). -/
def notePlaces : Nat := 10
/-- Directory size (R104). -/
def directorySize : Nat := 256
/-- Lookup wait, 500 ms (R110). -/
def lookupWait : Time := 500
/-- Release window (R116): 45 s kitchen, 20 s counter. -/
def releaseWindow : Side → Time
  | .kitchen => 45000
  | .counter => 20000
/-- Ajar time (R118): 120 s kitchen, 60 s counter. -/
def ajarTime : Side → Time
  | .kitchen => 120000
  | .counter => 60000
/-- Settle, 1 s (R119). -/
def settle : Time := 1000
/-- Lapse of a remembered request, 30 s (R123). -/
def rememberTime : Time := 30000
/-- Compartments a side may hold (R116). -/
def sideLimit : Nat := 4
/-- Input chain sampling period, 20 ms (R114). -/
def samplePeriod : Time := 20
/-- Sensor rotation slot, 250 ms (R131). -/
def slotPeriod : Time := 250
/-- Pickup lockout, 60 s (R160). -/
def lockout : Time := 60000
/-- Gap between two bytes of a record, 50 ms (R144). -/
def gapTime : Time := 50
/-- Kitchen notice queue (R146). -/
def kitchenNotices : Nat := 16
/-- Counter notice queue (R158). -/
def counterNotices : Nat := 8

/-! ### Free values: the spec states none here -/

/-- FREE (log 8). What the debounced inputs of compartment `c` read as before the first sample of the cold start,
which sets them (R114). -/
opaque unsampledInput (c : Nat) : InputSample

/-- FREE (log 9). Whether a pulse length of `ms` that is no whole number of tenths of a second is reported rounded
up: R153 and R175 report tenths and name no rounding. -/
opaque tenthsRoundUp (ms : Nat) : Bool

/-- FREE (log 10). Whether the BAD_FIELD reply to a record of kind `kind` and wrong length `len` names the byte in the
compartment's place: R147 says the reply carries the index 'where the request named one'. -/
opaque wrongLengthNames (kind len : Nat) : Bool

/-- FREE (log 11). Whether Prior state in a STATUS reply is coded as the compartment state (HOLDING 2) or by its own
list of three (HOLDING 0): R175 says 'in the order the chapters list them', and R1 lists both. -/
opaque priorCodedAsState : Bool

/-- FREE (log 12). The two bytes of H (R154, R175) where H lies outside -32768 to 32767. -/
opaque headroomOutOfRange (h : Int) : Nat

/-- FREE (log 40). Bits 4 to 7 of the sticky flags byte of a STATUS(station) reply: R175 names bits 0 to 3 only. -/
opaque stickyUpperBits : BitVec 4

/-- FREE (log 14). The hold remaining reported for a record with hold limit `limit` whose hold never started and which
is no longer LOADING: R26 gives no row for it. -/
opaque unstartedRemaining (limit : Nat) : Nat

end Sys2Proof.Config
end

