-- ==== Sys2Proof/Machine/State.lean ====
section
/-! DEFINITION. The state of the part: every piece of state the chapters give its blocks, as plain data, one
structure per block (00_scope.md, block table), and the state after reset. The queue `pending` holds the commands
that wait. What the spec defines as a function of other state (the due queue, the station draw, the side counts,
the output chain) is computed from it in Machine/Ops.lean (log 23). -/

namespace Sys2Proof.Machine

/-! ## Configuration record (R22, R64, R166, R176) -/

/-- A class record, as stored (R22). -/
structure ClassRec where
  /-- Tl, load estimate, dd -/
  load : Nat
  /-- Tf, floor, dd -/
  floor : Nat
  /-- Tt, threshold, dd -/
  threshold : Nat
  /-- Tc, ceiling, dd -/
  ceiling : Nat
  /-- Ub, urgent band, dd -/
  urgentBand : Nat
  /-- k, cooling coefficient -/
  cooling : Nat
  /-- g, heating gain, dd per s -/
  gain : Nat
  /-- Lp, pulse length, s -/
  pulseLen : Nat
  /-- Hm, maximum hold, s -/
  maxHold : Nat
  /-- d, hold duty, per mille -/
  duty : Nat
  deriving DecidableEq, Repr

/-- The configuration record (R166). -/
structure ConfigRec where
  address : Nat
  /-- N, court size -/
  courtSize : Nat
  count : Nat
  reach : Nat
  /-- P, element power, du -/
  power : Nat
  /-- Wc, court allowance, du -/
  allowance : Nat
  /-- Wr, reserve, du -/
  reserve : Nat
  /-- Wg, guard, du -/
  guardW : Nat
  /-- Wi, isolated draw, du -/
  isolated : Nat
  ambient : Nat
  startShut : Bool
  classes : List ClassRec
  deriving DecidableEq, Repr

/-- The causes of CONFIG_FAULT (R168), in the order of their codes (R175). -/
inductive FaultCause where
  | memory
  | sum
  | structural
  | court
  deriving DecidableEq, Repr

/-- Where the part stands between power-on and service (R165, R168, R169). -/
inductive Phase where
  | resetAsserted
  | coldStart
  | running
  | configFault (cause : FaultCause)
  deriving DecidableEq, Repr

/-- Service modes (R170). -/
inductive ServiceMode where
  | serving
  | windingDown
  | shut
  deriving DecidableEq, Repr

/-- The Start-up Loader's state. -/
structure Sul where
  phase : Phase
  config : Option ConfigRec
  /-- Enable flags of classes 0 to 3 (R23). -/
  classOn : List Bool
  service : Option ServiceMode
  deriving DecidableEq, Repr

/-! ## Compartment Table (R1), Hold Estimator (R24), pulse record (R45) -/

/-- Compartment states, in the order of their codes (R1, R175). -/
inductive CState where
  | free
  | loading
  | holding
  | collecting
  | attending
  | condemned
  | faulted
  | outOfService
  deriving DecidableEq, Repr

/-- The state an ATTENDING compartment returns to (R1). -/
inductive Prior where
  | holding
  | condemned
  | faulted
  deriving DecidableEq, Repr

/-- Condemn reasons (R1), in the order of their codes (R175). -/
inductive CondemnReason where
  | expired
  | cold
  | coldReading
  | forced
  | restart
  | fault
  deriving DecidableEq, Repr

/-- Fault reasons (R1), in the order of their codes. -/
inductive FaultReason where
  | sensor
  | overheat
  | element
  deriving DecidableEq, Repr

/-- The fields that are present exactly when Tag is present (R1). -/
structure Meal where
  tag : Nat
  code : Nat
  cls : Nat
  /-- Hold limit in seconds, already clamped. -/
  limit : Nat
  deriving DecidableEq, Repr

/-- The estimate record (R24) with its two timers. -/
structure Estimate where
  /-- T, dd -/
  temp : Nat
  steps : Nat
  /-- Uncredited on-time, ms -/
  uncredited : Time
  margin : Nat
  due : Bool
  urgent : Bool
  /-- Next expiry of the decay timer (R28). -/
  decayAt : Time
  /-- Expiry of the hold-limit timer, none once it has expired (R27). -/
  limitAt : Option Time
  deriving DecidableEq, Repr

/-- A pulse is on a channel or off it (R45). -/
inductive PulseState where
  | running (channel : Nat)
  | suspended
  deriving DecidableEq, Repr

/-- The pulse record (R45). Lengths in ms. -/
structure Pulse where
  state : PulseState
  planned : Time
  run : Time
  start : Time
  deriving DecidableEq, Repr

/-- A compartment record (R1). -/
structure CompRec where
  state : CState
  meal : Option Meal
  holdStart : Option Time
  probe : Option Nat
  est : Option Estimate
  pulse : Option Pulse
  prior : Option Prior
  condemn : Option CondemnReason
  fault : Option FaultReason
  mealPresent : Option Bool
  wrongCount : Nat
  lockoutEnd : Option Time
  deriving DecidableEq, Repr

/-- A FREE record: every optional field absent, wrong-code count 0 (R1, R2). -/
def CompRec.free : CompRec :=
  { state := .free, meal := none, holdStart := none, probe := none, est := none, pulse := none, prior := none,
    condemn := none, fault := none, mealPresent := none, wrongCount := 0, lockoutEnd := none }

/-! ## Door Arbiter (R113) -/

/-- Door side states, in the order of their codes (R113). -/
inductive SideState where
  | latched
  | released
  | opened
  | settling
  deriving DecidableEq, Repr

/-- One side of a door record (R113). -/
structure SideRec where
  state : SideState
  /-- The latch driver is asserted, so the latch is released (R115). -/
  latchReleased : Bool
  windowEnd : Option Time
  ajarAt : Option Time
  ajarNoticed : Bool
  settleEnd : Option Time
  deriving DecidableEq, Repr

/-- A side at cold start: LATCHED, latch engaged, no time set (R113). -/
def SideRec.latchedNew : SideRec :=
  { state := .latched, latchReleased := false, windowEnd := none, ajarAt := none, ajarNoticed := false,
    settleEnd := none }

/-- The two kinds of remembered kitchen request (R123). -/
inductive KitchenKind where
  | attend
  | reset
  deriving DecidableEq, Repr

/-- A remembered kitchen request (R123). `serial` orders requests remembered in one clock step (log 22). -/
structure KitchenRequest where
  kind : KitchenKind
  remembered : Time
  lapse : Time
  serial : Nat
  deriving DecidableEq, Repr

/-- A remembered counter request (R123). -/
structure CounterRequest where
  tag : Nat
  remembered : Time
  lapse : Time
  serial : Nat
  deriving DecidableEq, Repr

/-- A door record (R113); `holder` is none for NONE. -/
structure DoorRec where
  kitchen : SideRec
  counter : SideRec
  holder : Option Side
  kitchenReq : Option KitchenRequest
  counterReq : Option CounterRequest
  deriving DecidableEq, Repr

/-- A door record at cold start (R113). -/
def DoorRec.closed : DoorRec :=
  { kitchen := .latchedNew, counter := .latchedNew, holder := none, kitchenReq := none, counterReq := none }

/-! ## Input chain (R114) -/

/-- A debounced sensor: its value, and how many consecutive samples have shown the opposite. -/
structure Debounced where
  value : Bool
  run : Nat
  deriving DecidableEq, Repr

/-- The three sensors of one compartment: the doors' values are true when open, presence when present. -/
structure InputRec where
  kitchen : Debounced
  counter : Debounced
  presence : Debounced
  deriving DecidableEq, Repr

/-- The input chain: no records before the first sample of the cold start. -/
structure InputChain where
  recs : List InputRec
  /-- The next sampling moment. -/
  next : Time
  deriving DecidableEq, Repr

/-! ## Sensor Scan Unit (R131 to R134) -/

/-- A reading record (R133). -/
structure ReadingRec where
  last : Option Nat
  reference : Option Nat
  pending : Bool
  invalid : Nat
  cold : Nat
  weak : Nat
  deriving DecidableEq, Repr

/-- A reading record at cold start (R133). -/
def ReadingRec.blank : ReadingRec :=
  { last := none, reference := none, pending := false, invalid := 0, cold := 0, weak := 0 }

/-- The scan rotation and the ambient (R131, R134). -/
structure Ssu where
  /-- Number of the next slot, from 1. -/
  slot : Nat
  /-- The end of start-up, from which slots are counted. -/
  start : Time
  ambient : Nat
  ambientHeld : Bool
  deriving DecidableEq, Repr

/-! ## Pulse Scheduler and Heater Channels (R40, R51) -/

/-- A heater channel (R40). -/
inductive Channel where
  | idle
  | on (comp : Nat)
  | rest (restEnd : Time)
  deriving DecidableEq, Repr

/-- The scheduler's state. `attemptDue` and `drawMoved` are raised and used up inside one event (log 6). -/
structure Psc where
  channels : List Channel
  lastActivation : Option Time
  staggerOn : Bool
  /-- A trigger of R49 has been raised in this event. -/
  attemptDue : Bool
  /-- D has changed in this event (R44). -/
  drawMoved : Bool
  deriving DecidableEq, Repr

/-! ## Draw Share Unit (R74, R79, R81) and Peer Draw Table (R65) -/

/-- The claim record (R74). -/
inductive ClaimRec where
  | noClaim
  | queued (amount margin sequence : Nat)
  | window (amount margin sequence : Nat) (completion windowEnd : Time)
  deriving DecidableEq, Repr

/-- The DSU's own state. -/
structure Dsu where
  claim : ClaimRec
  sequence : Nat
  /-- End of the LOST backoff, when one runs. -/
  lostUntil : Option Time
  /-- End of the OVERRUN hold, when one runs. -/
  overrunUntil : Option Time
  deriving DecidableEq, Repr

/-- Line modes as a peer's DRAW reports them (R65). -/
inductive PeerLine where
  | joining
  | court
  | isolated
  | mismatched
  deriving DecidableEq, Repr

/-- A peer's latest claim (R65). -/
structure PeerClaim where
  amount : Nat
  margin : Nat
  sequence : Nat
  heard : Time
  deriving DecidableEq, Repr

/-- A PDT entry (R65). `live` falls at the lapse of R69. -/
structure PeerEntry where
  address : Nat
  service : Option ServiceMode
  line : Option PeerLine
  draw : Option Nat
  power : Option Nat
  margin : Option Nat
  due : Option Nat
  holding : Option Nat
  heard : Option Time
  claim : Option PeerClaim
  live : Bool
  deriving DecidableEq, Repr

/-- An empty entry (R65). -/
def PeerEntry.empty (a : Nat) : PeerEntry :=
  { address := a, service := none, line := none, draw := none, power := none, margin := none, due := none,
    holding := none, heard := none, claim := none, live := false }

/-! ## Line Interface (chapter 5) -/

/-- This station's line modes, in the order of their STATUS codes (R175). -/
inductive LineMode where
  | joining
  | court
  | isolated
  | mismatchedParameters
  | mismatchedClash
  deriving DecidableEq, Repr

/-- Reasons of a GONE frame, in the order of their codes (R174). -/
inductive GoneReason where
  | collected
  | condemned
  | removed
  deriving DecidableEq, Repr

/-- The two kinds of HELLO, in the order of their codes. -/
inductive HelloKind where
  | fresh
  | answer
  deriving DecidableEq, Repr

/-- The payload of a HELLO (R96, R100). -/
structure CourtParams where
  wc : Nat
  wr : Nat
  wg : Nat
  n : Nat
  count : Nat
  deriving DecidableEq, Repr

/-- The payload of a DRAW (R93). -/
structure DrawReport where
  service : ServiceMode
  line : PeerLine
  draw : Nat
  power : Nat
  margin : Option Nat
  due : Nat
  holding : Nat
  deriving DecidableEq, Repr

/-- A frame of the transmit queue; a DRAW is filled only when it moves to the buffer (R89). -/
inductive Frame where
  | claim (amount margin sequence : Nat)
  | draw
  | gone (tag comp : Nat) (reason : GoneReason)
  | stowed (tag comp cls : Nat)
  | query (tag : Nat)
  | hello (kind : HelloKind) (params : CourtParams)
  deriving DecidableEq, Repr

/-- A queued frame with its age: the order in which frames were first queued (R92). -/
structure Queued where
  frame : Frame
  age : Nat
  deriving DecidableEq, Repr

/-- The transmit buffer's frame, the bytes it is sent as, and whether it is discarded at the end of its attempt
(R80, R90, R101). -/
structure Buffered where
  frame : Frame
  age : Nat
  bytes : List Byte
  doomed : Bool
  deriving DecidableEq, Repr

/-- The Line Interface. -/
structure Lif where
  mode : Option LineMode
  queue : List Queued
  buffer : Option Buffered
  /-- The age the next frame gets. -/
  stamp : Nat
  failed : Nat
  rxErrors : Nat
  silenceAt : Option Time
  drawAt : Option Time
  joiningAt : Option Time
  rejoin : Bool
  /-- The final DRAW of MISMATCHED(CLASH) has completed (R101). -/
  silenced : Bool
  /-- Transceiver enable (R88). -/
  enable : Bool
  noteLost : Bool
  peerMismatch : Bool
  deriving DecidableEq, Repr

/-! ## Court Directory (R104, R110) -/

/-- A directory entry (R104). -/
structure DirEntry where
  tag : Nat
  station : Nat
  comp : Nat
  cls : Nat
  heard : Time
  deriving DecidableEq, Repr

/-- The lookup record (R110). -/
structure Lookup where
  tag : Nat
  waitEnd : Time
  deriving DecidableEq, Repr

/-- The directory, oldest entry first. -/
structure Cdir where
  entries : List DirEntry
  lookup : Option Lookup
  deriving DecidableEq, Repr

/-! ## Panel ports (chapters 9, 10, 12) -/

/-- Kitchen outcomes, in the order of their codes from 1 (R175). -/
inductive KOutcome where
  | accepted
  | wait
  | mode
  | cleared
  | badField
  | badCompartment
  | faulted
  | state
  | busy
  | bankShut
  | classOff
  | duplicate
  | tooCool
  | heatFull
  | courtFault
  | noSpace
  | fault
  deriving DecidableEq, Repr

/-- Counter outcomes, in the order of their codes from 1 (R175). -/
inductive COutcome where
  | opened
  | wait
  | notReady
  | seeStaff
  | lockedOut
  | wrongCode
  | elsewhere
  | alreadyCollected
  | unknown
  | cancelled
  | nothingPending
  | busy
  | badField
  | fault
  deriving DecidableEq, Repr

/-- The pulse part of a STATUS(c) reply (R46, R153). -/
inductive PulseReport where
  | noPulse
  | running (channel : Nat) (planned run : Time)
  | suspended (remaining : Time)
  deriving DecidableEq, Repr

/-- The contents of a STATUS(c) reply (R153). -/
structure CompStatus where
  state : CState
  prior : Option Prior
  tag : Option Nat
  cls : Option Nat
  limit : Option Nat
  remaining : Nat
  estimate : Option Nat
  margin : Option Nat
  due : Bool
  urgent : Bool
  condemn : Option CondemnReason
  /-- The condemn reason is a pending FORCED (R16). -/
  pendingForced : Bool
  fault : Option FaultReason
  mealPresent : Option Bool
  holder : Option Side
  kitchenSide : SideState
  counterSide : SideState
  kitchenReq : Bool
  counterReq : Bool
  pulse : PulseReport
  wrongCount : Nat
  lockoutSeconds : Nat
  deriving DecidableEq, Repr

/-- The contents of a STATUS(station) reply (R154). -/
structure StationStatus where
  line : Option LineMode
  service : Option ServiceMode
  draw : Nat
  share : Nat
  headroom : Int
  livePeers : Nat
  peerDue : Nat
  peerHolding : Nat
  peerMargin : Option Nat
  due : Nat
  holding : Nat
  occupied : Nat
  noteLost : Bool
  peerMismatch : Bool
  ambientHeld : Bool
  noticeLost : Bool
  rxErrors : Nat
  deriving DecidableEq, Repr

/-- The own part of a WHERE reply (R155). -/
structure WhereOwn where
  comp : Nat
  state : CState
  deriving DecidableEq, Repr

/-- The directory part of a WHERE reply (R155). -/
structure WhereDir where
  station : Nat
  comp : Nat
  cls : Nat
  seconds : Nat
  deriving DecidableEq, Repr

/-- A kitchen reply (R175): an outcome with the compartment and argument it names, or a status or where reply. -/
inductive KReply where
  | outcome (o : KOutcome) (comp arg : Option Nat)
  | comp (s : CompStatus)
  | station (s : StationStatus)
  | whereIs (own : Option WhereOwn) (dir : Option WhereDir)
  deriving DecidableEq, Repr

/-- A counter reply (R175): an outcome with the argument it names. -/
structure CReply where
  outcome : COutcome
  arg : Option Nat
  deriving DecidableEq, Repr

/-- Kitchen notices, in the order of R156. -/
inductive KNotice where
  | condemned (c : Nat) (reason : CondemnReason)
  | faulted (c : Nat) (reason : FaultReason)
  | doorAjar (c : Nat) (side : Side)
  | doorForced (c : Nat) (side : Side)
  | granted (c : Nat)
  | attendVoid (c : Nat)
  | waitLapsed (c : Nat)
  | loadLapsed (c : Nat)
  | tagElsewhere (tag station : Nat)
  | lineMode (mode : LineMode)
  | peerMismatch
  | bankShut
  deriving DecidableEq, Repr

/-- Counter notices, in the order of R163. -/
inductive CNotice where
  | granted (c : Nat)
  | seeStaff (c : Nat)
  | waitLapsed (c : Nat)
  | doorAjar (c : Nat)
  deriving DecidableEq, Repr

/-- What a transmitter is sending. -/
inductive TxRole where
  | reply
  | busyReply
  | notice
  deriving DecidableEq, Repr

/-- A record being sent: what it is, and its bytes (R175). -/
structure TxJob where
  role : TxRole
  bytes : List Byte
  deriving DecidableEq, Repr

/-- A port's receiver: the bytes of the record begun, and the moment at which the gap rule discards them (R144, R158). -/
structure Receiver where
  gathered : List Byte
  gapEnd : Option Time
  deriving DecidableEq, Repr

/-- A receiver that holds no partial record (R144). -/
def Receiver.empty : Receiver := { gathered := [], gapEnd := none }

/-- The Kitchen Port (R144 to R146). `busyReply` is the kind a waiting BUSY reply names. -/
structure KitchenPort where
  receiver : Receiver
  /-- Replies waiting, oldest first: that of the request in progress (R145), or those of CONFIG_FAULT (log 19). -/
  replies : List KReply
  busyReply : Option Nat
  tx : Option TxJob
  notices : List KNotice
  noticeLost : Bool
  deriving DecidableEq, Repr

/-- The Counter Port (R158). -/
structure CounterPort where
  receiver : Receiver
  /-- Replies waiting, oldest first. -/
  replies : List CReply
  busyReply : Option Nat
  tx : Option TxJob
  notices : List CNotice
  deriving DecidableEq, Repr

end Sys2Proof.Machine

namespace Sys2Proof.Machine

/-! ## The state -/

/-- A byte on a port's receive line and the moment of its arrival. -/
structure RxByte where
  arrives : Time
  byte : Byte
  deriving DecidableEq, Repr

/-- What the two panels send, byte by byte in the order of arrival: the outside's, as the queue of commands is (log 3). -/
structure RxLines where
  kitchen : List RxByte
  counter : List RxByte
  deriving DecidableEq, Repr

/-- The state of the part. -/
structure State where
  now : Time
  sul : Sul
  comps : List CompRec
  doors : List DoorRec
  requestSerial : Nat
  inputs : InputChain
  readings : List ReadingRec
  ssu : Ssu
  psc : Psc
  dsu : Dsu
  peers : List PeerEntry
  lif : Lif
  cdir : Cdir
  kp : KitchenPort
  cp : CounterPort
  rx : RxLines
  pending : List Instr
  deriving DecidableEq, Repr

/-- Faults of the block: none. The spec gives no condition that stops the part; CONFIG_FAULT (R168) is a phase in
which it goes on, and FAULTED (R17) a state of a compartment. -/
inductive Fault where
  deriving DecidableEq, Repr

/-- Refusals of the model. -/
inductive Refusal where
  /-- Raised by an arm of `exec` whose command has no meaning yet; safe. No arm raises it. -/
  | notModelled (mnemonic : String)
  deriving DecidableEq, Repr

/-- The Start-up Loader at the start of a cold start: nothing read yet (R165, R168). -/
def Sul.cold : Sul := { phase := .coldStart, config := none, classOn := [], service := none }

/-- The channels and scheduler at cold start (R40, R51). -/
def Psc.cold : Psc :=
  { channels := [.idle, .idle, .idle, .idle], lastActivation := none, staggerOn := false, attemptDue := false,
    drawMoved := false }

/-- The DSU at cold start (R74, R79, R81). -/
def Dsu.cold : Dsu := { claim := .noClaim, sequence := 0, lostUntil := none, overrunUntil := none }

/-- The LIF at cold start (R88, R90, R92, R94, R95). The rejoin flag's value is the model's choice (log 35): R98 gives none. -/
def Lif.cold : Lif :=
  { mode := none, queue := [], buffer := none, stamp := 0, failed := 0, rxErrors := 0, silenceAt := none,
    drawAt := none, joiningAt := none, rejoin := false, silenced := false, enable := false, noteLost := false,
    peerMismatch := false }

/-- The Kitchen Port at cold start (R144, R146). -/
def KitchenPort.cold : KitchenPort :=
  { receiver := .empty, replies := [], busyReply := none, tx := none, notices := [], noticeLost := false }

/-- The Counter Port at cold start (R158). -/
def CounterPort.cold : CounterPort := { receiver := .empty, replies := [], busyReply := none, tx := none, notices := [] }

/-- The scan at cold start (R133, R134): the ambient is set from the record once it is read (log 27). -/
def Ssu.cold : Ssu := { slot := 1, start := 0, ambient := 0, ambientHeld := false }

/-- The state after reset: the start of a cold start (R165), the configuration record not yet read (log 4). What
comes with that record is absent or 0 (log 27), and the first input sample is due at once (log 31). -/
def State.reset : State :=
  { now := 0, sul := .cold, comps := [], doors := [], requestSerial := 0, inputs := { recs := [], next := 0 },
    readings := [], ssu := .cold, psc := .cold, dsu := .cold, peers := [], lif := .cold,
    cdir := { entries := [], lookup := none }, kp := .cold, cp := .cold,
    rx := { kitchen := [], counter := [] }, pending := [] }

end Sys2Proof.Machine
end

