-- ==== Sys2Proof/Machine/Ops.lean ====
section
/-! DEFINITION. Named reads and updates of the state, and the quantities the spec defines as functions of it. Every
update of a block goes through one of these. -/

namespace Sys2Proof.Machine

/-! ## Configuration -/

/-- A class record with every field 0, read where no record has been read yet (log 27). -/
def ClassRec.zero : ClassRec :=
  { load := 0, floor := 0, threshold := 0, ceiling := 0, urgentBand := 0, cooling := 0, gain := 0, pulseLen := 0,
    maxHold := 0, duty := 0 }

/-- The record read where none has been read yet (log 27). -/
def ConfigRec.zero : ConfigRec :=
  { address := 0, courtSize := 0, count := 0, reach := 0, power := 0, allowance := 0, reserve := 0, guardW := 0,
    isolated := 0, ambient := 0, startShut := false, classes := [] }

/-- The configuration record in use. -/
def State.cfg (s : State) : ConfigRec := s.sul.config.getD .zero

/-- The record of class `i` (R22). -/
def State.cls (s : State) (i : Nat) : ClassRec := s.cfg.classes.getD i .zero

/-- The class is enabled (R23). -/
def State.classEnabled (s : State) (i : Nat) : Bool := s.sul.classOn.getD i false

/-- W_avail = Wc - Wr - Wg (R64). -/
def ConfigRec.wAvail (c : ConfigRec) : Nat := c.allowance - c.reserve - c.guardW

/-- F = floor(W_avail / N) (R64). -/
def ConfigRec.share (c : ConfigRec) : Nat := c.wAvail / c.courtSize

/-- W_avail of this station. -/
def State.wAvail (s : State) : Nat := s.cfg.wAvail

/-- F of this station. -/
def State.share (s : State) : Nat := s.cfg.share

/-- The station serves: start-up has ended and no CONFIG_FAULT holds (R168, R169). -/
def State.running (s : State) : Bool := s.sul.phase = .running

/-- Frames on the line are read: start-up has ended and the court has more than one station (R88, R96). -/
def State.reads (s : State) : Bool := s.running && s.cfg.courtSize != 1

/-! ## Blocks -/

/-- Update the Start-up Loader. -/
def State.modSul (f : Sul → Sul) (s : State) : State := { s with sul := f s.sul }
/-- Update the Sensor Scan Unit's station part. -/
def State.modSsu (f : Ssu → Ssu) (s : State) : State := { s with ssu := f s.ssu }
/-- Update the scheduler. -/
def State.modPsc (f : Psc → Psc) (s : State) : State := { s with psc := f s.psc }
/-- Update the Draw Share Unit. -/
def State.modDsu (f : Dsu → Dsu) (s : State) : State := { s with dsu := f s.dsu }
/-- Update the Line Interface. -/
def State.modLif (f : Lif → Lif) (s : State) : State := { s with lif := f s.lif }
/-- Update the Court Directory. -/
def State.modCdir (f : Cdir → Cdir) (s : State) : State := { s with cdir := f s.cdir }
/-- Update the Kitchen Port. -/
def State.modKp (f : KitchenPort → KitchenPort) (s : State) : State := { s with kp := f s.kp }
/-- Update the Counter Port. -/
def State.modCp (f : CounterPort → CounterPort) (s : State) : State := { s with cp := f s.cp }

/-- Update compartment record `c`. -/
def State.modComp (c : Nat) (f : CompRec → CompRec) (s : State) : State := { s with comps := s.comps.modify c f }
/-- Update door record `c`. -/
def State.modDoor (c : Nat) (f : DoorRec → DoorRec) (s : State) : State := { s with doors := s.doors.modify c f }
/-- Update reading record `c`. -/
def State.modReading (c : Nat) (f : ReadingRec → ReadingRec) (s : State) : State :=
  { s with readings := s.readings.modify c f }
/-- Update the Peer Draw Table entry of address `a` (R65). -/
def State.modPeer (a : Nat) (f : PeerEntry → PeerEntry) (s : State) : State :=
  { s with peers := s.peers.map fun e => if e.address = a then f e else e }

/-! ## Compartments -/

/-- The compartment count: one record per index (R1). -/
def State.count (s : State) : Nat := s.comps.length

/-- Compartment record `c`. -/
def State.comp (s : State) (c : Nat) : CompRec := s.comps.getD c .free

/-- Door record `c`. -/
def State.door (s : State) (c : Nat) : DoorRec := s.doors.getD c .closed

/-- Reading record `c`. -/
def State.reading (s : State) (c : Nat) : ReadingRec := s.readings.getD c .blank

/-- The entry of address `a` in the Peer Draw Table. -/
def State.peer (s : State) (a : Nat) : PeerEntry := (s.peers.find? fun e => e.address = a).getD (.empty a)

/-- The class record of the meal in `r`. -/
def State.mealClass (s : State) (r : CompRec) : ClassRec := s.cls ((r.meal.map Meal.cls).getD 0)

/-- Under hold: HOLDING, COLLECTING, or ATTENDING with prior state HOLDING (chapter 1.2). -/
def CompRec.underHold (r : CompRec) : Bool :=
  match r.state with
  | .holding | .collecting => true
  | .attending => r.prior = some .holding
  | _ => false

/-- Occupied: LOADING, HOLDING, COLLECTING, ATTENDING, CONDEMNED, or FAULTED with meal present Set (chapter 1.2). -/
def CompRec.occupied (r : CompRec) : Bool :=
  match r.state with
  | .loading | .holding | .collecting | .attending | .condemned => true
  | .faulted => r.mealPresent = some true
  | _ => false

/-- Counted by the admission test: LOADING, HOLDING, COLLECTING, or ATTENDING with a tag (R84). -/
def CompRec.counted (r : CompRec) : Bool :=
  match r.state with
  | .loading | .holding | .collecting => true
  | .attending => r.meal.isSome
  | _ => false

/-- Holding count (R21). -/
def State.holdingCount (s : State) : Nat := s.comps.countP CompRec.underHold

/-- Occupied count (R21). -/
def State.occupiedCount (s : State) : Nat := s.comps.countP CompRec.occupied

/-- The index of the record that holds `tag` (R5: at most one). -/
def State.findTag (s : State) (tag : Nat) : Option Nat :=
  s.comps.findIdx? fun r => r.meal.map Meal.tag = some tag

/-! ## Doors -/

/-- The other side. -/
def otherSide : Side → Side
  | .kitchen => .counter
  | .counter => .kitchen

/-- One side of a door record. -/
def DoorRec.side (d : DoorRec) : Side → SideRec
  | .kitchen => d.kitchen
  | .counter => d.counter

/-- Update one side of a door record. -/
def DoorRec.modSide (d : DoorRec) (sd : Side) (f : SideRec → SideRec) : DoorRec :=
  match sd with
  | .kitchen => { d with kitchen := f d.kitchen }
  | .counter => { d with counter := f d.counter }

/-- Both sides LATCHED. -/
def DoorRec.bothLatched (d : DoorRec) : Bool := d.kitchen.state = .latched && d.counter.state = .latched

/-- The side count: compartments whose holder is that side (R113). -/
def State.sideCount (s : State) (sd : Side) : Nat := s.doors.countP fun d => d.holder = some sd

/-- A member of the free set: FREE, both sides LATCHED (R4). -/
def State.inFreeSet (s : State) (c : Nat) : Bool := (s.comp c).state = .free && (s.door c).bothLatched

/-! ## Inputs (R114) -/

/-- The debounced presence value of compartment `c`. -/
def State.presence (s : State) (c : Nat) : Bool :=
  match s.inputs.recs[c]? with
  | some r => r.presence.value
  | none => (Config.unsampledInput c).present

/-- The debounced door value of a side, true when it shows open. -/
def State.doorValue (s : State) (c : Nat) (sd : Side) : Bool :=
  match s.inputs.recs[c]?, sd with
  | some r, .kitchen => r.kitchen.value
  | some r, .counter => r.counter.value
  | none, .kitchen => (Config.unsampledInput c).kitchenOpen
  | none, .counter => (Config.unsampledInput c).counterOpen

/-- One sensor of an input record. -/
def InputRec.door (r : InputRec) : Side → Debounced
  | .kitchen => r.kitchen
  | .counter => r.counter

/-- The third opposite sample of a door has been seen and its change is to be taken (R114). -/
def State.doorChangeDue (s : State) (c : Nat) (sd : Side) : Bool :=
  match s.inputs.recs[c]? with
  | some r => 3 ≤ (r.door sd).run
  | none => false

/-- Take a change of a sensor: the value flips and the run of opposite samples ends. -/
def Debounced.flip (d : Debounced) : Debounced := { value := !d.value, run := 0 }

/-- Take the due change of a door's debounced value (R114). -/
def State.takeDoorChange (c : Nat) (sd : Side) (s : State) : State :=
  { s with inputs := { s.inputs with recs := s.inputs.recs.modify c fun r =>
      match sd with
      | .kitchen => { r with kitchen := r.kitchen.flip }
      | .counter => { r with counter := r.counter.flip } } }

/-! ## Channels and draw -/

/-- A channel in ON. -/
def Channel.isOn : Channel → Bool
  | .on _ => true
  | _ => false

/-- A channel in REST. -/
def Channel.isRest : Channel → Bool
  | .rest _ => true
  | _ => false

/-- The station draw D: channels in ON times P (R44). -/
def State.draw (s : State) : Nat := s.psc.channels.countP Channel.isOn * s.cfg.power

/-- The lowest-numbered IDLE channel (R41). -/
def State.idleChannel (s : State) : Option Nat := s.psc.channels.findIdx? fun ch => ch = .idle

/-- A channel is connected to compartment `c` (R43). -/
def State.connected (s : State) (c : Nat) : Bool := s.psc.channels.contains (.on c)

/-! ## The court -/

/-- Sum of the draws of the live entries, an absent draw counting 0 (R65, R70). -/
def State.peerDraw (s : State) : Nat :=
  (s.peers.map fun e => if e.live then e.draw.getD 0 else 0).sum

/-- Headroom H = W_avail - (D + S), signed (R70). -/
def State.headroom (s : State) : Int := (s.wAvail : Int) - (s.draw + s.peerDraw : Nat)

/-! ## Due queue (R47, R48) -/

/-- The margin of compartment `c`'s estimate record, 0 without one. -/
def State.margin (s : State) (c : Nat) : Nat := ((s.comp c).est.map Estimate.margin).getD 0

/-- The Due flag of compartment `c`, Cleared without an estimate record. -/
def State.due (s : State) (c : Nat) : Bool := ((s.comp c).est.map Estimate.due).getD false

/-- The Urgent flag of compartment `c`. -/
def State.urgent (s : State) (c : Nat) : Bool := ((s.comp c).est.map Estimate.urgent).getD false

/-- The margin order of the due queue: margin, then index (R47). -/
def State.before (s : State) (a b : Nat) : Bool :=
  s.margin a < s.margin b || (s.margin a = s.margin b && a < b)

/-- Place `c` in a list kept in the margin order. -/
def State.place (s : State) (c : Nat) : List Nat → List Nat
  | [] => [c]
  | d :: ds => if s.before c d then c :: d :: ds else d :: s.place c ds

/-- The due queue: every compartment under hold whose Due flag is Set, in the margin order (R47). -/
def State.dueQueue (s : State) : List Nat :=
  ((List.range s.count).filter fun c => (s.comp c).underHold && s.due c).foldr s.place []

/-- Eligible: HOLDING, both sides LATCHED, no channel connected (R48). -/
def State.eligible (s : State) (c : Nat) : Bool :=
  (s.comp c).state = .holding && (s.door c).bothLatched && !s.connected c

/-- The first eligible entry of the due queue (R48). -/
def State.firstEligible (s : State) : Option Nat := s.dueQueue.find? s.eligible

/-! ## Events inside a command -/

/-- Raise a trigger of a start attempt (R49). -/
def State.wake (s : State) : State := s.modPsc fun p => { p with attemptDue := true }

/-- D has changed: the change is handed on, and is a trigger of a start attempt (R44, R49). -/
def State.drawChanged (s : State) : State := s.modPsc fun p => { p with attemptDue := true, drawMoved := true }

/-- A moment recorded at the resolution of the timers, rounded down (R76). -/
def recorded (t : Time) : Time := t / Config.clockStep * Config.clockStep

/-- An optional moment has been reached. -/
def reached (t : Option Time) (now : Time) : Bool :=
  match t with
  | some e => e ≤ now
  | none => false

/-! ## Output chain (00_scope.md; R41, R42, R115, R165) -/

/-- The output chain: two latch drivers per compartment (kitchen, counter), four channel enables, and the
compartment select of each channel. -/
structure OutputChain where
  latches : List (Bool × Bool)
  enables : List Bool
  selects : List (Option Nat)
  deriving DecidableEq, Repr

/-- The compartment whose select is set to a channel. -/
def Channel.select : Channel → Option Nat
  | .on c => some c
  | _ => none

/-- What the output chain shows; while reset is asserted every position is deasserted (R165). -/
def State.outputChain (s : State) : OutputChain :=
  if s.sul.phase = .resetAsserted then
    { latches := s.doors.map fun _ => (false, false), enables := s.psc.channels.map fun _ => false,
      selects := s.psc.channels.map fun _ => none }
  else
    { latches := s.doors.map fun d => (d.kitchen.latchReleased, d.counter.latchReleased),
      enables := s.psc.channels.map Channel.isOn, selects := s.psc.channels.map Channel.select }

end Sys2Proof.Machine
end

