-- ==== Sys2Proof/Machine/Format.lean ====
section
/-! DEFINITION. The byte layouts of chapter 12: Court Line frames with their check (R88, R174), panel port records
with their sum (R175), and the configuration record (R176). -/

namespace Sys2Proof.Machine

/-! ## Encodings at the head of chapter 12 -/

/-- One byte. -/
def be8 (v : Nat) : List Byte := [BitVec.ofNat 8 v]
/-- Two bytes, most significant first. -/
def be16 (v : Nat) : List Byte := [BitVec.ofNat 8 (v / 256), BitVec.ofNat 8 v]
/-- Three bytes, most significant first. -/
def be24 (v : Nat) : List Byte := [BitVec.ofNat 8 (v / 65536), BitVec.ofNat 8 (v / 256), BitVec.ofNat 8 v]
/-- An optional one-byte field: every bit set when absent. -/
def opt8 (v : Option Nat) : List Byte := be8 (v.getD 0xFF)
/-- An optional two-byte field. -/
def opt16 (v : Option Nat) : List Byte := be16 (v.getD 0xFFFF)
/-- An optional three-byte field. -/
def opt24 (v : Option Nat) : List Byte := be24 (v.getD 0xFFFFFF)
/-- A flag: 1 for Set or present, 0 for Cleared or absent (R175). -/
def flag8 (b : Bool) : List Byte := be8 (if b then 1 else 0)
/-- The value of bytes sent most significant first. -/
def fromBe (bs : List Byte) : Nat := bs.foldl (fun acc b => acc * 256 + b.toNat) 0

/-! ## Codes, in the order the chapters list the values -/

/-- SERVING, WINDING_DOWN, SHUT. -/
def ServiceMode.code : ServiceMode → Nat
  | .serving => 0
  | .windingDown => 1
  | .shut => 2
/-- Line modes in a frame (R174). -/
def PeerLine.code : PeerLine → Nat
  | .joining => 0
  | .court => 1
  | .isolated => 2
  | .mismatched => 3
/-- Line modes in STATUS replies and notices (R175). -/
def LineMode.code : LineMode → Nat
  | .joining => 0
  | .court => 1
  | .isolated => 2
  | .mismatchedParameters => 3
  | .mismatchedClash => 4
/-- A line mode as a DRAW carries it: MISMATCHED without its qualifier (R93). -/
def LineMode.peerLine : LineMode → PeerLine
  | .joining => .joining
  | .court => .court
  | .isolated => .isolated
  | .mismatchedParameters => .mismatched
  | .mismatchedClash => .mismatched
/-- GONE reasons (R174). -/
def GoneReason.code : GoneReason → Nat
  | .collected => 0
  | .condemned => 1
  | .removed => 2
/-- HELLO kinds (R174). -/
def HelloKind.code : HelloKind → Nat
  | .fresh => 0
  | .answer => 1
/-- Compartment states (R1). -/
def CState.code : CState → Nat
  | .free => 0
  | .loading => 1
  | .holding => 2
  | .collecting => 3
  | .attending => 4
  | .condemned => 5
  | .faulted => 6
  | .outOfService => 7
/-- Prior state: as a compartment state or by its own list (FREE, log 11). -/
def Prior.code (p : Prior) : Nat :=
  match p with
  | .holding => if Config.priorCodedAsState then CState.code .holding else 0
  | .condemned => if Config.priorCodedAsState then CState.code .condemned else 1
  | .faulted => if Config.priorCodedAsState then CState.code .faulted else 2
/-- Condemn reasons (R1). -/
def CondemnReason.code : CondemnReason → Nat
  | .expired => 0
  | .cold => 1
  | .coldReading => 2
  | .forced => 3
  | .restart => 4
  | .fault => 5
/-- Fault reasons (R1). -/
def FaultReason.code : FaultReason → Nat
  | .sensor => 0
  | .overheat => 1
  | .element => 2
/-- Sides: K, C (R175). -/
def sideCode : Side → Nat
  | .kitchen => 0
  | .counter => 1
/-- Holders: NONE, KITCHEN, COUNTER (R113). -/
def holderCode : Option Side → Nat
  | none => 0
  | some .kitchen => 1
  | some .counter => 2
/-- Side states (R113). -/
def SideState.code : SideState → Nat
  | .latched => 0
  | .released => 1
  | .opened => 2
  | .settling => 3
/-- Causes of CONFIG_FAULT (R168, R175). -/
def FaultCause.code : FaultCause → Nat
  | .memory => 0
  | .sum => 1
  | .structural => 2
  | .court => 3
/-- Kitchen outcomes, from 1 (R175). -/
def KOutcome.code : KOutcome → Nat
  | .accepted => 1
  | .wait => 2
  | .mode => 3
  | .cleared => 4
  | .badField => 5
  | .badCompartment => 6
  | .faulted => 7
  | .state => 8
  | .busy => 9
  | .bankShut => 10
  | .classOff => 11
  | .duplicate => 12
  | .tooCool => 13
  | .heatFull => 14
  | .courtFault => 15
  | .noSpace => 16
  | .fault => 17
/-- Counter outcomes, from 1 (R175). -/
def COutcome.code : COutcome → Nat
  | .opened => 1
  | .wait => 2
  | .notReady => 3
  | .seeStaff => 4
  | .lockedOut => 5
  | .wrongCode => 6
  | .elsewhere => 7
  | .alreadyCollected => 8
  | .unknown => 9
  | .cancelled => 10
  | .nothingPending => 11
  | .busy => 12
  | .badField => 13
  | .fault => 14

/-! ## Court Line frames (R88, R174) -/

/-- One bit into the check register: shift left, and exclusive-or 0x1021 when the bit shifted out differs from the
data bit (R174). -/
def crcBit (reg : BitVec 16) (bit : Bool) : BitVec 16 :=
  if reg.msb != bit then (reg <<< 1) ^^^ 0x1021#16 else reg <<< 1

/-- The eight bits of a byte, most significant first (R88). -/
def bitsOf (b : Byte) : List Bool := [7, 6, 5, 4, 3, 2, 1, 0].map b.getLsbD

/-- The check over bytes, from 0xFFFF (R174). -/
def crc (bs : List Byte) : BitVec 16 := bs.foldl (fun reg b => (bitsOf b).foldl crcBit reg) 0xFFFF#16

/-- A frame: lead, length, payload, check (R88). -/
def frameRecord (kind sender : Nat) (payload : List Byte) : List Byte :=
  let body := be8 (kind * 32 + sender) ++ be8 payload.length ++ payload
  body ++ be16 (crc body).toNat

/-- The kind code of a frame (R92). -/
def Frame.kind : Frame → Nat
  | .claim _ _ _ => 0
  | .draw => 1
  | .gone _ _ _ => 2
  | .stowed _ _ _ => 3
  | .query _ => 4
  | .hello _ _ => 5

/-- The payload of a DRAW (R93). -/
def DrawReport.payload (r : DrawReport) : List Byte :=
  be8 r.service.code ++ be8 r.line.code ++ be16 r.draw ++ be8 r.power ++ opt16 r.margin ++ be8 r.due ++ be8 r.holding

/-- The payload of a frame; a DRAW takes the report filled in when its attempt begins (R89). -/
def Frame.payload (report : DrawReport) : Frame → List Byte
  | .claim amount margin sequence => be16 amount ++ be16 margin ++ be8 sequence
  | .draw => report.payload
  | .gone tag comp reason => be24 tag ++ be8 comp ++ be8 reason.code
  | .stowed tag comp cls => be24 tag ++ be8 comp ++ be8 cls
  | .query tag => be24 tag
  | .hello kind p => be8 kind.code ++ be16 p.wc ++ be16 p.wr ++ be16 p.wg ++ be8 p.n ++ be8 p.count

/-- The bytes of a frame as station `sender` sends it. -/
def Frame.bytes (sender : Nat) (report : DrawReport) (f : Frame) : List Byte :=
  frameRecord f.kind sender (f.payload report)

/-! ## Port records (R175) -/

/-- The sum byte: makes the modulo-256 sum of the whole record 0. -/
def sumByte (bs : List Byte) : Byte := -(bs.foldl (· + ·) 0#8)

/-- A port record: length, kind, fields, sum. -/
def portRecord (kind : Nat) (fields : List Byte) : List Byte :=
  let body := be8 (fields.length + 3) ++ be8 kind ++ fields
  body ++ [sumByte body]

/-- A pulse length in tenths of a second (R153); the rounding of a part of a tenth is FREE (log 9). -/
def tenths (ms : Time) : Nat := ms / 100 + if ms % 100 ≠ 0 && Config.tenthsRoundUp ms then 1 else 0

/-- H in two bytes, two's complement; outside the two bytes it is FREE (log 12). -/
def headroomBytes (h : Int) : List Byte :=
  if -32768 ≤ h ∧ h ≤ 32767 then be16 (BitVec.ofInt 16 h).toNat else be16 (Config.headroomOutOfRange h)

/-- The pulse fields of a STATUS(c) reply: state, channel, planned length, run-so-far, remaining length (R153). -/
def PulseReport.fields : PulseReport → List Byte
  | .noPulse => be8 0 ++ opt8 none ++ opt16 none ++ opt16 none ++ opt16 none
  | .running ch planned run => be8 1 ++ be8 ch ++ be16 (tenths planned) ++ be16 (tenths run) ++ opt16 none
  | .suspended remaining => be8 2 ++ opt8 none ++ opt16 none ++ opt16 none ++ be16 (tenths remaining)

/-- The fields of a STATUS(c) reply, in the order of R153; a pending FORCED is code 6 (R175). -/
def CompStatus.fields (r : CompStatus) : List Byte :=
  be8 r.state.code ++ opt8 (r.prior.map Prior.code) ++ opt24 r.tag ++ opt8 r.cls ++ opt16 r.limit
    ++ be16 r.remaining ++ opt16 r.estimate ++ opt16 r.margin ++ flag8 r.due ++ flag8 r.urgent
    ++ opt8 (if r.pendingForced then some 6 else r.condemn.map CondemnReason.code)
    ++ opt8 (r.fault.map FaultReason.code) ++ opt8 (r.mealPresent.map fun b => if b then 1 else 0)
    ++ be8 (holderCode r.holder) ++ be8 r.kitchenSide.code ++ be8 r.counterSide.code
    ++ flag8 r.kitchenReq ++ flag8 r.counterReq ++ r.pulse.fields ++ be8 r.wrongCount ++ be16 r.lockoutSeconds

/-- The sticky flags byte: bit 0 NOTE_LOST, 1 PEER_MISMATCH, 2 AMBIENT_HELD, 3 NOTICE_LOST (R175); bits 4 to 7, which
the spec names nowhere, are FREE (log 40). -/
def StationStatus.sticky (r : StationStatus) : Nat :=
  (if r.noteLost then 1 else 0) + (if r.peerMismatch then 2 else 0) + (if r.ambientHeld then 4 else 0)
    + (if r.noticeLost then 8 else 0) + 16 * Config.stickyUpperBits.toNat

/-- The fields of a STATUS(station) reply, in the order of R154. -/
def StationStatus.fields (r : StationStatus) : List Byte :=
  opt8 (r.line.map LineMode.code) ++ opt8 (r.service.map ServiceMode.code) ++ be16 r.draw ++ be16 r.share
    ++ headroomBytes r.headroom ++ be8 r.livePeers ++ be16 r.peerDue ++ be16 r.peerHolding ++ opt16 r.peerMargin
    ++ be8 r.due ++ be8 r.holding ++ be8 r.occupied ++ be8 r.sticky ++ be16 r.rxErrors

/-- The own part of a WHERE reply, all ones when absent. -/
def whereOwnFields : Option WhereOwn → List Byte
  | some o => be8 o.comp ++ be8 o.state.code
  | none => opt8 none ++ opt8 none

/-- The directory part of a WHERE reply; the seconds are held at 65534 (R175). -/
def whereDirFields : Option WhereDir → List Byte
  | some d => be8 d.station ++ be8 d.comp ++ be8 d.cls ++ be16 (min 65534 d.seconds)
  | none => opt8 none ++ opt8 none ++ opt8 none ++ opt16 none

/-- The bytes of a kitchen reply (kinds 64 to 67). -/
def KReply.bytes : KReply → List Byte
  | .outcome o c arg => portRecord 64 (be8 o.code ++ opt8 c ++ opt8 arg)
  | .comp s => portRecord 65 s.fields
  | .station s => portRecord 66 s.fields
  | .whereIs own dir => portRecord 67 (whereOwnFields own ++ whereDirFields dir)

/-- The bytes of a counter reply (kind 80). -/
def CReply.bytes (r : CReply) : List Byte := portRecord 80 (be8 r.outcome.code ++ opt16 r.arg)

/-- Four argument bytes of a notice, unused bytes 0xFF (R175). -/
def noticeArgs (args : List Byte) : List Byte := (args ++ [0xFF#8, 0xFF#8, 0xFF#8, 0xFF#8]).take 4

/-- Number and arguments of a kitchen notice, in the order of R156 from 1. -/
def KNotice.fields : KNotice → List Byte
  | .condemned c reason => be8 1 ++ noticeArgs (be8 c ++ be8 reason.code)
  | .faulted c reason => be8 2 ++ noticeArgs (be8 c ++ be8 reason.code)
  | .doorAjar c side => be8 3 ++ noticeArgs (be8 c ++ be8 (sideCode side))
  | .doorForced c side => be8 4 ++ noticeArgs (be8 c ++ be8 (sideCode side))
  | .granted c => be8 5 ++ noticeArgs (be8 c)
  | .attendVoid c => be8 6 ++ noticeArgs (be8 c)
  | .waitLapsed c => be8 7 ++ noticeArgs (be8 c)
  | .loadLapsed c => be8 8 ++ noticeArgs (be8 c)
  | .tagElsewhere tag station => be8 9 ++ noticeArgs (be24 tag ++ be8 station)
  | .lineMode mode => be8 10 ++ noticeArgs (be8 mode.code)
  | .peerMismatch => be8 11 ++ noticeArgs []
  | .bankShut => be8 12 ++ noticeArgs []

/-- Number and arguments of a counter notice, in the order of R163 from 1. -/
def CNotice.fields : CNotice → List Byte
  | .granted c => be8 1 ++ noticeArgs (be8 c)
  | .seeStaff c => be8 2 ++ noticeArgs (be8 c)
  | .waitLapsed c => be8 3 ++ noticeArgs (be8 c)
  | .doorAjar c => be8 4 ++ noticeArgs (be8 c)

/-- The bytes of a kitchen notice (kind 96). -/
def KNotice.bytes (n : KNotice) : List Byte := portRecord 96 n.fields

/-- The bytes of a counter notice (kind 97). -/
def CNotice.bytes (n : CNotice) : List Byte := portRecord 97 n.fields

/-! ## Configuration record (R176) -/

/-- The bytes of the record. -/
def configBytes : Nat := 85

/-- The number at bytes `start` to `start + n - 1`. -/
def fieldAt (bs : List Byte) (start n : Nat) : Nat := fromBe ((bs.drop start).take n)

/-- Class record `i`, 17 bytes from byte 16 + 17 × i (R176). -/
def classAt (bs : List Byte) (i : Nat) : ClassRec :=
  let b := 16 + 17 * i
  { load := fieldAt bs b 2, floor := fieldAt bs (b + 2) 2, threshold := fieldAt bs (b + 4) 2,
    ceiling := fieldAt bs (b + 6) 2, urgentBand := fieldAt bs (b + 8) 2, cooling := fieldAt bs (b + 10) 1,
    gain := fieldAt bs (b + 11) 1, pulseLen := fieldAt bs (b + 12) 1, maxHold := fieldAt bs (b + 13) 2,
    duty := fieldAt bs (b + 15) 2 }

/-- The record the bytes hold (R176); of the flags byte only bit 0 is read. -/
def configOf (bs : List Byte) : ConfigRec :=
  { address := fieldAt bs 0 1, courtSize := fieldAt bs 1 1, count := fieldAt bs 2 1, reach := fieldAt bs 3 1,
    power := fieldAt bs 4 1, allowance := fieldAt bs 5 2, reserve := fieldAt bs 7 2, guardW := fieldAt bs 9 2,
    isolated := fieldAt bs 11 2, ambient := fieldAt bs 13 2, startShut := fieldAt bs 15 1 % 2 = 1,
    classes := [classAt bs 0, classAt bs 1, classAt bs 2, classAt bs 3] }

end Sys2Proof.Machine
end

