-- ==== Sys2Proof/Machine/Operands.lean ====
section
/-! DEFINITION. The checks the spec makes on operands: the form of port records (R147, R175), the content of frames
(R94, R174), readings (R132) and the configuration record (R166, R167, R23). -/

namespace Sys2Proof.Machine

/-! ## Port records -/

/-- A tag in range (R175). -/
def tagOk (tag : Nat) : Bool := 1 ≤ tag && tag ≤ 999999
/-- A pickup code in range. -/
def codeOk (code : Nat) : Bool := code ≤ 9999

/-- The form of a LOAD (R3 check 1, R175). -/
def loadForm (len tag code cls reach limit probe : Nat) : Bool :=
  len = 14 && tagOk tag && codeOk code && cls ≤ 3 && reach ≤ 1 && limit ≤ 14400 && (probe ≤ 1200 || probe = 65535)

/-- The probe of a LOAD: 0xFFFF for none. -/
def loadProbe (probe : Nat) : Option Nat := if probe = 65535 then none else some probe

/-- The form of a COLLECT (R158). -/
def collectForm (len tag code : Nat) : Bool := len = 8 && tagOk tag && codeOk code

/-- The compartment a refused record names: its byte, or, in a record of wrong length, FREE (log 10). -/
def namedComp (kind len want c : Nat) : Option Nat :=
  if len = want then some c
  else if 4 ≤ len && Config.wrongLengthNames kind len then some c else none

/-! ## Frames (R174) -/

/-- Service mode of a code. -/
def serviceOf : Nat → Option ServiceMode
  | 0 => some .serving
  | 1 => some .windingDown
  | 2 => some .shut
  | _ => none

/-- Line mode of a frame's code. -/
def peerLineOf : Nat → Option PeerLine
  | 0 => some .joining
  | 1 => some .court
  | 2 => some .isolated
  | 3 => some .mismatched
  | _ => none

/-- GONE reason of a code. -/
def goneReasonOf : Nat → Option GoneReason
  | 0 => some .collected
  | 1 => some .condemned
  | 2 => some .removed
  | _ => none

/-- Content of a DRAW: its two modes are among their values. -/
def drawContent (service line : Nat) : Bool := (serviceOf service).isSome && (peerLineOf line).isSome

/-- Content of a GONE. -/
def goneContent (tag comp reason : Nat) : Bool := tagOk tag && comp < 32 && (goneReasonOf reason).isSome

/-- Content of a STOWED. -/
def stowedContent (tag comp cls : Nat) : Bool := tagOk tag && comp < 32 && cls ≤ 3

/-- Content of a HELLO: compartment count 8 to 32. -/
def helloContent (count : Nat) : Bool := 8 ≤ count && count ≤ 32

/-! ## Readings -/

/-- The temperature of a valid reading, none for an invalid one (R132). -/
def readingValue : Reading → Option Nat
  | .value v => if 0 ≤ v ∧ v ≤ 1200 then some v.toNat else none
  | .noAnswer => none
  | .invalidCode => none

/-! ## Configuration record -/

/-- How a read failed (R166). -/
inductive ReadFailure where
  | noAnswer
  | badSum
  deriving DecidableEq, Repr

/-- The record a read gave, or how it failed: no answer at some byte, or a bad sum over the 85 bytes (R166, R176). -/
def readRecord : ConfigRead → Except ReadFailure ConfigRec
  | .noAnswer => .error .noAnswer
  | .data bs =>
    if bs.length < configBytes then .error .noAnswer
    else if (bs.take configBytes).foldl (· + ·) 0#8 = 0#8 then .ok (configOf bs)
    else .error .badSum

/-- The structural checks: every field of R166 but the class records within its range (R167). -/
def ConfigRec.structureOk (r : ConfigRec) : Bool :=
  r.address ≤ 31 && (1 ≤ r.courtSize && r.courtSize ≤ 32) && (8 ≤ r.count && r.count ≤ 32) && r.reach ≤ r.count
    && (10 ≤ r.power && r.power ≤ 100) && (100 ≤ r.allowance && r.allowance ≤ 20000) && r.reserve ≤ 20000
    && r.guardW ≤ 20000 && (10 ≤ r.isolated && r.isolated ≤ 20000) && r.ambient ≤ 1200

/-- The three court checks (R64). -/
def ConfigRec.courtOk (r : ConfigRec) : Bool :=
  r.reserve + r.guardW < r.allowance && r.power ≤ r.share && (r.power ≤ r.isolated && r.isolated ≤ r.reserve)

/-- The cause of the second read's failure (R166). -/
def ReadFailure.cause : ReadFailure → FaultCause
  | .noAnswer => .memory
  | .badSum => .sum

/-- The record to use, or the cause of CONFIG_FAULT: read, read once more, structure, court, in that order
(R166, R167). -/
def checkConfig (first second : ConfigRead) : Except FaultCause ConfigRec :=
  let read : Except FaultCause ConfigRec :=
    match readRecord first with
    | .ok r => .ok r
    | .error _ =>
      match readRecord second with
      | .ok r => .ok r
      | .error e => .error e.cause
  match read with
  | .error e => .error e
  | .ok r => if !r.structureOk then .error .structural else if !r.courtOk then .error .court else .ok r

/-- Every parameter of the class lies within its range (R22). -/
def ClassRec.inRange (k : ClassRec) : Bool :=
  k.load ≤ 1200 && k.floor ≤ 1200 && k.threshold ≤ 1200 && k.ceiling ≤ 1000 && k.urgentBand ≤ 1200
    && (1 ≤ k.cooling && k.cooling ≤ 255) && (1 ≤ k.gain && k.gain ≤ 20) && (4 ≤ k.pulseLen && k.pulseLen ≤ 90)
    && (60 ≤ k.maxHold && k.maxHold ≤ 14400) && (1 ≤ k.duty && k.duty ≤ 1000)

/-- The class is enabled: in range, and the four relations of R23. -/
def ClassRec.enabled (k : ClassRec) : Bool :=
  k.inRange && (k.floor < k.threshold && k.threshold < k.load && k.load ≤ k.ceiling)
    && k.threshold + 4 * k.gain ≤ k.ceiling && k.urgentBand < k.threshold - k.floor

end Sys2Proof.Machine
end

