-- ==== Sys2Proof/Machine/Ports.lean ====
section
/-! DEFINITION. The transmitters and notice queues of the two panel ports (R145, R146, R158). -/

namespace Sys2Proof.Machine

/-! ## Notices -/

/-- Queue a kitchen notice: at most 16 are held, a further one is discarded and Sets NOTICE_LOST (R146). -/
def State.notifyKitchen (n : KNotice) (s : State) : State :=
  s.modKp fun k =>
    if k.notices.length < Config.kitchenNotices then { k with notices := k.notices ++ [n] }
    else { k with noticeLost := true }

/-- Queue a counter notice: at most 8 are held, a further one is discarded and Sets NOTICE_LOST (R158). -/
def State.notifyCounter (n : CNotice) (s : State) : State :=
  if s.cp.notices.length < Config.counterNotices then s.modCp fun p => { p with notices := p.notices ++ [n] }
  else s.modKp fun k => { k with noticeLost := true }

/-! ## Replies -/

/-- Give a kitchen reply. -/
def State.replyKitchen (r : KReply) (s : State) : State := s.modKp fun k => { k with replies := k.replies ++ [r] }

/-- A kitchen reply that is an outcome. -/
def State.outcomeKitchen (o : KOutcome) (c arg : Option Nat) (s : State) : State := s.replyKitchen (.outcome o c arg)

/-- Give a counter reply. -/
def State.replyCounter (o : COutcome) (arg : Option Nat) (s : State) : State :=
  s.modCp fun p => { p with replies := p.replies ++ [{ outcome := o, arg := arg }] }

/-- What is being sent is a reply or a BUSY reply: the Kitchen Port is busy until its last byte has been sent (R145). -/
def sendingReply : Option TxJob → Bool
  | some j => j.role != .notice
  | none => false

/-- The Kitchen Port is busy (R145). -/
def KitchenPort.busy (k : KitchenPort) : Bool := !k.replies.isEmpty || k.busyReply.isSome || sendingReply k.tx

/-- The Counter Port sends or waits to send the reply of its request (R158); a lookup wait makes it busy too. The port is
busy until the last byte of that reply has been sent: a BUSY reply that follows does not keep it busy (R158, R164). -/
def CounterPort.replying (p : CounterPort) : Bool := !p.replies.isEmpty || p.tx.any fun j => j.role == .reply

/-- The Counter Port is busy (R158). -/
def State.counterBusy (s : State) : Bool := s.cp.replying || s.cdir.lookup.isSome

/-- Refuse a kitchen record of kind `kind` with BUSY: one such reply waits at most, a further record is discarded
(R145). -/
def State.busyKitchen (kind : Nat) (s : State) : State :=
  s.modKp fun k => if k.busyReply.isSome then k else { k with busyReply := some kind }

/-- Refuse a counter record with BUSY (R158). -/
def State.busyCounter (kind : Nat) (s : State) : State :=
  s.modCp fun p => if p.busyReply.isSome then p else { p with busyReply := some kind }

/-! ## Transmitters -/

/-- What a free kitchen transmitter takes: the reply, a waiting BUSY reply, the oldest notice (R146). -/
def KitchenPort.takeNext (k : KitchenPort) : KitchenPort :=
  match k.replies, k.busyReply, k.notices with
  | r :: rs, _, _ => { k with replies := rs, tx := some { role := .reply, bytes := r.bytes } }
  | [], some kind, _ =>
    { k with busyReply := none,
             tx := some { role := .busyReply, bytes := (KReply.outcome .busy none (some kind)).bytes } }
  | [], none, n :: ns => { k with notices := ns, tx := some { role := .notice, bytes := n.bytes } }
  | [], none, [] => k

/-- A free kitchen transmitter takes the next record. -/
def KitchenPort.pump (k : KitchenPort) : KitchenPort := if k.tx.isSome then k else k.takeNext

/-- What a free counter transmitter takes; while a lookup wait runs its request's reply is still to come, so a BUSY
reply waits behind it (R158). -/
def CounterPort.takeNext (waiting : Bool) (p : CounterPort) : CounterPort :=
  match p.replies, (if waiting then none else p.busyReply), p.notices with
  | r :: rs, _, _ => { p with replies := rs, tx := some { role := .reply, bytes := r.bytes } }
  | [], some kind, _ =>
    { p with busyReply := none,
             tx := some { role := .busyReply, bytes := (CReply.mk .busy (some kind)).bytes } }
  | [], none, n :: ns => { p with notices := ns, tx := some { role := .notice, bytes := n.bytes } }
  | [], none, [] => p

/-- A free counter transmitter takes the next record. -/
def CounterPort.pump (waiting : Bool) (p : CounterPort) : CounterPort := if p.tx.isSome then p else p.takeNext waiting

/-- At the end of an event both transmitters, where free, take their next record (log 7). -/
def State.pump (s : State) : State := (s.modKp KitchenPort.pump).modCp (CounterPort.pump s.cdir.lookup.isSome)

end Sys2Proof.Machine
end

