-- ==== Sys2Proof/Machine/Queue.lean ====
section
/-! DEFINITION. The transmit queue and buffer of the Line Interface (R89, R92, R93). -/

namespace Sys2Proof.Machine

/-- The queue's order: kind code, then age (R92). -/
def Queued.before (a b : Queued) : Bool := a.frame.kind < b.frame.kind || (a.frame.kind = b.frame.kind && a.age < b.age)

/-- Place a frame in the queue by kind and age. -/
def insertQueued (q : Queued) : List Queued → List Queued
  | [] => [q]
  | x :: xs => if q.before x then q :: x :: xs else x :: insertQueued q xs

/-- The queue takes frames: the station reads and sends on the line, and the mode is not MISMATCHED(CLASH) (R92). -/
def State.takesFrames (s : State) : Bool :=
  s.reads && match s.lif.mode with
    | some .mismatchedClash => false
    | some _ => true
    | none => false

/-- A frame of kinds 2 to 5 (R92). -/
def Frame.isNote (f : Frame) : Bool := 2 ≤ f.kind

/-- A HELLO of either kind. -/
def Frame.isHello : Frame → Bool
  | .hello _ _ => true
  | _ => false

/-- Frames of kinds 2 to 5 held in the queue and the buffer together (R92). -/
def Lif.noteCount (l : Lif) : Nat :=
  l.queue.countP (fun q => q.frame.isNote) + (if l.buffer.any fun b => b.frame.isNote then 1 else 0)

/-- A HELLO is held in the queue or the buffer (R92). -/
def Lif.holdsHello (l : Lif) : Bool := l.queue.any (fun q => q.frame.isHello) || l.buffer.any fun b => b.frame.isHello

/-- Place a new frame, with the next age. -/
def Lif.push (f : Frame) (l : Lif) : Lif :=
  { l with queue := insertQueued { frame := f, age := l.stamp } l.queue, stamp := l.stamp + 1 }

/-- The queue without its DRAW. -/
def Lif.removeDraw (l : Lif) : Lif := { l with queue := l.queue.filter fun q => q.frame != .draw }

/-- Queue a DRAW, replacing one already queued (R92, R93). -/
def State.queueDraw (s : State) : State := if s.takesFrames then s.modLif fun l => l.removeDraw.push .draw else s

/-- Queue the final DRAW of MISMATCHED(CLASH), the one frame its queue takes (R99, R101). -/
def State.queueFinalDraw (s : State) : State := s.modLif fun l => l.removeDraw.push .draw

/-- Queue a CLAIM, for which there is always room (R92). -/
def State.queueClaim (amount margin sequence : Nat) (s : State) : State :=
  if s.takesFrames then s.modLif fun l => l.push (.claim amount margin sequence) else s

/-- Queue a frame of kinds 2 to 5: taken when fewer than ten are held, else dropped with NOTE_LOST (R92). -/
def State.queueNote (f : Frame) (s : State) : State :=
  if s.takesFrames then
    s.modLif fun l => if l.noteCount < Config.notePlaces then l.push f else { l with noteLost := true }
  else s

/-- The court parameters a HELLO of this station carries (R96, R100). -/
def State.courtParams (s : State) : CourtParams :=
  { wc := s.cfg.allowance, wr := s.cfg.reserve, wg := s.cfg.guardW, n := s.cfg.courtSize, count := s.cfg.count }

/-- Queue a HELLO(answer), unless a HELLO is held (R92, R100). -/
def State.queueHelloAnswer (s : State) : State :=
  if s.lif.holdsHello then s else s.queueNote (.hello .answer s.courtParams)

/-- The DRAW's contents at this moment (R93). -/
def State.drawReport (s : State) : DrawReport :=
  { service := s.sul.service.getD .serving, line := (s.lif.mode.getD .joining).peerLine, draw := s.draw,
    power := s.cfg.power, margin := s.dueQueue.head?.map s.margin, due := s.dueQueue.length,
    holding := s.holdingCount }

/-- The head frame moves to the buffer, a DRAW filled at this moment, and is sent (R89). -/
def State.startAttempt (s : State) : State :=
  match s.lif.queue with
  | [] => s
  | q :: qs =>
    s.modLif fun l =>
      { l with queue := qs, enable := true,
               buffer := some { frame := q.frame, age := q.age,
                                bytes := q.frame.bytes s.cfg.address s.drawReport, doomed := false } }

/-- A DRAW is queued. -/
def Lif.drawQueued (l : Lif) : Bool := l.queue.any fun q => q.frame = .draw

/-- The buffer's frame returns to its place by kind and age, or is discarded: a DRAW with a newer one queued, or a
frame marked for discard (R90). -/
def Lif.returnFrame (l : Lif) : Lif :=
  match l.buffer with
  | none => l
  | some b =>
    if b.doomed || (b.frame = .draw && l.drawQueued) then { l with buffer := none }
    else { l with buffer := none, queue := insertQueued { frame := b.frame, age := b.age } l.queue }

end Sys2Proof.Machine
end

