-- ==== Sys2Proof/Machine/Flags.lean ====
section
/-! DEFINITION. The flags: Due, Urgent and margin of an estimate (R32), and the station's sticky flags (R152). -/

namespace Sys2Proof.Machine

/-- Marking: margin, Due and Urgent from the estimate (R32). -/
def Estimate.mark (k : ClassRec) (e : Estimate) : Estimate :=
  { e with margin := e.temp - k.floor, due := e.temp ≤ k.threshold,
           urgent := e.temp ≤ k.threshold && e.temp - k.floor ≤ k.urgentBand }

/-- The due queue entry an estimate record makes: its margin while Due is Set (R47). -/
def queueEntry : Option Estimate → Option Nat
  | some e => if e.due then some e.margin else none
  | none => none

/-- CLEAR FAULTS: the four sticky flags Cleared and the receive error count 0 (R152). -/
def State.clearSticky (s : State) : State :=
  ((s.modLif fun l => { l with noteLost := false, peerMismatch := false, rxErrors := 0 }).modSsu
    fun u => { u with ambientHeld := false }).modKp fun k => { k with noticeLost := false }

end Sys2Proof.Machine
end

