-- ==== Sys2Proof/Machine/Estimator.lean ====
section
/-! DEFINITION. The Hold Estimator (chapter 2): hold start, credit, drop, planned length, hold remaining. -/

namespace Sys2Proof.Machine

/-- The starting estimate (R25): Tl without a probe, else the probe held at Tc. -/
def ClassRec.startTemp (k : ClassRec) : Option Nat → Nat
  | none => k.load
  | some p => min k.ceiling p

/-- The estimate record of a hold that starts at `now` with hold limit `limit` seconds (R25). -/
def Estimate.start (k : ClassRec) (probe : Option Nat) (now : Time) (limit : Nat) : Estimate :=
  Estimate.mark k
    { temp := k.startTemp probe, steps := 0, uncredited := 0, margin := 0, due := false, urgent := false,
      decayAt := now + Config.decayPeriod, limitAt := some (now + limit * 1000) }

/-- Credit: each whole second of uncredited on-time raises the estimate by g, held at Tc; the fraction is kept
(R33). -/
def Estimate.credit (k : ClassRec) (e : Estimate) : Estimate :=
  if e.uncredited / 1000 = 0 then e
  else { e with temp := min k.ceiling (e.temp + k.gain * (e.uncredited / 1000)), uncredited := e.uncredited % 1000 }

/-- The drop for cooling at ambient `a`: 0 at or below ambient, else floor((T - A) × k / 1024), raised to 1
(R29). -/
def coolingDrop (k : ClassRec) (a temp : Nat) : Nat :=
  if temp ≤ a then 0 else max 1 ((temp - a) * k.cooling / 1024)

/-- Credit and drop of a decay step (R28 parts 1 and 2). -/
def Estimate.cool (k : ClassRec) (a : Nat) (e : Estimate) : Estimate :=
  let e1 := e.credit k
  { e1 with temp := e1.temp - coolingDrop k a e1.temp }

/-- Planned length L in whole seconds (R35). -/
def ClassRec.plannedLength (k : ClassRec) (temp : Nat) : Nat :=
  min (min k.pulseLen Config.maxOnSeconds) ((k.ceiling - temp) / k.gain)

/-- Hold age of a record with a hold start (R26). -/
def holdAge (start now : Time) : Time := now - start

/-- Hold remaining in whole seconds (R26). A record with a hold limit whose hold never started and which is not
LOADING has none stated: FREE (log 14). -/
def CompRec.holdRemaining (r : CompRec) (now : Time) : Nat :=
  match r.meal, r.holdStart with
  | none, _ => 0
  | some m, some start => (m.limit * 1000 - holdAge start now) / 1000
  | some m, none => if r.state = .loading then m.limit else Config.unstartedRemaining m.limit

/-- Replace the estimate record of `c`; a change of its due queue entry is a trigger of a start attempt
(R47, R49). -/
def State.setEst (c : Nat) (e : Option Estimate) (s : State) : State :=
  let s1 := s.modComp c fun r => { r with est := e }
  if queueEntry (s.comp c).est = queueEntry e then s1 else s1.wake

/-- A credit point that is a pulse end or a suspension: credit, then marking (R34). -/
def State.creditPoint (c : Nat) (s : State) : State :=
  match (s.comp c).est with
  | none => s
  | some e =>
    let k := s.mealClass (s.comp c)
    s.setEst c (some ((e.credit k).mark k))

end Sys2Proof.Machine
end

