-- ==== Sys2Proof/Machine/Pulses.lean ====
section
/-! DEFINITION. Heater channels and pulses (chapter 3): activation, release, end, suspension and cut, with what the
Sensor Scan Unit is told of runs (R138, R139). -/

namespace Sys2Proof.Machine

/-- The start of a run: the reference takes the last reading and a pending check is Cleared (R138). -/
def ReadingRec.runStart (r : ReadingRec) : ReadingRec := { r with reference := r.last, pending := false }

/-- The end of a run of `len` ms: a check is pending when it lasted at least 10 s and a reference is present
(R139). -/
def ReadingRec.runEnd (len : Time) (r : ReadingRec) : ReadingRec :=
  if 10000 ≤ len ∧ r.reference.isSome then { r with pending := true } else r

/-- Release a channel to REST when it drives `c` (R42). -/
def Channel.release (c : Nat) (now : Time) (ch : Channel) : Channel :=
  if ch = .on c then .rest (now + Config.rest) else ch

/-- Release the channel connected to `c`, when there is one; D falls by P (R42, R44). -/
def State.release (c : Nat) (s : State) : State :=
  if s.connected c then
    (s.modPsc fun p => { p with channels := p.channels.map (Channel.release c s.now) }).drawChanged
  else s

/-- The pulse of `c` is RUNNING. -/
def Pulse.isRunning (p : Pulse) : Bool :=
  match p.state with
  | .running _ => true
  | .suspended => false

/-- The RUNNING pulse of `c`, if any. -/
def State.runningPulse (s : State) (c : Nat) : Option Pulse := (s.comp c).pulse.filter Pulse.isRunning

/-- Set or remove the pulse record of `c`. -/
def State.setPulse (c : Nat) (p : Option Pulse) (s : State) : State := s.modComp c fun r => { r with pulse := p }

/-- The end of a pulse: release, credit point, record removed, the scan told of the run (R55). -/
def State.endPulse (c : Nat) (p : Pulse) (s : State) : State :=
  (((s.release c).creditPoint c).setPulse c none).modReading c (ReadingRec.runEnd p.run)

/-- The suspension of a RUNNING pulse: release, credit point, the scan told, and the record kept as SUSPENDED when
the compartment is still due; at its planned length it is the pulse end (R56). -/
def State.suspendPulse (c : Nat) (p : Pulse) (s : State) : State :=
  if p.planned ≤ p.run then s.endPulse c p
  else
    let s1 := ((s.release c).creditPoint c).modReading c (ReadingRec.runEnd p.run)
    s1.setPulse c (if s1.due c then some { p with state := .suspended } else none)

/-- Suspend the pulse of `c` if it is RUNNING (R56, R57). -/
def State.suspend (c : Nat) (s : State) : State :=
  match s.runningPulse c with
  | some p => s.suspendPulse c p
  | none => s

/-- Tell the scan of a run's end within a cut (R59, R139). -/
def State.cutRun (c : Nat) (s : State) : State :=
  match s.runningPulse c with
  | some p => s.modReading c (ReadingRec.runEnd p.run)
  | none => s

/-- A channel cut: release without credit, pulse record removed, estimate record and due queue entry removed
(R37, R59). -/
def State.dropHold (c : Nat) (s : State) : State := (((s.cutRun c).release c).setPulse c none).setEst c none

/-- The length of a run that starts now: L for a new pulse (R52); for a SUSPENDED one the greater of 4 s and the
lesser of the remaining length and L (R53). In ms. -/
def runLength (k : ClassRec) (temp : Nat) : Option Pulse → Time
  | none => k.plannedLength temp * 1000
  | some p => max Config.minOnTime (min (p.planned - p.run) (k.plannedLength temp * 1000))

/-- Activation of a new pulse or resumption of a SUSPENDED one on channel `ch` (R41, R52, R53): D rises by P, the
stagger starts, the scan takes its reference. -/
def State.activate (c ch : Nat) (s : State) : State :=
  match (s.comp c).est with
  | none => s
  | some e =>
    let k := s.mealClass (s.comp c)
    let p : Pulse :=
      { state := .running ch, planned := runLength k e.temp (s.comp c).pulse, run := 0, start := s.now }
    (((s.setPulse c (some p)).modPsc fun q =>
        { q with channels := q.channels.set ch (.on c), lastActivation := some s.now,
                 staggerOn := true }).drawChanged).modReading c ReadingRec.runStart

/-- The stagger has ended: no activation yet, or 0.5 s since the last (R51). -/
def State.staggerEnded (s : State) : Bool :=
  match s.psc.lastActivation with
  | none => true
  | some t => t + Config.stagger ≤ s.now

/-- The moment the stagger ends; now when it has ended (R50). -/
def State.staggerMoment (s : State) : Time :=
  match s.psc.lastActivation with
  | none => s.now
  | some t => max s.now (t + Config.stagger)

/-- The moment a channel will next be IDLE: now, the earliest rest end, or none when all are ON (R50). -/
def State.channelMoment (s : State) : Option Time :=
  if s.idleChannel.isSome then some s.now
  else s.psc.channels.foldl (fun acc ch =>
    match ch, acc with
    | .rest t, none => some t
    | .rest t, some u => some (min t u)
    | _, a => a) none

/-- The better of two victims: the larger margin, among equal margins the higher index (R58, R61). Candidates come
with rising index. -/
def State.largerMargin (s : State) (best : Option Nat) (c : Nat) : Option Nat :=
  match best with
  | none => some c
  | some b => if s.margin b ≤ s.margin c then some c else some b

/-- Among the compartments `ok` picks, the one with the largest margin, then the highest index. -/
def State.largest (s : State) (ok : Nat → Bool) : Option Nat :=
  ((List.range s.count).filter ok).foldl s.largerMargin none

/-- Suspend RUNNING pulses, largest margin first, until D is at or below `limit` (R58). -/
def reduce (limit : Nat) : Nat → State → State
  | 0, s => s
  | n + 1, s =>
    if s.draw ≤ limit then s
    else
      match s.largest fun c => (s.runningPulse c).isSome with
      | none => s
      | some c => reduce limit n (s.suspend c)

/-- A reduction order with a draw limit (R58): at most one suspension per ON channel is needed. -/
def State.reduceTo (limit : Nat) (s : State) : State := reduce limit (s.psc.channels.countP Channel.isOn) s

end Sys2Proof.Machine
end

