-- ==== Sys2Proof/Machine/Share.lean ====
section
/-! DEFINITION. The Draw Share Unit (chapter 4): permission, claims, overrun fall-back; and the start attempts of the
Pulse Scheduler (R49, R50, R54, R61), which ask it. -/

namespace Sys2Proof.Machine

/-! ## Claims -/

/-- A CLAIM frame. -/
def Frame.isClaim : Frame → Bool
  | .claim _ _ _ => true
  | _ => false

/-- Remove the CLAIM from the queue; one under attempt is discarded at the end of its attempt (R80, R90). -/
def Lif.removeClaim (l : Lif) : Lif :=
  { l with queue := l.queue.filter (fun q => !q.frame.isClaim),
           buffer := l.buffer.map fun b => if b.frame.isClaim then { b with doomed := true } else b }

/-- Drop an outstanding own claim without result (R80). -/
def State.dropClaim (s : State) : State :=
  match s.dsu.claim with
  | .noClaim => s
  | .queued _ _ _ => (s.modDsu fun d => { d with claim := .noClaim }).modLif Lif.removeClaim
  | .window _ _ _ _ _ => s.modDsu fun d => { d with claim := .noClaim }

/-- Make a claim for P with the candidate's margin (R75). -/
def State.makeClaim (margin : Nat) (s : State) : State :=
  (s.modDsu fun d =>
      { d with claim := .queued s.cfg.power margin s.dsu.sequence, sequence := (s.dsu.sequence + 1) % 256 }).queueClaim
    s.cfg.power margin s.dsu.sequence

/-! ## Permission (R71, R72) -/

/-- The answers to a request for draw (R50). -/
inductive Answer where
  | permitted
  | claiming
  | refused
  deriving DecidableEq, Repr

/-- D + P. -/
def State.drawPlus (s : State) : Nat := s.draw + s.cfg.power

/-- The isolated draw limit is kept: D + P ≤ Wi. -/
def State.withinIsolated (s : State) : Bool := s.drawPlus ≤ s.cfg.isolated

/-- D + P ≤ F. -/
def State.withinShare (s : State) : Bool := s.drawPlus ≤ s.share

/-- ISOLATED or MISMATCHED. -/
def LineMode.apart : LineMode → Bool
  | .isolated | .mismatchedParameters | .mismatchedClash => true
  | .joining | .court => false

/-- A claim is outstanding (R74). -/
def ClaimRec.outstanding : ClaimRec → Bool
  | .noClaim => false
  | .queued _ _ _ | .window _ _ _ _ _ => true

/-- Cases 4 and 5 of R72: a channel will be IDLE and the stagger ended within 250 ms. -/
def State.readySoon (s : State) : Bool :=
  (match s.channelMoment with
    | none => false
    | some t => t ≤ s.now + Config.claimHalfWindow) && s.staggerMoment ≤ s.now + Config.claimHalfWindow

/-- A request for draw beyond F in COURT (R72). -/
def State.requestClaim (margin : Nat) (s : State) : Answer × State :=
  if s.cfg.courtSize = 1 then (.refused, s)
  else if s.dsu.claim.outstanding then (.claiming, s)
  else if s.dsu.lostUntil.isSome || s.dsu.overrunUntil.isSome then (.refused, s)
  else if s.readySoon then (.claiming, s.makeClaim margin)
  else (.refused, s)

/-- The answer to a request for draw, by overrun hold and line mode (R71). -/
def State.requestDraw (margin : Nat) (s : State) : Answer × State :=
  match s.lif.mode with
  | none => (.refused, s)
  | some m =>
    if s.dsu.overrunUntil.isSome then
      (if s.withinShare && (!m.apart || s.withinIsolated) then .permitted else .refused, s)
    else if m.apart then
      (if s.withinIsolated && (s.withinShare || decide ((s.cfg.power : Int) ≤ s.headroom)) then .permitted
        else .refused, s)
    else if s.withinShare then (.permitted, s)
    else if m = .court then s.requestClaim margin
    else (.refused, s)

/-! ## Overrun (R81) -/

/-- The overrun test is met: D + S > W_avail and D > F. -/
def State.overrunMet (s : State) : Bool := s.wAvail < s.draw + s.peerDraw && s.share < s.draw

/-- The overrun test and, when it is met, the fall-back: claim dropped, reduction to F, OVERRUN hold in place of a
LOST backoff (R81). -/
def State.overrunTest (s : State) : State :=
  if s.overrunMet then
    (s.dropClaim.reduceTo s.share).modDsu fun d =>
      { d with lostUntil := none, overrunUntil := some (s.now + Config.overrunHold) }
  else s

/-- The change of D has been handed on. -/
def State.drawSettled (s : State) : State := s.modPsc fun p => { p with drawMoved := false }

/-- Hand on a change of D: a DRAW is queued and the overrun test made (R44, R81, R93); the fall-back's own change of
D queues a DRAW in its turn. -/
def State.settleDraw (s : State) : State :=
  if s.psc.drawMoved then
    let s1 := s.drawSettled.queueDraw.overrunTest
    if s1.psc.drawMoved then s1.drawSettled.queueDraw else s1
  else s

/-- A fall of S ends a LOST backoff and tells the scheduler that its answer may have changed (R66, R69, R73, R79). -/
def State.peerDrawFell (s : State) : State := (s.modDsu fun d => { d with lostUntil := none }).wake

/-! ## Start attempts (R50, R54, R61) -/

/-- A pulse that qualifies as a victim of candidate `c`: RUNNING for at least 4 s, at a larger margin (R61). -/
def State.isVictim (s : State) (c v : Nat) : Bool :=
  match s.runningPulse v with
  | some p => Config.minOnTime ≤ p.run && s.margin c < s.margin v
  | none => false

/-- Preemption for the urgent candidate `c`: no channel in REST, and the victim of largest margin, then highest
index, is suspended (R61). -/
def State.preempt (c : Nat) (s : State) : State :=
  if s.psc.channels.any Channel.isRest then s
  else
    match s.largest (s.isVictim c) with
    | none => s
    | some v => s.suspend v

/-- Activation is possible under the answer: PERMITTED, a channel IDLE, the stagger ended (R50 step 3). -/
def State.canActivate (a : Answer) (s : State) : Bool := a = .permitted && s.idleChannel.isSome && s.staggerEnded

/-- Steps 3 and 4 of a start attempt for candidate `c` under the answer `a` (R50, R61). -/
def State.actOn (c : Nat) (a : Answer) (s : State) : State :=
  if s.canActivate a then s.activate c (s.idleChannel.getD 0)
  else if s.urgent c && (a = .refused || (a = .permitted && s.idleChannel.isNone)) then s.preempt c
  else s

/-- A start attempt (R50). -/
def State.attempt (s : State) : State :=
  match s.firstEligible with
  | none => s
  | some c =>
    let r := s.requestDraw (s.margin c)
    r.2.actOn c r.1

/-- A granted claim: an attempt in which the grant stands for the answer; unused, it lapses and a DRAW is queued
(R54, R78). -/
def State.useGrant (s : State) : State :=
  match s.firstEligible with
  | none => s.queueDraw
  | some c => if s.canActivate .permitted then s.actOn c .permitted else (s.actOn c .permitted).queueDraw

/-- The triggers have been used up. -/
def State.asleep (s : State) : State := s.modPsc fun p => { p with attemptDue := false }

/-- The start attempts of one event: one for a raised trigger, and again while an attempt raises one. An event makes
at most one activation (the stagger) and one preemption (R62), so four rounds are more than it needs. -/
def runAttempts : Nat → State → State
  | 0, s => s.asleep
  | n + 1, s => if s.psc.attemptDue then runAttempts n s.asleep.attempt.settleDraw else s

/-- The end of an event: changes of D handed on, start attempts made, transmitters supplied (log 6, 7). -/
def State.close (s : State) : State := (runAttempts 4 s.settleDraw).pump

end Sys2Proof.Machine
end

