-- ==== Sys2Proof/Machine/LineMode.lean ====
section
/-! DEFINITION. Line modes (R96 to R101) and what every frame does on arrival (R94). -/

namespace Sys2Proof.Machine

/-- The draw limit taken up on entry to a mode (R82). -/
def State.entryLimit (s : State) : LineMode → Option Nat
  | .joining => some s.share
  | .court => none
  | .isolated | .mismatchedParameters | .mismatchedClash => some s.cfg.isolated

/-- Reduce D to a limit, when it stands above it (R82). -/
def State.limitDraw (limit : Option Nat) (s : State) : State :=
  match limit with
  | none => s
  | some l => s.reduceTo l

/-- A change of line mode: the DSU drops its claim on entry to ISOLATED or MISMATCHED and reduces D to the mode's
limit, the scheduler is told, a DRAW is queued (for CLASH the final DRAW), and LINE_MODE is sent (R80, R82, R99). -/
def State.changeMode (m : LineMode) (s : State) : State :=
  let s1 := s.modLif fun l => { l with mode := some m }
  let s2 := if m.apart then s1.dropClaim else s1
  let s3 := (s2.limitDraw (s2.entryLimit m)).wake
  let s4 := if m = .mismatchedClash then s3.queueFinalDraw else s3.queueDraw
  s4.notifyKitchen (.lineMode m)

/-- Entry to ISOLATED (R97). -/
def State.enterIsolated (s : State) : State :=
  (s.modLif fun l => { l with failed := 0, rejoin := false, silenceAt := none, joiningAt := none }).changeMode .isolated

/-- Entry to JOINING from ISOLATED (R98). -/
def State.rejoinCourt (s : State) : State :=
  (s.modLif fun l =>
    { l with silenceAt := some (s.now + Config.silence), joiningAt := some (s.now + Config.joining) }).changeMode .joining

/-- Entry to MISMATCHED(PARAMETERS) (R101). -/
def State.enterParameters (s : State) : State :=
  (s.modLif fun l => { l with silenceAt := none, joiningAt := none }).changeMode .mismatchedParameters

/-- Entry to MISMATCHED(CLASH): the queue emptied, the buffer's frame marked for discard, the timers stopped (R101). -/
def State.enterClash (s : State) : State :=
  (s.modLif fun l =>
    { l with queue := [], buffer := l.buffer.map (fun b => { b with doomed := true }), drawAt := none,
             silenceAt := none, joiningAt := none }).changeMode .mismatchedClash

/-- A well-formed frame with the own address that is not the own completed frame (R101). -/
def State.clash (s : State) : State := if s.lif.mode = some .mismatchedClash then s else s.enterClash

/-- A well-formed frame from a peer restarts the silence timer and Sets the rejoin flag (R94 layer 3). -/
def State.heardPeer (s : State) : State :=
  s.modLif fun l =>
    { l with silenceAt := if l.silenceAt.isSome then some (s.now + Config.silence) else none, rejoin := true }

/-- The receive error count rises by 1, held at 65535 (R94). -/
def State.rxError (s : State) : State :=
  s.modLif fun l => { l with rxErrors := min Config.maxRxErrors (l.rxErrors + 1) }

/-- The arrival of a well-formed frame of kinds 0 to 5: source, then content, then the block that acts on it (R94
layers 3 to 5, R91). Nothing is read before the end of start-up, in CONFIG_FAULT or with N = 1 (R88, R96). -/
def State.receive (sender : Nat) (contentOk : Bool) (act : State → State) (s : State) : State :=
  if !s.reads then s
  else if sender = s.cfg.address then s.clash.close
  else if contentOk then (act s.heardPeer).close
  else s.heardPeer.rxError.close

/-- The sticky flag PEER_MISMATCH Set, with its notice (R95). -/
def State.reportMismatch (s : State) : State :=
  (s.modLif fun l => { l with peerMismatch := true }).notifyKitchen .peerMismatch

/-- The comparison of a HELLO's court parameters with the own: Wc, Wr, Wg and N (R100). -/
def State.compareParams (wc wr wg n : Nat) (s : State) : State :=
  if wc = s.cfg.allowance ∧ wr = s.cfg.reserve ∧ wg = s.cfg.guardW ∧ n = s.cfg.courtSize then s
  else
    match s.lif.mode with
    | some .joining => s.enterParameters
    | some .court | some .isolated => s.reportMismatch
    | some .mismatchedParameters | some .mismatchedClash => s
    | none => s

end Sys2Proof.Machine
end

