-- ==== Sys2Proof/Machine/Table.lean ====
section
/-! DEFINITION. The Compartment Table (chapter 1): condemnation, faults, the hold re-check, the ends of door holds,
allocation and admission, and the service mode's move to SHUT (R172). -/

namespace Sys2Proof.Machine

/-! ## Service mode (R172) -/

/-- The change of the service mode, which queues a DRAW (R93, R171, R172). -/
def State.setService (m : ServiceMode) (s : State) : State := (s.modSul fun u => { u with service := some m }).queueDraw

/-- WINDING_DOWN becomes SHUT within the event in which the occupied count reaches 0: `before` is the state before
the Compartment Table's change, `s` the state after it (R172, log 26). -/
def State.shutIfEmptied (before s : State) : State :=
  if s.sul.service = some .windingDown ∧ 0 < before.occupiedCount ∧ s.occupiedCount = 0 then
    (s.setService .shut).notifyKitchen .bankShut
  else s

/-! ## Condemnation (R14 to R16) -/

/-- Queue GONE with the tag and compartment index, when the record holds a tag. -/
def State.queueGone (c : Nat) (reason : GoneReason) (s : State) : State :=
  match (s.comp c).meal with
  | none => s
  | some m => s.queueNote (.gone m.tag c reason)

/-- Entry to CONDEMNED (R15). -/
def State.condemn (c : Nat) (reason : CondemnReason) (s : State) : State :=
  (((s.dropHold c).modComp c fun r => { r with state := .condemned, condemn := some reason, prior := none }).queueGone c
    .condemned).notifyKitchen (.condemned c reason)

/-- A condemning report for a compartment: taken in HOLDING only (R14). -/
def State.condemnReport (c : Nat) (reason : CondemnReason) (s : State) : State :=
  if (s.comp c).state = .holding then s.condemn c reason else s

/-- The record takes FORCED as a pending verdict: LOADING, COLLECTING, or ATTENDING with prior state HOLDING (R16). -/
def CompRec.takesForced (r : CompRec) : Bool :=
  match r.state with
  | .loading | .collecting => true
  | .attending => r.prior = some .holding
  | _ => false

/-- A forced door reported to the Compartment Table (R14, R16). -/
def State.forcedReport (c : Nat) (s : State) : State :=
  if (s.comp c).state = .holding then s.condemn c .forced
  else if (s.comp c).takesForced then s.modComp c fun r => { r with condemn := some .forced }
  else s

/-! ## Faults (R17, R18) -/

/-- The condemn reason after a fault report (R17). -/
def CompRec.faultCondemn (r : CompRec) (present : Bool) : Option CondemnReason :=
  match r.state with
  | .condemned => r.condemn
  | .free => if present then some .fault else none
  | _ => some .fault

/-- A fault report for a compartment in FREE, LOADING, HOLDING, COLLECTING or CONDEMNED (R17). -/
def State.faultEntry (c : Nat) (reason : FaultReason) (s : State) : State :=
  let r := s.comp c
  let s1 := (s.dropHold c).modComp c fun q =>
    { q with state := .faulted, fault := some reason, mealPresent := some (s.presence c), probe := none,
             condemn := r.faultCondemn (s.presence c) }
  let s2 := if r.state = .condemned then s1 else s1.queueGone c .condemned
  s2.notifyKitchen (.faulted c reason)

/-- A fault report for a compartment in ATTENDING (R18). -/
def State.faultAttending (c : Nat) (reason : FaultReason) (s : State) : State :=
  let s1 := s.modComp c fun q => { q with fault := some reason, mealPresent := some (s.presence c) }
  match (s.comp c).prior with
  | some .holding =>
    (((s1.dropHold c).modComp c fun q => { q with prior := some .faulted, condemn := some .fault }).queueGone c
      .condemned).notifyKitchen (.faulted c reason)
  | some .condemned => (s1.modComp c fun q => { q with prior := some .faulted }).notifyKitchen (.faulted c reason)
  | some .faulted => s1
  | none => s1

/-- A fault report from the Sensor Scan Unit, by the compartment's state (R17, R18). -/
def State.faultReport (c : Nat) (reason : FaultReason) (s : State) : State :=
  match (s.comp c).state with
  | .free | .loading | .holding | .collecting | .condemned => s.shutIfEmptied (s.faultEntry c reason)
  | .attending => s.faultAttending c reason
  | .faulted => s.modComp c fun q => { q with fault := some reason }
  | .outOfService => s

/-! ## Ends of door holds (R7, R8, R9, R11, R13, R17) -/

/-- How a hold ended (R122). -/
inductive HoldEnd where
  | settled (present : Bool)
  | lapse
  | released
  deriving DecidableEq, Repr

/-- The compartment becomes FREE and every optional field is removed (R7, R8, R11, R13). -/
def State.makeFree (c : Nat) (s : State) : State := (s.dropHold c).modComp c fun _ => CompRec.free

/-- The verdict of the hold re-check: the condemn reason, none for HOLDING (R9). -/
def State.recheckVerdict (s : State) (c : Nat) : Option CondemnReason :=
  let r := s.comp c
  let limit := (r.meal.map Meal.limit).getD 0 * 1000
  let age := holdAge (r.holdStart.getD s.now) s.now
  if limit ≤ age then some .expired
  else if (r.est.map Estimate.temp).getD 0 < (s.mealClass r).floor then some .cold
  else if r.condemn = some .forced then some .forced
  else none

/-- The hold re-check (R9); a verdict of HOLDING keeps the estimate record, hold start, limit, timers and pulse. -/
def State.recheck (c : Nat) (s : State) : State :=
  match s.recheckVerdict c with
  | some reason => s.condemn c reason
  | none => s.modComp c fun r => { r with state := .holding, prior := none }

/-- The hold of an accepted LOAD starts: HOLDING, estimate record, STOWED; with a pending FORCED the compartment is
CONDEMNED instead (R7, R25). -/
def State.holdStarts (c : Nat) (s : State) : State :=
  let r := s.comp c
  let s1 := s.modComp c fun q => { q with holdStart := some s.now, probe := none }
  if r.condemn = some .forced then s1.condemn c .forced
  else
    match r.meal with
    | none => s1
    | some m =>
      ((s1.modComp c fun q => { q with state := .holding }).setEst c
        (some (Estimate.start (s.cls m.cls) r.probe s.now m.limit))).queueNote (.stowed m.tag c m.cls)

/-- The end of the kitchen hold of a LOADING compartment (R7, R8, R121). -/
def State.loadingEnd (c : Nat) (k : HoldEnd) (s : State) : State :=
  match k with
  | .settled true => s.holdStarts c
  | .settled false => s.makeFree c
  | .lapse => (s.makeFree c).notifyKitchen (.loadLapsed c)
  | .released => s.makeFree c

/-- The end of the counter hold of a COLLECTING compartment (R11): a return to HOLDING has wrong-code count 0. -/
def State.collectionEnd (c : Nat) (k : HoldEnd) (s : State) : State :=
  match k with
  | .settled false => (s.queueGone c .collected).makeFree c
  | _ =>
    let s1 := s.recheck c
    if (s1.comp c).state = .holding then s1.modComp c fun r => { r with wrongCount := 0 } else s1

/-- The counts of a cleared compartment are set back, the last reading kept (R141). -/
def ReadingRec.clear (r : ReadingRec) : ReadingRec :=
  { r with invalid := 0, cold := 0, weak := 0, pending := false, reference := none }

/-- The end of the kitchen hold of an ATTENDING compartment (R13). -/
def State.attendanceEnd (c : Nat) (k : HoldEnd) (s : State) : State :=
  match k, (s.comp c).prior with
  | .settled false, p =>
    (((if p = some .holding then s.queueGone c .removed else s).makeFree c).modReading c ReadingRec.clear)
  | _, some .holding => s.recheck c
  | _, some .condemned => s.modComp c fun r => { r with state := .condemned, prior := none }
  | .settled true, some .faulted =>
    s.modComp c fun r => { r with state := .faulted, prior := none, mealPresent := some true }
  | _, some .faulted => s.modComp c fun r => { r with state := .faulted, prior := none }
  | _, none => s

/-- The end of a hold of a FAULTED compartment: meal present takes the judgement of a settle (R17). -/
def State.faultedEnd (c : Nat) (k : HoldEnd) (s : State) : State :=
  match k with
  | .settled p => s.modComp c fun r => { r with mealPresent := some p }
  | _ => s

/-- The Compartment Table's change at the end of a hold, by the compartment's state (R122 step 2). Other states have
no hold (log 28). -/
def State.tableHoldEnd (c : Nat) (k : HoldEnd) (s : State) : State :=
  match (s.comp c).state with
  | .loading => s.loadingEnd c k
  | .collecting => s.collectionEnd c k
  | .attending => s.attendanceEnd c k
  | .faulted => s.faultedEnd c k
  | .free | .holding | .condemned | .outOfService => s

/-! ## Allocation (R4) and admission (R84, R85) -/

/-- The lowest-indexed member of the free set among `n` indices from `start`. -/
def State.lowestFree (s : State) (start n : Nat) : Option Nat := (List.range' start n).find? s.inFreeSet

/-- The highest-indexed member of the free set among `n` indices from `start`. -/
def State.highestFree (s : State) (start n : Nat) : Option Nat := (List.range' start n).reverse.find? s.inFreeSet

/-- Allocation (R4): a reach LOAD scans the span forward, then outside it forward; an ordinary LOAD outside the span
in reverse, then the span in reverse while more than three span compartments are free. -/
def State.allocate (s : State) (reach : Bool) : Option Nat :=
  let n := s.cfg.reach
  let rest := s.count - n
  if reach then
    match s.lowestFree 0 n with
    | some c => some c
    | none => s.lowestFree n rest
  else
    match s.highestFree n rest with
    | some c => some c
    | none => if 3 < (List.range n).countP s.inFreeSet then s.highestFree 0 n else none

/-- Σ of R84: the hold duties of the counted compartments and of the LOAD's class. -/
def State.dutySum (s : State) (cls : Nat) : Nat :=
  (s.comps.map fun r => if r.counted then (s.mealClass r).duty else 0).sum + (s.cls cls).duty

/-- The required share R = ceil(Σ × P / 1000) (R84). -/
def State.requiredShare (s : State) (cls : Nat) : Nat := (s.dutySum cls * s.cfg.power + 999) / 1000

/-- The admission test: none when admitted, else the refusal (R85). -/
def State.admission (s : State) (cls : Nat) : Option KOutcome :=
  match s.lif.mode with
  | some .court | some .joining => if s.requiredShare cls ≤ s.share then none else some .heatFull
  | some .isolated => if s.requiredShare cls ≤ s.cfg.isolated then none else some .heatFull
  | some .mismatchedParameters | some .mismatchedClash => some .courtFault
  | none => some .courtFault

/-- The checks of R3 from the second on, in their order: the refusal, or the allocated compartment. -/
def State.loadChecks (s : State) (tag cls : Nat) (reach : Bool) (probe : Option Nat) : Except KOutcome Nat :=
  if s.sul.service ≠ some .serving then .error .bankShut
  else if !s.classEnabled cls then .error .classOff
  else if (s.findTag tag).isSome then .error .duplicate
  else if probe.any fun p => p < (s.cls cls).floor then .error .tooCool
  else
    match s.admission cls with
    | some o => .error o
    | none =>
      if Config.sideLimit ≤ s.sideCount .kitchen then .error .busy
      else
        match s.allocate reach with
        | none => .error .noSpace
        | some c => .ok c

end Sys2Proof.Machine
end

