-- ==== Sys2Proof/Machine/Doors.lean ====
section
/-! DEFINITION. The Door Arbiter (chapter 7): seizes, the course of a hold, remembered requests, forced doors. -/

namespace Sys2Proof.Machine

/-! ## Side records -/

/-- The grant of a seize on the side: RELEASED, latch released, window set (R116). -/
def SideRec.granted (sd : Side) (now : Time) (r : SideRec) : SideRec :=
  { r with state := .released, latchReleased := true, windowEnd := some (now + Config.releaseWindow sd) }

/-- The side becomes OPEN: window and settle removed, ajar time set, ajar noticed Cleared; the latch driver stays as
it is (R118, R120, R127). -/
def SideRec.open_ (sd : Side) (now : Time) (r : SideRec) : SideRec :=
  { r with state := .opened, windowEnd := none, settleEnd := none, ajarAt := some (now + Config.ajarTime sd),
           ajarNoticed := false }

/-- The held side's door closes: latch engaged, SETTLING, settle end set (R119). -/
def SideRec.close (now : Time) (r : SideRec) : SideRec :=
  { r with state := .settling, latchReleased := false, ajarAt := none, settleEnd := some (now + Config.settle) }

/-- The side becomes LATCHED with its latch engaged and no time set (R118, R120, R121, R128). -/
def SideRec.latch (r : SideRec) : SideRec :=
  { r with state := .latched, latchReleased := false, windowEnd := none, ajarAt := none, settleEnd := none }

/-- Update one side of compartment `c`. -/
def State.modSide (c : Nat) (sd : Side) (f : SideRec → SideRec) (s : State) : State :=
  s.modDoor c fun d => d.modSide sd f

/-! ## Seizes (R116) -/

/-- The answers to a seize asked for (R116). -/
inductive SeizeAnswer where
  | granted
  | noRoom
  | ownSide
  | otherSide
  deriving DecidableEq, Repr

/-- The Door Arbiter's answer, by holder, sides and side count (R116). -/
def State.seizeAnswer (s : State) (c : Nat) (sd : Side) : SeizeAnswer :=
  match (s.door c).holder with
  | none => if (s.door c).bothLatched && s.sideCount sd < Config.sideLimit then .granted else .noRoom
  | some h => if h = sd then .ownSide else .otherSide

/-- The grant of a seize: holder, side and latch; the side has left LATCHED, so a RUNNING pulse is suspended
(R57, R116). -/
def State.grantSeize (c : Nat) (sd : Side) (s : State) : State :=
  (s.modDoor c fun d => { (d.modSide sd (SideRec.granted sd s.now)) with holder := some sd }).suspend c

/-- The prior state an ATTENDING compartment takes from its state (R12). -/
def CState.asPrior : CState → Option Prior
  | .holding => some .holding
  | .condemned => some .condemned
  | .faulted => some .faulted
  | _ => none

/-- Entry to ATTENDING with the kitchen seize granted (R12). -/
def State.enterAttending (c : Nat) (s : State) : State :=
  (s.modComp c fun r => { r with state := .attending, prior := r.state.asPrior }).grantSeize c .kitchen

/-- A collection granted: COLLECTING, counter side seized (R10). -/
def State.grantCollection (c : Nat) (s : State) : State :=
  (s.modComp c fun r => { r with state := .collecting }).grantSeize c .counter

/-- An accepted LOAD: LOADING with the LOAD's fields, kitchen side seized (R6). A requested limit of 0 means Hm, any
other is clamped into 60 s to Hm. -/
def State.acceptLoad (c tag code cls limit : Nat) (probe : Option Nat) (s : State) : State :=
  let hm := (s.cls cls).maxHold
  let meal : Meal := { tag := tag, code := code, cls := cls, limit := if limit = 0 then hm else min hm (max 60 limit) }
  (s.modComp c fun r =>
    { r with state := .loading, meal := some meal, probe := probe, wrongCount := 0, lockoutEnd := none }).grantSeize c
    .kitchen

/-! ## Remembered requests (R123 to R126) -/

/-- Store a kitchen request (R123). -/
def State.rememberKitchen (c : Nat) (kind : KitchenKind) (s : State) : State :=
  { (s.modDoor c fun d =>
      { d with kitchenReq := some { kind := kind, remembered := s.now, lapse := s.now + Config.rememberTime,
                                    serial := s.requestSerial } }) with requestSerial := s.requestSerial + 1 }

/-- Store a counter request (R123). -/
def State.rememberCounter (c tag : Nat) (s : State) : State :=
  { (s.modDoor c fun d =>
      { d with counterReq := some { tag := tag, remembered := s.now, lapse := s.now + Config.rememberTime,
                                    serial := s.requestSerial } }) with requestSerial := s.requestSerial + 1 }

/-- Remove the request of a side. -/
def State.forget (c : Nat) (sd : Side) (s : State) : State :=
  s.modDoor c fun d =>
    match sd with
    | .kitchen => { d with kitchenReq := none }
    | .counter => { d with counterReq := none }

/-- A kitchen request's table of R124: the states in which it is granted. -/
def KitchenKind.grantedIn : KitchenKind → CState → Bool
  | .attend, .holding | .attend, .condemned | .reset, .faulted => true
  | _, _ => false

/-- Re-evaluate the kitchen request of `c`: granted, held over for want of room or for a holder, or removed with
ATTEND_VOID (R124). -/
def State.reevalKitchen (c : Nat) (s : State) : State :=
  match (s.door c).kitchenReq with
  | none => s
  | some q =>
    if (s.door c).holder.isSome then s
    else if q.kind.grantedIn (s.comp c).state then
      if s.seizeAnswer c .kitchen = .granted then
        ((s.forget c .kitchen).enterAttending c).notifyKitchen (.granted c)
      else s
    else (s.forget c .kitchen).notifyKitchen (.attendVoid c)

/-- Re-evaluate the counter request of `c`: granted in HOLDING with its tag, held over, or removed with SEE_STAFF
(R124). -/
def State.reevalCounter (c : Nat) (s : State) : State :=
  match (s.door c).counterReq with
  | none => s
  | some q =>
    if (s.door c).holder.isSome then s
    else if (s.comp c).state = .holding ∧ (s.comp c).meal.map Meal.tag = some q.tag then
      if s.seizeAnswer c .counter = .granted then
        ((s.forget c .counter).grantCollection c).notifyCounter (.granted c)
      else s
    else (s.forget c .counter).notifyCounter (.seeStaff c)

/-- Re-evaluate the request of a side. -/
def State.reeval (sd : Side) (c : Nat) (s : State) : State :=
  match sd with
  | .kitchen => s.reevalKitchen c
  | .counter => s.reevalCounter c

/-- The order of remembering of a side's stored request at `c`, none when none is stored. -/
def State.requestOrder (s : State) (sd : Side) (c : Nat) : Option Nat :=
  match sd with
  | .kitchen => (s.door c).kitchenReq.map KitchenRequest.serial
  | .counter => (s.door c).counterReq.map CounterRequest.serial

/-- Place a compartment in a list kept oldest request first. -/
def placeOldest (key : Nat → Nat) (c : Nat) : List Nat → List Nat
  | [] => [c]
  | d :: ds => if key c < key d then c :: d :: ds else d :: placeOldest key c ds

/-- The compartments with a stored request of a side, oldest first (R125). -/
def State.requestsOf (s : State) (sd : Side) : List Nat :=
  ((List.range s.doors.length).filter fun c => (s.requestOrder sd c).isSome).foldr
    (placeOldest fun c => (s.requestOrder sd c).getD 0) []

/-- Re-evaluate the held-over requests of a side, oldest first (R125). -/
def State.reevalSide (sd : Side) (s : State) : State := (s.requestsOf sd).foldl (fun t c => t.reeval sd c) s

/-- Re-evaluate both requests stored for one compartment, the older first (R125, R128). -/
def State.reevalBoth (c : Nat) (s : State) : State :=
  match s.requestOrder .kitchen c, s.requestOrder .counter c with
  | some k, some n =>
    if k < n then (s.reeval .kitchen c).reeval .counter c else (s.reeval .counter c).reeval .kitchen c
  | _, _ => (s.reeval .kitchen c).reeval .counter c

/-! ## The course of a hold (R118 to R122) -/

/-- The end of a hold (R122): the side LATCHED and the holder NONE; the Compartment Table's change; the other side's
request for this compartment, then the held-over requests of this side; the return to LATCHED handed on. -/
def State.holdEnd (c : Nat) (sd : Side) (k : HoldEnd) (s : State) : State :=
  let s1 := s.modDoor c fun d => { (d.modSide sd SideRec.latch) with holder := none }
  let s2 := s1.shutIfEmptied (s1.tableHoldEnd c k)
  ((s2.reeval (otherSide sd) c).reevalSide sd).wake

/-- DOOR_AJAR to the kitchen, and for the counter side to the counter too (R119). -/
def State.noticeAjar (c : Nat) (sd : Side) (s : State) : State :=
  let s1 := (s.modSide c sd fun r => { r with ajarNoticed := true }).notifyKitchen (.doorAjar c sd)
  match sd with
  | .kitchen => s1
  | .counter => s1.notifyCounter (.doorAjar c)

/-- A forced door: the side becomes OPEN with its latch driver as it was, a RUNNING pulse is suspended, the
Compartment Table is told, and DOOR_FORCED is sent (R127). -/
def State.forceDoor (c : Nat) (sd : Side) (s : State) : State :=
  (((s.modSide c sd (SideRec.open_ sd s.now)).suspend c).forcedReport c).notifyKitchen (.doorForced c sd)

end Sys2Proof.Machine
end

