-- ==== Sys2Proof/Machine/StartUp.lean ====
section
/-! DEFINITION. Start-up (chapter 11): COLD_START, RESET_ASSERTED, CONFIG_READ_DONE. -/

namespace Sys2Proof.Machine

/-- The outcome of a command of this block. -/
abbrev Result := Host.Outcome State Fault Refusal

/-- The start of a cold start: every block at its cold-start value, input sampling begins (R165). The clock and the
queue of waiting commands go on (log 5). -/
def State.coldStart (s : State) : State :=
  { State.reset with now := s.now, rx := s.rx, pending := s.pending, inputs := { recs := [], next := s.now } }

/-- COLD_START (R165). -/
def execColdStart (s : State) : Result := .next s.coldStart

/-- RESET_ASSERTED (R165): every output chain position (`State.outputChain`) and the transceiver enable deasserted, a
cold start in progress ended. What else was in progress is dropped by the cold start that follows (log 4). -/
def execResetAsserted (s : State) : Result :=
  .next ((s.modSul fun u => { u with phase := .resetAsserted }).modLif fun l => { l with enable := false })

/-- A compartment record set from the presence input (R2). -/
def CompRec.atColdStart (present : Bool) : CompRec :=
  if present then { CompRec.free with state := .condemned, condemn := some .restart } else .free

/-- Steps 1 and 2 of R169: class enable flags, one record per compartment for every block that keeps one (R1, R65,
R113, R133), the ambient at its default (R134), the rotation at position 0 (R131). -/
def State.setUpTables (r : ConfigRec) (s : State) : State :=
  { s with
    sul := { s.sul with config := some r, classOn := r.classes.map ClassRec.enabled, phase := .running },
    comps := (List.range r.count).map fun c => CompRec.atColdStart (s.presence c),
    doors := List.replicate r.count .closed,
    readings := List.replicate r.count .blank,
    ssu := { slot := 1, start := s.now, ambient := r.ambient, ambientHeld := false },
    peers := ((List.range 32).filter fun a => a ≠ r.address).map PeerEntry.empty }

/-- The first service mode (R170). -/
def State.firstService (s : State) : ServiceMode :=
  if !s.cfg.startShut then .serving else if s.occupiedCount = 0 then .shut else .windingDown

/-- The first line mode (R96): JOINING with HELLO(fresh), the DRAW timer and its first DRAW, the JOINING and silence
timers; or COURT without use of the line when N = 1. -/
def State.firstLineMode (s : State) : State :=
  if s.cfg.courtSize = 1 then s.modLif fun l => { l with mode := some .court }
  else
    (((s.modLif fun l =>
      { l with mode := some .joining, drawAt := some (s.now + Config.drawPeriod),
               joiningAt := some (s.now + Config.joining), silenceAt := some (s.now + Config.silence) }).queueNote
        (.hello .fresh s.courtParams))).queueDraw

/-- A side found open at the end of start-up is taken as a forced door (R113, R127). -/
def State.startUpDoor (c : Nat) (sd : Side) (s : State) : State := if s.doorValue c sd then s.forceDoor c sd else s

/-- The door check at the end of start-up, in index order, kitchen side first (R113, log 18). -/
def State.startUpDoors (s : State) : State :=
  (List.range s.count).foldl (fun t c => (t.startUpDoor c .kitchen).startUpDoor c .counter) s

/-- The end of start-up (R169). -/
def State.endOfStartUp (r : ConfigRec) (s : State) : State :=
  let s1 := s.setUpTables r
  let s2 := s1.modSul fun u => { u with service := some s1.firstService }
  s2.firstLineMode.startUpDoors.close

/-- CONFIG_READ_DONE (R166 to R169): CONFIG_FAULT with its cause, or the end of start-up. It occurs in a cold start
only (log 2). -/
def execConfigReadDone (first second : ConfigRead) (s : State) : Result :=
  .next (if s.sul.phase = .coldStart then
      match checkConfig first second with
      | .error cause => s.modSul fun u => { u with phase := .configFault cause }
      | .ok r => s.endOfStartUp r
    else s)

end Sys2Proof.Machine
end

