-- ==== Sys2Proof/Machine/KitchenPort.lean ====
section
/-! DEFINITION. The Kitchen Port (chapter 9): its requests, and the events of its receiver and transmitter. -/

namespace Sys2Proof.Machine

/-! ## Taking a request (R144, R145, R147) -/

/-- The receiver holds no partial record. -/
def State.clearKitchenPartial (s : State) : State := s.modKp fun k => { k with receiver := .empty }

/-- A well-formed kitchen record of kind `kind`: discarded before the end of start-up, answered FAULT in CONFIG_FAULT
whatever is being sent (R168), else refused with BUSY while the port is busy, else taken and decided by `decide` within this
event (R144, R145). The model's choices: the FAULT replies wait in their order (log 19), and name no compartment (log 13). -/
def State.takeKitchen (kind : Nat) (decide : State → State) (s : State) : State :=
  let s1 := s.clearKitchenPartial
  match s1.sul.phase with
  | .resetAsserted => s
  | .coldStart => s1
  | .configFault cause => (s1.outcomeKitchen .fault none (some cause.code)).pump
  | .running => (if s1.kp.busy then s1.busyKitchen kind else decide s1).close

/-- The common checks of a request that names compartment `c`: form, compartment, faulted compartment (R20, R147). -/
def State.onCompartment (kind len want c : Nat) (form faultedCheck : Bool) (decide : State → State) (s : State) :
    State :=
  if len ≠ want || !form then s.outcomeKitchen .badField (namedComp kind len want c) none
  else if s.count ≤ c then s.outcomeKitchen .badCompartment (some c) none
  else if faultedCheck && (s.comp c).state = .faulted then s.outcomeKitchen .faulted (some c) none
  else decide s

/-- A request without fields of length 3 (R175). -/
def State.withoutFields (len : Nat) (decide : State → State) (s : State) : State :=
  if len ≠ 3 then s.outcomeKitchen .badField none none else decide s

/-! ## LOAD (R3, R6, R148) -/

/-- LOAD, taken: the checks of R3 in order, acceptance or the reason of the first failing check. -/
def State.decideLoad (len tag code cls reach limit probe : Nat) (s : State) : State :=
  if !loadForm len tag code cls reach limit probe then s.outcomeKitchen .badField none none
  else
    match s.loadChecks tag cls (reach = 1) (loadProbe probe) with
    | .error o => s.outcomeKitchen o none none
    | .ok c => (s.acceptLoad c tag code cls limit (loadProbe probe)).outcomeKitchen .accepted (some c) none

/-- LOAD (R3). -/
def execLoad (len tag code cls reach limit probe : Nat) (s : State) : Result :=
  .next (s.takeKitchen 1 (State.decideLoad len tag code cls reach limit probe))

/-! ## ATTEND and COMPARTMENT RESET (R12, R149) -/

/-- A further request for a compartment is refused with BUSY while one is stored, whatever the compartment's state
(R123, R149). -/
def State.unlessStored (c : Nat) (decide : State → State) (s : State) : State :=
  if (s.door c).kitchenReq.isSome then s.outcomeKitchen .busy (some c) none else decide s

/-- The seize of the kitchen side asked for by ATTEND or COMPARTMENT RESET where the state allows it and there is no
holder (R12, R116). -/
def State.seizeKitchen (c : Nat) (s : State) : State :=
  if s.seizeAnswer c .kitchen = .granted then (s.enterAttending c).outcomeKitchen .accepted (some c) none
  else s.outcomeKitchen .busy (some c) none

/-- The request is remembered and answered WAIT (R123), which names no compartment (log 17). -/
def State.waitKitchen (c : Nat) (kind : KitchenKind) (s : State) : State :=
  (s.rememberKitchen c kind).outcomeKitchen .wait none none

/-- A request the state does not allow (R12). -/
def State.stateRefusal (c : Nat) (s : State) : State := s.outcomeKitchen .state (some c) none

/-- ATTEND(c) past the common checks, with no request stored (R12). -/
def State.decideAttend (c : Nat) (s : State) : State :=
  if (s.comp c).state = .collecting || (s.door c).holder = some .counter then s.waitKitchen c .attend
  else if ((s.comp c).state = .holding || (s.comp c).state = .condemned) && (s.door c).holder = none then
    s.seizeKitchen c
  else s.stateRefusal c

/-- ATTEND (R12). -/
def execAttend (len c : Nat) (s : State) : Result :=
  .next (s.takeKitchen 2 (State.onCompartment 2 len 4 c true true (State.unlessStored c (State.decideAttend c))))

/-- COMPARTMENT RESET(c) past the common checks, with no request stored (R12). -/
def State.decideReset (c : Nat) (s : State) : State :=
  if (s.comp c).state = .faulted then
    match (s.door c).holder with
    | none => s.seizeKitchen c
    | some .counter => s.waitKitchen c .reset
    | some .kitchen => s.stateRefusal c
  else s.stateRefusal c

/-- COMPARTMENT RESET (R12). -/
def execCompartmentReset (len c : Nat) (s : State) : Result :=
  .next (s.takeKitchen 5 (State.onCompartment 5 len 4 c true false (State.unlessStored c (State.decideReset c))))

/-! ## RELEASE and SERVICE (R121, R19, R150) -/

/-- RELEASE(c) past the common checks: a RELEASED kitchen side that the kitchen holds is re-latched and the hold ends,
else STATE (R121). -/
def State.decideRelease (c : Nat) (s : State) : State :=
  if (s.door c).holder = some .kitchen && (s.door c).kitchen.state = .released then
    (s.holdEnd c .kitchen .released).outcomeKitchen .accepted (some c) none
  else s.outcomeKitchen .state (some c) none

/-- RELEASE (R121). -/
def execRelease (len c : Nat) (s : State) : Result :=
  .next (s.takeKitchen 3 (State.onCompartment 3 len 4 c true true (State.decideRelease c)))

/-- SERVICE past the common checks: from one state to the other, else STATE (R19). -/
def State.decideService (c : Nat) (old new : CState) (s : State) : State :=
  if (s.comp c).state = old then (s.modComp c fun r => { r with state := new }).outcomeKitchen .accepted (some c) none
  else s.outcomeKitchen .state (some c) none

/-- SERVICE(c, OUT) (R19); a direction byte above 1 is BAD_FIELD (R175). -/
def execServiceOut (len c dir : Nat) (s : State) : Result :=
  .next (s.takeKitchen 4 (State.onCompartment 4 len 5 c (dir ≤ 1) true (State.decideService c .free .outOfService)))

/-- SERVICE(c, IN) (R19). -/
def execServiceIn (len c dir : Nat) (s : State) : Result :=
  .next (s.takeKitchen 4 (State.onCompartment 4 len 5 c (dir ≤ 1) true (State.decideService c .outOfService .free)))

/-! ## Bank requests (R151, R171, R152) -/

/-- The reply MODE carries the service mode as it stands after the request (R151). -/
def State.replyMode (s : State) : State := s.outcomeKitchen .mode none (s.sul.service.map ServiceMode.code)

/-- BANK CLOSE (R171): a change queues a DRAW, no change queues none. -/
def State.decideClose (s : State) : State :=
  (if s.sul.service = some .serving then
    s.setService (if s.occupiedCount = 0 then .shut else .windingDown)
  else s).replyMode

/-- BANK_CLOSE (R171). -/
def execBankClose (len : Nat) (s : State) : Result :=
  .next (s.takeKitchen 6 (State.withoutFields len State.decideClose))

/-- BANK OPEN (R171). -/
def State.decideOpen (s : State) : State :=
  (if s.sul.service = some .serving then s else s.setService .serving).replyMode

/-- BANK_OPEN (R171). -/
def execBankOpen (len : Nat) (s : State) : Result :=
  .next (s.takeKitchen 7 (State.withoutFields len State.decideOpen))

/-- CLEAR_FAULTS (R152). -/
def execClearFaults (len : Nat) (s : State) : Result :=
  .next (s.takeKitchen 9 (State.withoutFields len fun t => t.clearSticky.outcomeKitchen .cleared none none))

/-! ## Status and lookup (R153 to R155) -/

/-- Whole seconds left to a lockout end, rounded up and at least 1 (R160, log 30). -/
def lockoutLeft (end_ now : Time) : Nat := max 1 ((end_ - now + 999) / 1000)

/-- The pulse part of a STATUS(c) reply (R46). -/
def pulseReport : Option Pulse → PulseReport
  | none => .noPulse
  | some p =>
    match p.state with
    | .running ch => .running ch p.planned p.run
    | .suspended => .suspended (p.planned - p.run)

/-- The contents of compartment `c` (R153). -/
def State.compStatus (s : State) (c : Nat) : CompStatus :=
  let r := s.comp c
  let d := s.door c
  { state := r.state, prior := r.prior, tag := r.meal.map Meal.tag, cls := r.meal.map Meal.cls,
    limit := r.meal.map Meal.limit, remaining := r.holdRemaining s.now, estimate := r.est.map Estimate.temp,
    margin := r.est.map Estimate.margin, due := s.due c, urgent := s.urgent c, condemn := r.condemn,
    pendingForced := r.takesForced && r.condemn = some .forced, fault := r.fault, mealPresent := r.mealPresent,
    holder := d.holder, kitchenSide := d.kitchen.state, counterSide := d.counter.state,
    kitchenReq := d.kitchenReq.isSome, counterReq := d.counterReq.isSome, pulse := pulseReport r.pulse,
    wrongCount := r.wrongCount,
    lockoutSeconds := match r.lockoutEnd with
      | some e => lockoutLeft e s.now
      | none => 0 }

/-- STATUS_COMPARTMENT (R153). -/
def execStatusCompartment (len c : Nat) (s : State) : Result :=
  .next (s.takeKitchen 8 (State.onCompartment 8 len 4 c true false fun t => t.replyKitchen (.comp (t.compStatus c))))

/-- The smaller of two optional margins. -/
def minMargin : Option Nat → Option Nat → Option Nat
  | none, b => b
  | some a, none => some a
  | some a, some b => some (min a b)

/-- The station's figures (R154, R69). -/
def State.stationStatus (s : State) : StationStatus :=
  let live := s.peers.filter PeerEntry.live
  { line := s.lif.mode, service := s.sul.service, draw := s.draw, share := s.share, headroom := s.headroom,
    livePeers := live.length, peerDue := (live.map fun e => e.due.getD 0).sum,
    peerHolding := (live.map fun e => e.holding.getD 0).sum,
    peerMargin := live.foldl (fun m e => minMargin m e.margin) none, due := s.dueQueue.length,
    holding := s.holdingCount, occupied := s.occupiedCount, noteLost := s.lif.noteLost,
    peerMismatch := s.lif.peerMismatch, ambientHeld := s.ssu.ambientHeld, noticeLost := s.kp.noticeLost,
    rxErrors := s.lif.rxErrors }

/-- STATUS_STATION (R154). -/
def execStatusStation (len : Nat) (s : State) : Result :=
  .next (s.takeKitchen 8 fun t =>
    if len ≠ 4 then t.outcomeKitchen .badField none none else t.replyKitchen (.station t.stationStatus))

/-- The own part of a WHERE reply (R155). -/
def State.whereOwn (s : State) (tag : Nat) : Option WhereOwn :=
  (s.findTag tag).map fun c => { comp := c, state := (s.comp c).state }

/-- The directory entry of a tag. -/
def Cdir.find (d : Cdir) (tag : Nat) : Option DirEntry := d.entries.find? fun e => e.tag = tag

/-- The directory part of a WHERE reply, with the whole seconds since time heard (R112, R155). -/
def State.whereDir (s : State) (tag : Nat) : Option WhereDir :=
  (s.cdir.find tag).map fun e =>
    { station := e.station, comp := e.comp, cls := e.cls, seconds := (s.now - e.heard) / 1000 }

/-- WHERE (R155). -/
def execWhere (len tag : Nat) (s : State) : Result :=
  .next (s.takeKitchen 10 fun t =>
    if len ≠ 6 || !tagOk tag then t.outcomeKitchen .badField none none
    else t.replyKitchen (.whereIs (t.whereOwn tag) (t.whereDir tag)))

/-! ## Receiver and transmitter (R144, R146, R175) -/

/-- KITCHEN_UNKNOWN_KIND (R175): BAD_FIELD. -/
def execKitchenUnknownKind (kind : Nat) (s : State) : Result :=
  .next (s.takeKitchen kind fun t => t.outcomeKitchen .badField none none)

/-- KITCHEN_BAD_RECORD (R144): discarded without reply. -/
def execKitchenBadRecord (s : State) : Result := .next s.clearKitchenPartial

/-- KITCHEN_GAP_EXPIRY (R144): the partial record is discarded when its gap has passed. -/
def execKitchenGapExpiry (s : State) : Result :=
  .next (if reached s.kp.receiver.gapEnd s.now then s.clearKitchenPartial else s)

/-- KITCHEN_TX_DONE (R146): the transmitter is freed and takes the next record. -/
def execKitchenTxDone (s : State) : Result :=
  .next (if s.sul.phase = .resetAsserted then s else (s.modKp fun k => { k with tx := none }).pump)

end Sys2Proof.Machine
end

