-- ==== Sys2Proof/Machine/CounterPort.lean ====
section
/-! DEFINITION. The Counter Port (chapter 10) and the counter lookup (R110, R111). -/

namespace Sys2Proof.Machine

/-- The receiver holds no partial record. -/
def State.clearCounterPartial (s : State) : State := s.modCp fun p => { p with receiver := .empty }

/-- A well-formed counter record, `busy` saying whether the port is busy for it (R158). In CONFIG_FAULT every one is
answered FAULT whatever is being sent (R168); that those replies wait in their order is the model's choice (log 19). -/
def State.takeCounter (kind : Nat) (busy : State → Bool) (decide : State → State) (s : State) : State :=
  let s1 := s.clearCounterPartial
  match s1.sul.phase with
  | .resetAsserted => s
  | .coldStart => s1
  | .configFault cause => (s1.replyCounter .fault (some cause.code)).pump
  | .running => (if busy s1 then s1.busyCounter kind else decide s1).close

/-! ## COLLECT (R159 to R161) -/

/-- The counter lookup of a tag no own record holds (R110). -/
def State.lookUp (tag : Nat) (s : State) : State :=
  match s.cdir.find tag with
  | some e => s.replyCounter .elsewhere (some e.station)
  | none =>
    if s.takesFrames then
      (s.queueNote (.query tag)).modCdir fun d =>
        { d with lookup := some { tag := tag, waitEnd := s.now + Config.lookupWait } }
    else s.replyCounter .unknown none

/-- A COLLECT with the right code, decided by the holder (R161). -/
def State.rightCode (c tag : Nat) (s : State) : State :=
  if (s.comp c).state = .holding && (s.door c).holder = none then
    if s.seizeAnswer c .counter = .granted then (s.grantCollection c).replyCounter .opened (some c)
    else s.replyCounter .busy none
  else if (s.door c).holder = some .kitchen then (s.rememberCounter c tag).replyCounter .wait none
  else s.replyCounter .busy none

/-- The code check (R160): lockout, wrong code, right code. -/
def State.codeCheck (c tag code : Nat) (s : State) : State :=
  match (s.comp c).lockoutEnd with
  | some e => s.replyCounter .lockedOut (some (lockoutLeft e s.now))
  | none =>
    if (s.comp c).meal.map Meal.code = some code then
      State.rightCode c tag (s.modComp c fun r => { r with wrongCount := 0 })
    else if (s.comp c).wrongCount + 1 < 3 then
      (s.modComp c fun r => { r with wrongCount := r.wrongCount + 1 }).replyCounter .wrongCode
        (some (3 - ((s.comp c).wrongCount + 1)))
    else
      (s.modComp c fun r => { r with wrongCount := 0, lockoutEnd := some (s.now + Config.lockout) }).replyCounter
        .wrongCode (some 0)

/-- A COLLECT whose tag record `c` holds, answered by the record's state (R159). -/
def State.collectRecord (c tag code : Nat) (s : State) : State :=
  let meal (t : State) : State :=
    if (t.door c).counterReq.isSome then t.replyCounter .busy none else t.codeCheck c tag code
  match (s.comp c).state with
  | .loading => s.replyCounter .notReady none
  | .condemned | .faulted => s.replyCounter .seeStaff none
  | .collecting => s.replyCounter .busy none
  | .holding => meal s
  | .attending => if (s.comp c).prior = some .holding then meal s else s.replyCounter .seeStaff none
  | .free | .outOfService => s.replyCounter .seeStaff none

/-- COLLECT, taken: form, own record, lookup (R158, R159, R110). -/
def State.decideCollect (len tag code : Nat) (s : State) : State :=
  if !collectForm len tag code then s.replyCounter .badField none
  else
    match s.findTag tag with
    | some c => s.collectRecord c tag code
    | none => s.lookUp tag

/-- COLLECT (R159). -/
def execCollect (len tag code : Nat) (s : State) : Result :=
  .next (s.takeCounter 1 State.counterBusy (State.decideCollect len tag code))

/-- LOCKOUT_END (R160): the lockout end is reached and removed. -/
def execLockoutEnd (c : Nat) (s : State) : Result :=
  .next (if s.running && reached (s.comp c).lockoutEnd s.now then s.modComp c fun r => { r with lockoutEnd := none }
    else s)

/-! ## Ends of a lookup wait (R111) -/

/-- The lookup wait ends with a reply. -/
def State.endLookup (o : COutcome) (arg : Option Nat) (s : State) : State :=
  (s.modCdir fun d => { d with lookup := none }).replyCounter o arg

/-- A lookup wait runs for this tag. -/
def State.waitsFor (s : State) (tag : Nat) : Bool := s.cdir.lookup.any fun l => l.tag = tag

/-- LOOKUP_WAIT_END (R111): UNKNOWN. -/
def execLookupWaitEnd (s : State) : Result :=
  .next (if s.running && reached (s.cdir.lookup.map Lookup.waitEnd) s.now then (s.endLookup .unknown none).close else s)

/-! ## CANCEL (R162) -/

/-- The compartment whose counter request was remembered last. -/
def State.latestCounterRequest (s : State) : Option Nat := (s.requestsOf .counter).getLast?

/-- CANCEL, taken (R162): a lookup wait, else the latest counter remembered request, else NOTHING_PENDING. -/
def State.decideCancel (len : Nat) (s : State) : State :=
  if len ≠ 3 then s.replyCounter .badField none
  else if s.cdir.lookup.isSome then s.endLookup .cancelled none
  else
    match s.latestCounterRequest with
    | some c => (s.forget c .counter).replyCounter .cancelled (some c)
    | none => s.replyCounter .nothingPending none

/-- The Counter Port is busy for a CANCEL: sending or waiting to send a reply, with no lookup wait (R158). That a CANCEL
is taken during a lookup wait also while a BUSY reply, or the BAD_FIELD reply to an earlier malformed CANCEL, waits or is
being sent is the model's choice (log 36). -/
def State.cancelBusy (s : State) : Bool := s.cdir.lookup.isNone && s.cp.replying

/-- CANCEL (R162). -/
def execCancel (len : Nat) (s : State) : Result := .next (s.takeCounter 2 State.cancelBusy (State.decideCancel len))

/-! ## Receiver and transmitter (R158) -/

/-- COUNTER_UNKNOWN_KIND (R158): BAD_FIELD; that a busy port refuses it with BUSY, naming its kind, is the model's choice
(log 37). -/
def execCounterUnknownKind (kind : Nat) (s : State) : Result :=
  .next (s.takeCounter kind State.counterBusy fun t => t.replyCounter .badField none)

/-- COUNTER_BAD_RECORD (R158). -/
def execCounterBadRecord (s : State) : Result := .next s.clearCounterPartial

/-- COUNTER_GAP_EXPIRY (R158): the partial record is discarded when its gap has passed. -/
def execCounterGapExpiry (s : State) : Result :=
  .next (if reached s.cp.receiver.gapEnd s.now then s.clearCounterPartial else s)

/-- COUNTER_TX_DONE (R158). -/
def execCounterTxDone (s : State) : Result :=
  .next (if s.sul.phase = .resetAsserted then s else (s.modCp fun p => { p with tx := none }).pump)

end Sys2Proof.Machine
end

