-- ==== Sys2Proof/Machine/CourtLine.lean ====
section
/-! DEFINITION. The Court Line (chapter 5), the Peer Draw Table (R65 to R69) and the Court Directory (chapter 6):
attempts, received frames, line timers. -/

namespace Sys2Proof.Machine

/-! ## Attempts (R89, R90) -/

/-- An attempt may begin: the part reads and sends, the buffer is empty, and the final DRAW has not silenced it
(R89, R101). -/
def State.maySend (s : State) : Bool :=
  s.reads && s.lif.mode.isSome && s.lif.buffer.isNone && !s.lif.silenced

/-- ATTEMPT_START (R89). -/
def execAttemptStart (s : State) : Result := .next (if s.maySend then s.startAttempt else s)

/-- ATTEMPT_LOST (R90): the frame returns, the failed-attempt count is unchanged. -/
def execAttemptLost (s : State) : Result :=
  .next (if s.reads && s.lif.buffer.isSome then s.modLif Lif.returnFrame else s)

/-- A failed attempt: the count rises, held at 16, the frame returns, and 16 in JOINING or COURT enters ISOLATED
(R90, R97). -/
def State.failAttempt (s : State) : State :=
  let s1 := s.modLif fun l => { l.returnFrame with failed := min Config.maxFailed (l.failed + 1) }
  if s1.lif.failed = Config.maxFailed && (s1.lif.mode = some .joining || s1.lif.mode = some .court) then
    s1.enterIsolated
  else s1

/-- ATTEMPT_FAILED (R90). -/
def execAttemptFailed (s : State) : Result :=
  .next (if s.reads && s.lif.buffer.isSome then s.failAttempt.close else s)

/-- The DSU opens its claim window when the CLAIM of its outstanding claim completes (R75). -/
def State.openWindow (s : State) : State :=
  match s.dsu.claim with
  | .queued amount margin sequence =>
    s.modDsu fun d =>
      { d with claim := .window amount margin sequence (recorded s.now)
                 (recorded s.now + Config.claimHalfWindow) }
  | .noClaim => s
  | .window _ _ _ _ _ => s

/-- The final DRAW of MISMATCHED(CLASH) has completed: the transceiver enable is deasserted for good (R101). -/
def State.silence (s : State) : State := s.modLif fun l => { l with enable := false, silenced := true }

/-- What a completed frame is reported to; a frame marked for discard is reported to none (R80, R90, R101, log 16). -/
def State.reportCompleted (b : Buffered) (s : State) : State :=
  if b.doomed then s
  else
    match b.frame with
    | .claim _ _ _ => s.openWindow
    | .draw => if s.lif.mode = some .mismatchedClash then s.silence else s
    | .gone _ _ _ | .stowed _ _ _ | .query _ | .hello _ _ => s

/-- A completed attempt: the count 0, the buffer empty, the completion reported, and in ISOLATED with the rejoin flag
Set JOINING is entered (R90, R98). -/
def State.completeAttempt (b : Buffered) (s : State) : State :=
  let s1 := s.modLif fun l => { l with failed := 0, buffer := none }
  let s2 := s1.reportCompleted b
  if s2.lif.mode = some .isolated && s2.lif.rejoin then s2.rejoinCourt else s2

/-- ATTEMPT_COMPLETED (R90). -/
def execAttemptCompleted (s : State) : Result :=
  .next (match s.reads, s.lif.buffer with
    | true, some b => (s.completeAttempt b).close
    | _, _ => s)

/-! ## Frames that go no further (R91, R94, R101) -/

/-- FRAME_DISCARDED (R94): the receive error count rises; a frame that fails only at its content has passed the check
and restarted the silence timer. -/
def execFrameDiscarded (layer : DiscardLayer) (s : State) : Result :=
  .next (if !s.reads then s
    else match layer with
      | .framing | .crc => s.rxError
      | .content => s.heardPeer.rxError)

/-- OWN_ADDRESS_FRAME (R101). -/
def execOwnAddressFrame (s : State) : Result := .next (if s.reads then s.clash.close else s)

/-- UNKNOWN_KIND_FRAME (R91). -/
def execUnknownKindFrame (sender : Nat) (s : State) : Result := .next (s.receive sender true id)

/-! ## Peer Draw Table (R66 to R69) -/

/-- The DSU after a change of the entries: a fall of S ends a LOST backoff and is told to the scheduler; the overrun
test is made (R66, R67, R69). `before` is S before the change. -/
def State.afterPeerChange (before : Nat) (s : State) : State :=
  (if s.peerDraw < before then s.peerDrawFell else s).overrunTest

/-- A number clamped into a range. -/
def clampTo (lo hi v : Nat) : Nat := min hi (max lo v)

/-- An entry after a DRAW (R66), its fields within the ranges of R65 (R174). -/
def PeerEntry.withDraw (w : Nat) (now : Time) (service line draw power margin due holding : Nat) (e : PeerEntry) :
    PeerEntry :=
  { e with service := serviceOf service, line := peerLineOf line, draw := some (min w draw),
           power := some (clampTo 10 100 power), margin := if margin = 65535 then none else some (min 1200 margin),
           due := some (min 32 due), holding := some (min 32 holding), heard := some now, live := true,
           claim := none }

/-- DRAW_FRAME (R66). -/
def execDrawFrame (sender service line draw power margin due holding : Nat) (s : State) : Result :=
  .next (s.receive sender (drawContent service line) fun t =>
    (t.modPeer sender (PeerEntry.withDraw t.wAvail t.now service line draw power margin due holding)).afterPeerChange
      t.peerDraw)

/-- The checks of R68: a repeat of the claim held, a mode in which no claim is made, a SHUT station. -/
def PeerEntry.ignoresClaim (e : PeerEntry) (sequence : Nat) : Bool :=
  e.claim.any (fun c => c.sequence = sequence) || e.line = some .isolated || e.line = some .mismatched
    || e.service = some .shut

/-- The claim as stored: the amount held at the entry's element power and at W_avail, the margin at 1200 (log 20). -/
def PeerEntry.claimOf (e : PeerEntry) (w : Nat) (now : Time) (amount margin sequence : Nat) : PeerClaim :=
  { amount := min w (min amount (e.power.getD amount)), margin := min 1200 margin, sequence := sequence,
    heard := recorded now }

/-- CLAIM_FRAME (R68). -/
def execClaimFrame (sender amount margin sequence : Nat) (s : State) : Result :=
  .next (s.receive sender true fun t =>
    t.modPeer sender fun e =>
      if e.ignoresClaim sequence then e
      else { e with claim := some (e.claimOf t.wAvail t.now amount margin sequence) })

/-- ENTRY_LAPSE (R69): 3.0 s without a DRAW or HELLO; the fields are kept, the draw leaves S. -/
def execEntryLapse (addr : Nat) (s : State) : Result :=
  .next (if s.running && (s.peer addr).live && reached ((s.peer addr).heard.map (· + Config.liveTime)) s.now then
      ((s.modPeer addr fun e => { e with live := false }).afterPeerChange s.peerDraw).close
    else s)

/-! ## Court Directory (R105 to R109) -/

/-- The entries with `e` placed newest: an entry of its tag removed, or the oldest evicted from a full directory
(R105). -/
def Cdir.insert (e : DirEntry) (d : Cdir) : Cdir :=
  let kept := d.entries.filter fun x => x.tag ≠ e.tag
  let room := if kept.length < Config.directorySize then kept else kept.drop 1
  { d with entries := room ++ [e] }

/-- An accepted STOWED (R105, R106, R111). -/
def State.stowedHeard (sender tag comp cls : Nat) (s : State) : State :=
  let s1 := s.modCdir (Cdir.insert { tag := tag, station := sender, comp := comp, cls := cls, heard := s.now })
  let s2 := if (s1.findTag tag).isSome then s1.notifyKitchen (.tagElsewhere tag sender) else s1
  if s2.waitsFor tag then s2.endLookup .elsewhere (some sender) else s2

/-- STOWED_FRAME (R105). -/
def execStowedFrame (sender tag comp cls : Nat) (s : State) : Result :=
  .next (s.receive sender (stowedContent tag comp cls) (State.stowedHeard sender tag comp cls))

/-- The entries without the sender's entry for the tag (R107). -/
def Cdir.removeTag (tag station : Nat) (d : Cdir) : Cdir :=
  { d with entries := d.entries.filter fun x => !(x.tag = tag && x.station = station) }

/-- The reply with which a GONE ends a lookup wait (R111). -/
def GoneReason.lookupReply : GoneReason → COutcome
  | .collected => .alreadyCollected
  | .condemned | .removed => .seeStaff

/-- An accepted GONE (R107, R111). -/
def State.goneHeard (sender tag : Nat) (reason : GoneReason) (s : State) : State :=
  let s1 := s.modCdir (Cdir.removeTag tag sender)
  if s1.waitsFor tag then s1.endLookup reason.lookupReply none else s1

/-- GONE_FRAME (R107). -/
def execGoneFrame (sender tag comp reason : Nat) (s : State) : Result :=
  .next (s.receive sender (goneContent tag comp reason) fun t =>
    match goneReasonOf reason with
    | some g => t.goneHeard sender tag g
    | none => t)

/-- The frame that answers a QUERY for a tag held by record `c` (R109). -/
def CompRec.queryAnswer (c : Nat) (r : CompRec) : Option Frame :=
  match r.meal with
  | none => none
  | some m =>
    match r.state with
    | .holding | .collecting => some (.stowed m.tag c m.cls)
    | .attending => if r.prior = some .holding then some (.stowed m.tag c m.cls) else some (.gone m.tag c .condemned)
    | .condemned | .faulted => some (.gone m.tag c .condemned)
    | .loading | .free | .outOfService => none

/-- An accepted QUERY (R109). -/
def State.queryHeard (tag : Nat) (s : State) : State :=
  match s.findTag tag with
  | none => s
  | some c =>
    match (s.comp c).queryAnswer c with
    | none => s
    | some f => s.queueNote f

/-- QUERY_FRAME (R109). -/
def execQueryFrame (sender tag : Nat) (s : State) : Result :=
  .next (s.receive sender (tagOk tag) (State.queryHeard tag))

/-! ## HELLO (R67, R100, R108) -/

/-- The entries without those naming a station (R108). -/
def Cdir.purge (station : Nat) (d : Cdir) : Cdir := { d with entries := d.entries.filter fun x => x.station ≠ station }

/-- An accepted HELLO(fresh): the answer is queued, the sender's entry reset and live, its directory entries removed,
and the court parameters compared (R67, R100, R108). -/
def State.helloFreshHeard (sender wc wr wg n : Nat) (s : State) : State :=
  let s1 := s.queueHelloAnswer.modPeer sender fun _ =>
    { PeerEntry.empty sender with heard := some s.now, live := true }
  ((s1.modCdir (Cdir.purge sender)).afterPeerChange s.peerDraw).compareParams wc wr wg n

/-- HELLO_FRESH (R100). -/
def execHelloFresh (sender wc wr wg n count : Nat) (s : State) : Result :=
  .next (s.receive sender (helloContent count) (State.helloFreshHeard sender wc wr wg n))

/-- An accepted HELLO(answer): the sender is live with the draw it last reported; the parameters are compared
(R67, R100). -/
def State.helloAnswerHeard (sender wc wr wg n : Nat) (s : State) : State :=
  ((s.modPeer sender fun e => { e with heard := some s.now, live := true }).afterPeerChange s.peerDraw).compareParams
    wc wr wg n

/-- HELLO_ANSWER (R67). -/
def execHelloAnswer (sender wc wr wg n count : Nat) (s : State) : Result :=
  .next (s.receive sender (helloContent count) (State.helloAnswerHeard sender wc wr wg n))

/-! ## Line timers (R93, R96, R97) -/

/-- DRAW_TIMER_EXPIRY (R93): a DRAW is queued; the timer keeps its period. -/
def execDrawTimerExpiry (s : State) : Result :=
  .next (if s.running && reached s.lif.drawAt s.now then
      (s.modLif fun l => { l with drawAt := l.drawAt.map (· + Config.drawPeriod) }).queueDraw
    else s)

/-- SILENCE_TIMER_EXPIRY (R97): ISOLATED is entered from JOINING or COURT. -/
def execSilenceTimerExpiry (s : State) : Result :=
  .next (if s.running && reached s.lif.silenceAt s.now then s.enterIsolated.close else s)

/-- JOINING_TIMER_EXPIRY (R96): JOINING becomes COURT. -/
def execJoiningTimerExpiry (s : State) : Result :=
  .next (if s.running && reached s.lif.joiningAt s.now then
      let s1 := s.modLif fun l => { l with joiningAt := none }
      (if s1.lif.mode = some .joining then s1.changeMode .court else s1).close
    else s)

end Sys2Proof.Machine
end

