-- ==== Sys2Proof/Machine/Sharing.lean ====
section
/-! DEFINITION. The claim window and the DSU's timers (R76 to R81). -/

namespace Sys2Proof.Machine

/-- A claim of the claim set: address, amount, margin (R76). -/
structure SetClaim where
  address : Nat
  amount : Nat
  margin : Nat
  deriving DecidableEq, Repr

/-- The order of the claim set: margin, then address (R76). -/
def SetClaim.before (a b : SetClaim) : Bool := a.margin < b.margin || (a.margin = b.margin && a.address < b.address)

/-- Place a claim in the set's order. -/
def insertClaim (c : SetClaim) : List SetClaim → List SetClaim
  | [] => [c]
  | d :: ds => if c.before d then c :: d :: ds else d :: insertClaim c ds

/-- The peer's claim, when its time heard lies from 250 ms before the completion to the window end, both included
(R76). -/
def PeerEntry.inWindow (completion windowEnd : Time) (e : PeerEntry) : Option SetClaim :=
  match e.claim with
  | none => none
  | some c =>
    if completion ≤ c.heard + Config.claimHalfWindow ∧ c.heard ≤ windowEnd then
      some { address := e.address, amount := c.amount, margin := c.margin }
    else none

/-- The claim set of an own claim in WINDOW (R76). -/
def State.claimSet (s : State) (own : SetClaim) (completion windowEnd : Time) : List SetClaim :=
  (own :: s.peers.filterMap (PeerEntry.inWindow completion windowEnd)).foldr insertClaim []

/-- The walk of the claim set against H: whether the claim of address `own` is granted (R77). -/
def walk (h : Int) (own : Nat) : Nat → List SetClaim → Bool
  | _, [] => false
  | sum, c :: cs =>
    if ((sum + c.amount : Nat) : Int) ≤ h then
      if c.address = own then true else walk h own (sum + c.amount) cs
    else if c.address = own then false
    else walk h own sum cs

/-- The own claim is granted by this station's walk at the window end (R76, R77). -/
def State.ownGranted (s : State) (amount margin : Nat) (completion windowEnd : Time) : Bool :=
  walk s.headroom s.cfg.address 0
    (s.claimSet { address := s.cfg.address, amount := amount, margin := margin } completion windowEnd)

/-- The claim's result: the record NONE; a grant passed to the scheduler, or a LOST backoff (R78, R79). -/
def State.claimResult (granted : Bool) (s : State) : State :=
  let s1 := s.modDsu fun d => { d with claim := .noClaim }
  if granted then s1.useGrant
  else (s1.modDsu fun d => { d with lostUntil := some (s.now + Config.lostBackoff) }).wake

/-- CLAIM_WINDOW_END (R77). The walk takes H as it finds it: where a peer's DRAW that meets the overrun test comes at
the same moment and after the window end, it is made with the peer's old draw and may grant (R86; log 38). -/
def execClaimWindowEnd (s : State) : Result :=
  .next (match s.running, s.dsu.claim with
    | true, .window amount margin _ completion windowEnd =>
      if windowEnd ≤ s.now then (s.claimResult (s.ownGranted amount margin completion windowEnd)).close else s
    | _, _ => s)

/-- LOST_BACKOFF_END (R79): the scheduler is told that the answer may have changed. -/
def execLostBackoffEnd (s : State) : Result :=
  .next (if s.running && reached s.dsu.lostUntil s.now then
      (s.modDsu fun d => { d with lostUntil := none }).wake.close
    else s)

/-- OVERRUN_HOLD_END (R81). -/
def execOverrunHoldEnd (s : State) : Result :=
  .next (if s.running && reached s.dsu.overrunUntil s.now then
      (s.modDsu fun d => { d with overrunUntil := none }).wake.close
    else s)

end Sys2Proof.Machine
end

