-- ==== Sys2Proof/Machine/Heating.lean ====
section
/-! DEFINITION. The timed events of holds and pulses (R27, R28, R42, R51, R55). -/

namespace Sys2Proof.Machine

/-- A decay step on the estimate record `e` of `c`: credit, drop, floor check, marking; a HOLDING compartment found
below its floor is condemned COLD (R28 to R32). -/
def State.decay (c : Nat) (e : Estimate) (s : State) : State :=
  let k := s.mealClass (s.comp c)
  let e1 := e.cool k s.ssu.ambient
  if (s.comp c).state = .holding && e1.temp < k.floor then s.condemn c .cold
  else s.setEst c (some { (e1.mark k) with steps := e.steps + 1, decayAt := e.decayAt + Config.decayPeriod })

/-- DECAY_STEP (R28). -/
def execDecayStep (c : Nat) (s : State) : Result :=
  .next (match s.running, (s.comp c).est with
    | true, some e => if e.decayAt ≤ s.now then (s.decay c e).close else s
    | _, _ => s)

/-- HOLD_LIMIT_EXPIRY (R27): the timer has expired; a HOLDING compartment is condemned EXPIRED. -/
def execHoldLimitExpiry (c : Nat) (s : State) : Result :=
  .next (match s.running, (s.comp c).est with
    | true, some e =>
      if reached e.limitAt s.now then
        ((s.setEst c (some { e with limitAt := none })).condemnReport c .expired).close
      else s
    | _, _ => s)

/-- PULSE_END (R55). -/
def execPulseEnd (c : Nat) (s : State) : Result :=
  .next (match s.running, s.runningPulse c with
    | true, some p => if p.planned ≤ p.run then (s.endPulse c p).close else s
    | _, _ => s)

/-- A channel in REST whose rest end has been reached. -/
def Channel.restOver (now : Time) : Channel → Bool
  | .rest t => t ≤ now
  | _ => false

/-- CHANNEL_REST_END (R42): the channel becomes IDLE, a start attempt is made. -/
def execChannelRestEnd (ch : Nat) (s : State) : Result :=
  .next (if s.running && (s.psc.channels[ch]?).any (Channel.restOver s.now) then
      (s.modPsc fun p => { p with channels := p.channels.set ch .idle }).wake.close
    else s)

/-- STAGGER_END (R51): 0.5 s after the last activation a start attempt is made. -/
def execStaggerEnd (s : State) : Result :=
  .next (if s.running && s.psc.staggerOn && s.staggerEnded then
      (s.modPsc fun p => { p with staggerOn := false }).wake.close
    else s)

end Sys2Proof.Machine
end

