-- ==== Sys2Proof/Machine/DoorEvents.lean ====
section
/-! DEFINITION. The events of doors, windows, settles and remembered requests (R114, R118 to R128). A door event is the
change of the debounced value that is due (R114); which of the five it is depends on the side's
state (log 34). -/

namespace Sys2Proof.Machine

/-- A door opens: its value shows closed and the change is due. -/
def State.opens (s : State) (c : Nat) (sd : Side) : Bool :=
  s.running && s.doorChangeDue c sd && !s.doorValue c sd

/-- A door closes: its value shows open and the change is due. -/
def State.closes (s : State) (c : Nat) (sd : Side) : Bool :=
  s.running && s.doorChangeDue c sd && s.doorValue c sd

/-- The state of a side of `c`. -/
def State.sideState (s : State) (c : Nat) (sd : Side) : SideState := ((s.door c).side sd).state

/-- DOOR_OPENED (R118). -/
def execDoorOpened (c : Nat) (sd : Side) (s : State) : Result :=
  .next (if s.opens c sd && s.sideState c sd = .released then
      (s.takeDoorChange c sd).modSide c sd (SideRec.open_ sd s.now)
    else s)

/-- DOOR_REOPENED (R120). -/
def execDoorReopened (c : Nat) (sd : Side) (s : State) : Result :=
  .next (if s.opens c sd && s.sideState c sd = .settling then
      (s.takeDoorChange c sd).modSide c sd (SideRec.open_ sd s.now)
    else s)

/-- DOOR_CLOSED (R119): an OPEN side that its holder holds. -/
def execDoorClosed (c : Nat) (sd : Side) (s : State) : Result :=
  .next (if s.closes c sd && s.sideState c sd = .opened && (s.door c).holder = some sd then
      (s.takeDoorChange c sd).modSide c sd (SideRec.close s.now)
    else s)

/-- DOOR_FORCED (R127): a LATCHED side. -/
def execDoorForced (c : Nat) (sd : Side) (s : State) : Result :=
  .next (if s.opens c sd && s.sideState c sd = .latched then ((s.takeDoorChange c sd).forceDoor c sd).close else s)

/-- FORCED_DOOR_CLOSED (R128): an OPEN side that is not held becomes LATCHED at once. -/
def execForcedDoorClosed (c : Nat) (sd : Side) (s : State) : Result :=
  .next (if s.closes c sd && s.sideState c sd = .opened && (s.door c).holder ≠ some sd then
      (((s.takeDoorChange c sd).modSide c sd SideRec.latch).reevalBoth c).wake.close
    else s)

/-- RELEASE_WINDOW_LAPSE (R118). -/
def execReleaseWindowLapse (c : Nat) (sd : Side) (s : State) : Result :=
  .next (if s.running && s.sideState c sd = .released && reached ((s.door c).side sd).windowEnd s.now then
      (s.holdEnd c sd .lapse).close
    else s)

/-- AJAR_TIME (R119): DOOR_AJAR, once for the OPEN period. -/
def execAjarTime (c : Nat) (sd : Side) (s : State) : Result :=
  .next (if s.running && s.sideState c sd = .opened && reached ((s.door c).side sd).ajarAt s.now
      && !((s.door c).side sd).ajarNoticed then
      (s.noticeAjar c sd).close
    else s)

/-- SETTLE_END (R120): presence is judged and the hold ends by settle. -/
def execSettleEnd (c : Nat) (sd : Side) (s : State) : Result :=
  .next (if s.running && s.sideState c sd = .settling && reached ((s.door c).side sd).settleEnd s.now then
      (s.holdEnd c sd (.settled (s.presence c))).close
    else s)

/-- The lapse end of the request of a side at `c`. -/
def State.lapseOf (s : State) (c : Nat) : Side → Option Time
  | .kitchen => (s.door c).kitchenReq.map KitchenRequest.lapse
  | .counter => (s.door c).counterReq.map CounterRequest.lapse

/-- The remembered request lapses: removed, WAIT_LAPSED to its side's port (R126). -/
def State.lapseRequest (c : Nat) (sd : Side) (s : State) : State :=
  match sd with
  | .kitchen => (s.forget c .kitchen).notifyKitchen (.waitLapsed c)
  | .counter => (s.forget c .counter).notifyCounter (.waitLapsed c)

/-- WAIT_LAPSE (R126). -/
def execWaitLapse (c : Nat) (sd : Side) (s : State) : Result :=
  .next (if s.running && reached (s.lapseOf c sd) s.now then (s.lapseRequest c sd).close else s)

end Sys2Proof.Machine
end

