-- ==== Sys2Proof/Machine/Scan.lean ====
section
/-! DEFINITION. The Sensor Scan Unit (chapter 8) and the input chain's samples (R114). -/

namespace Sys2Proof.Machine

/-- The position the next slot reads: (n - 1) modulo (count + 1) (R131). -/
def State.scanPosition (s : State) : Nat := (s.ssu.slot - 1) % (s.count + 1)

/-- The next slot's moment has been reached (R131). -/
def State.slotDue (s : State) : Bool := s.running && s.ssu.start + Config.slotPeriod * s.ssu.slot ≤ s.now

/-- The rotation goes on to the next slot. -/
def State.nextSlot (s : State) : State := s.modSsu fun u => { u with slot := u.slot + 1 }

/-- Step 1 of R140: last reading and invalid count (R133). -/
def ReadingRec.record (v : Option Nat) (r : ReadingRec) : ReadingRec :=
  match v with
  | some t => { r with last := some t, invalid := 0 }
  | none => { r with invalid := min 255 (r.invalid + 1) }

/-- The sensor check of an invalid reading (R135). -/
def State.sensorCheck (c : Nat) (s : State) : State :=
  if 2 ≤ (s.reading c).invalid then s.faultReport c .sensor else s

/-- The reading is an overheat (R136). -/
def State.overheat (s : State) (c t : Nat) : Bool :=
  950 < t || ((s.comp c).state = .holding && (s.mealClass (s.comp c)).ceiling + 150 < t)

/-- The overheat check of a valid reading (R136). -/
def State.overheatCheck (c t : Nat) (s : State) : State :=
  if s.overheat c t then s.faultReport c .overheat else s

/-- The element comparison of a reading with the reference: the weak count (R139). -/
def ReadingRec.compare (t : Nat) (r : ReadingRec) : ReadingRec :=
  match r.reference with
  | none => r
  | some f => { r with weak := if f + 5 ≤ t then 0 else min 3 (r.weak + 1), pending := false }

/-- A comparison is made and finds the element weak for the third time or again (R139). -/
def ReadingRec.weakReport (t : Nat) (r : ReadingRec) : Bool :=
  r.pending && match r.reference with
    | none => false
    | some f => t < f + 5 && 3 ≤ r.weak + 1

/-- The element comparison of a valid reading with a check pending (R139). -/
def State.elementCheck (c t : Nat) (s : State) : State :=
  let r := s.reading c
  let s1 := if r.pending then s.modReading c (ReadingRec.compare t) else s
  if r.weakReport t then s1.faultReport c .element else s1

/-- The cold check applies: HOLDING with both sides LATCHED (R137). -/
def State.coldApplies (s : State) (c : Nat) : Bool := (s.comp c).state = .holding && (s.door c).bothLatched

/-- A cold reading: below Tf - 100 dd (R137). -/
def State.isCold (s : State) (c t : Nat) : Bool := s.coldApplies c && t + 100 < (s.mealClass (s.comp c)).floor

/-- The cold-reading check of a valid reading (R137). -/
def State.coldCheck (c t : Nat) (s : State) : State :=
  if !s.isCold c t then s.modReading c fun r => { r with cold := 0 }
  else if (s.reading c).cold + 1 < 2 then s.modReading c fun r => { r with cold := r.cold + 1 }
  else (s.condemnReport c .coldReading).modReading c fun r => { r with cold := 0 }

/-- One reading of compartment `c`, in the order of R140. A run of 10 s or more that this reading's own OVERHEAT report
cuts in the second step Sets check pending, and the third step compares the run with this reading (log 39). -/
def State.scan (c : Nat) (v : Option Nat) (s : State) : State :=
  let s1 := s.modReading c (ReadingRec.record v)
  match v with
  | none => s1.sensorCheck c
  | some t => ((s1.overheatCheck c t).elementCheck c t).coldCheck c t

/-- SENSOR_READING (R140): the slot of a compartment position. -/
def execSensorReading (r : Reading) (s : State) : Result :=
  .next (if s.slotDue && s.scanPosition < s.count then (s.nextSlot.scan s.scanPosition (readingValue r)).close else s)

/-- AMBIENT_READING (R134): the slot of the ambient position. -/
def execAmbientReading (r : Reading) (s : State) : Result :=
  .next (if s.slotDue && s.scanPosition = s.count then
      s.nextSlot.modSsu fun u =>
        match readingValue r with
        | some t => { u with ambient := t }
        | none => { u with ambientHeld := true }
    else s)

/-! ## Input chain (R114) -/

/-- A sensor at the first sample: it sets the debounced value. -/
def Debounced.first (x : Bool) : Debounced := { value := x, run := 0 }

/-- A sensor at a later sample: an agreeing sample breaks the run, the third opposite one in a row changes the
value. -/
def Debounced.sample (x : Bool) (d : Debounced) : Debounced :=
  if x = d.value then { d with run := 0 }
  else if 2 ≤ d.run then { value := x, run := 0 }
  else { d with run := d.run + 1 }

/-- A door while the doors are acted on: the third opposite sample makes the change due, which a door event takes
(log 34). -/
def Debounced.sampleDoor (x : Bool) (d : Debounced) : Debounced :=
  if 3 ≤ d.run then d
  else if x = d.value then { d with run := 0 }
  else { d with run := d.run + 1 }

/-- The three sensors of a compartment at a sample; `acted` says that door events are taken (R113, R168). -/
def InputRec.sample (acted : Bool) (r : InputRec) (x : InputSample) : InputRec :=
  { kitchen := if acted then r.kitchen.sampleDoor x.kitchenOpen else r.kitchen.sample x.kitchenOpen,
    counter := if acted then r.counter.sampleDoor x.counterOpen else r.counter.sample x.counterOpen,
    presence := r.presence.sample x.present }

/-- Every compartment's sensors at a sample. -/
def sampleAll (acted : Bool) : List InputRec → List InputSample → List InputRec
  | [], _ => []
  | rs, [] => rs
  | r :: rs, x :: xs => r.sample acted x :: sampleAll acted rs xs

/-- The first sample of a cold start (R114, R165). -/
def InputRec.first (x : InputSample) : InputRec :=
  { kitchen := .first x.kitchenOpen, counter := .first x.counterOpen, presence := .first x.present }

/-- INPUT_CHAIN_SAMPLE (R114): every 20 ms from the cold start on. -/
def execInputChainSample (samples : List InputSample) (s : State) : Result :=
  .next (if s.sul.phase ≠ .resetAsserted ∧ s.inputs.next ≤ s.now then
      { s with inputs :=
        { recs := if s.inputs.recs = [] then samples.map InputRec.first
                  else sampleAll s.running s.inputs.recs samples,
          next := s.now + Config.samplePeriod } }
    else s)

end Sys2Proof.Machine
end

