-- ==== Sys2Proof/Machine/Clock.lean ====
section
/-! DEFINITION. What the part does on its own account when no command waits: the timed event whose moment has been
reached, or the next step of its clock (log 1, 32). Each due event is a command of the table, and its own meaning
uses it up. -/

namespace Sys2Proof.Machine

/-! ## Due events -/

/-- An event, when it is due. -/
def whenDue (b : Bool) (e : Instr) : List Instr := if b then [e] else []

/-- The door event of a side whose debounced value is due to change: which of the five it is follows from the side's
state and holder (R118 to R120, R127, R128). -/
def State.doorDue (s : State) (c : Nat) (sd : Side) : List Instr :=
  if s.doorChangeDue c sd then
    if s.doorValue c sd then
      whenDue (s.sideState c sd = .opened)
        (if (s.door c).holder = some sd then .doorClosed c sd else .forcedDoorClosed c sd)
    else
      match s.sideState c sd with
      | .released => [.doorOpened c sd]
      | .settling => [.doorReopened c sd]
      | .latched => [.doorForced c sd]
      | .opened => []
  else []

/-- The timed events of one side of a compartment (R118 to R120, R126). -/
def State.sideDue (s : State) (c : Nat) (sd : Side) : List Instr :=
  let r := (s.door c).side sd
  s.doorDue c sd
    ++ whenDue (r.state = .released && reached r.windowEnd s.now) (.releaseWindowLapse c sd)
    ++ whenDue (r.state = .opened && reached r.ajarAt s.now && !r.ajarNoticed) (.ajarTime c sd)
    ++ whenDue (r.state = .settling && reached r.settleEnd s.now) (.settleEnd c sd)
    ++ whenDue (reached (s.lapseOf c sd) s.now) (.waitLapse c sd)

/-- The timed events of a compartment's record (R27, R28, R55, R160). -/
def State.recordDue (s : State) (c : Nat) : List Instr :=
  (match (s.comp c).est with
    | some e => whenDue (e.decayAt ≤ s.now) (.decayStep c) ++ whenDue (reached e.limitAt s.now) (.holdLimitExpiry c)
    | none => [])
    ++ (match s.runningPulse c with
      | some p => whenDue (p.planned ≤ p.run) (.pulseEnd c)
      | none => [])
    ++ whenDue (reached (s.comp c).lockoutEnd s.now) (.lockoutEnd c)

/-- The timed events of a compartment. -/
def State.compDue (s : State) (c : Nat) : List Instr := s.sideDue c .kitchen ++ s.sideDue c .counter ++ s.recordDue c

/-- The rest ends and the end of the stagger (R42, R51). -/
def State.channelsDue (s : State) : List Instr :=
  ((List.range s.psc.channels.length).flatMap fun ch =>
      whenDue ((s.psc.channels[ch]?).any (Channel.restOver s.now)) (.channelRestEnd ch))
    ++ whenDue (s.psc.staggerOn && s.staggerEnded) .staggerEnd

/-- The claim window's end has been reached (R75). -/
def ClaimRec.windowOver (now : Time) : ClaimRec → Bool
  | .window _ _ _ _ windowEnd => windowEnd ≤ now
  | .noClaim | .queued _ _ _ => false

/-- The timed events of the Draw Share Unit and the Peer Draw Table (R69, R77, R79, R81). -/
def State.courtDue (s : State) : List Instr :=
  whenDue (s.dsu.claim.windowOver s.now) .claimWindowEnd
    ++ whenDue (reached s.dsu.lostUntil s.now) .lostBackoffEnd
    ++ whenDue (reached s.dsu.overrunUntil s.now) .overrunHoldEnd
    ++ s.peers.flatMap fun e =>
        whenDue ((s.peer e.address).live && reached ((s.peer e.address).heard.map (· + Config.liveTime)) s.now)
          (.entryLapse e.address)

/-- The line timers and the lookup wait (R93, R96, R97, R110). -/
def State.lineDue (s : State) : List Instr :=
  whenDue (reached s.lif.drawAt s.now) .drawTimerExpiry
    ++ whenDue (reached s.lif.silenceAt s.now) .silenceTimerExpiry
    ++ whenDue (reached s.lif.joiningAt s.now) .joiningTimerExpiry
    ++ whenDue (reached (s.cdir.lookup.map Lookup.waitEnd) s.now) .lookupWaitEnd

/-- The gaps of the two port receivers (R144, R158). -/
def State.gapsDue (s : State) : List Instr :=
  whenDue (reached s.kp.receiver.gapEnd s.now) .kitchenGapExpiry
    ++ whenDue (reached s.cp.receiver.gapEnd s.now) .counterGapExpiry

/-- Every event whose moment has been reached, in the order in which the clock takes them (log 32). Outside service no
timer runs but those of the port receivers. -/
def State.dueEvents (s : State) : List Instr :=
  (if s.running then
    (List.range s.count).flatMap s.compDue ++ s.channelsDue ++ s.courtDue ++ s.lineDue
  else []) ++ s.gapsDue

/-- The event the clock takes next. -/
def State.nextDue (s : State) : Option Instr := s.dueEvents.head?

/-! ## The clock's step -/

/-- Ten milliseconds of a RUNNING pulse: run-so-far and uncredited on-time grow alike (R33, R46). -/
def CompRec.heat (r : CompRec) : CompRec :=
  match r.pulse with
  | none => r
  | some p =>
    if p.isRunning then
      { r with pulse := some { p with run := p.run + Config.clockStep },
               est := r.est.map fun e => { e with uncredited := e.uncredited + Config.clockStep } }
    else r

/-- The clock moves on by its resolution (00_scope.md, Units; log 1). -/
def State.tick (s : State) : State :=
  { s with now := s.now + Config.clockStep, comps := if s.running then s.comps.map CompRec.heat else s.comps }

end Sys2Proof.Machine
end

