-- ==== Sys2Proof/Machine/Receive.lean ====
section
/-! DEFINITION. Which command a string of bytes is: frames of the Court Line by the layers of R94 and R174, records of
the two panel ports by R144 and R175; and which row ends an attempt, by the bits read back (R90). -/

namespace Sys2Proof.Machine

/-! ## Court Line (R88, R94, R174) -/

/-- The payload length the table gives each kind (R174). -/
def payloadLength : Nat → Option Nat
  | 0 => some 5
  | 1 => some 9
  | 2 => some 5
  | 3 => some 5
  | 4 => some 3
  | 5 => some 9
  | _ => none

/-- A frame of kind `kind` whose payload has the table's length: its row, when its content is within its ranges. -/
def contentRow (kind sender : Nat) (p : List Byte) : Instr :=
  match kind with
  | 0 => .claimFrame sender (fieldAt p 0 2) (fieldAt p 2 2) (fieldAt p 4 1)
  | 1 =>
    if drawContent (fieldAt p 0 1) (fieldAt p 1 1) then
      .drawFrame sender (fieldAt p 0 1) (fieldAt p 1 1) (fieldAt p 2 2) (fieldAt p 4 1) (fieldAt p 5 2) (fieldAt p 7 1)
        (fieldAt p 8 1)
    else .frameDiscarded .content
  | 2 =>
    if goneContent (fieldAt p 0 3) (fieldAt p 3 1) (fieldAt p 4 1) then
      .goneFrame sender (fieldAt p 0 3) (fieldAt p 3 1) (fieldAt p 4 1)
    else .frameDiscarded .content
  | 3 =>
    if stowedContent (fieldAt p 0 3) (fieldAt p 3 1) (fieldAt p 4 1) then
      .stowedFrame sender (fieldAt p 0 3) (fieldAt p 3 1) (fieldAt p 4 1)
    else .frameDiscarded .content
  | 4 => if tagOk (fieldAt p 0 3) then .queryFrame sender (fieldAt p 0 3) else .frameDiscarded .content
  | 5 =>
    if !helloContent (fieldAt p 8 1) then .frameDiscarded .content
    else if fieldAt p 0 1 = 0 then
      .helloFresh sender (fieldAt p 1 2) (fieldAt p 3 2) (fieldAt p 5 2) (fieldAt p 7 1) (fieldAt p 8 1)
    else if fieldAt p 0 1 = 1 then
      .helloAnswer sender (fieldAt p 1 2) (fieldAt p 3 2) (fieldAt p 5 2) (fieldAt p 7 1) (fieldAt p 8 1)
    else .frameDiscarded .content
  | _ => .unknownKindFrame sender

/-- A frame that has passed framing and check: source, kind, content (R94 layers 3 to 5). -/
def wellFormedRow (own kind sender : Nat) (p : List Byte) : Instr :=
  if sender = own then .ownAddressFrame
  else
    match payloadLength kind with
    | none => .unknownKindFrame sender
    | some n => if p.length = n then contentRow kind sender p else .frameDiscarded .content

/-- The bytes heard from the first start bit after an idle line to the next idle line, as the station of address `own`
takes them (R94): framing, check, and what follows. An own completed frame is no command. -/
def frameCommand (own : Nat) (bs : List Byte) : Instr :=
  let n := fieldAt bs 1 1
  if bs.length < 4 || 12 < n || bs.length < 4 + n then .frameDiscarded .framing
  else if be16 (crc (bs.take (2 + n))).toNat ≠ (bs.drop (2 + n)).take 2 then .frameDiscarded .crc
  else wellFormedRow own (fieldAt bs 0 1 / 32) (fieldAt bs 0 1 % 32) ((bs.drop 2).take n)

/-- The row by which a peer takes a frame that station `sender` sends; a DRAW is taken with the report filled in at the
attempt (R89, R93). -/
def Frame.row (sender : Nat) (r : DrawReport) : Frame → Instr
  | .claim amount margin sequence => .claimFrame sender amount margin sequence
  | .draw => .drawFrame sender r.service.code r.line.code r.draw r.power (r.margin.getD 0xFFFF) r.due r.holding
  | .gone tag comp reason => .goneFrame sender tag comp reason.code
  | .stowed tag comp cls => .stowedFrame sender tag comp cls
  | .query tag => .queryFrame sender tag
  | .hello .fresh p => .helloFresh sender p.wc p.wr p.wg p.n p.count
  | .hello .answer p => .helloAnswer sender p.wc p.wr p.wg p.n p.count

/-! ## The bits of an attempt (R88, R90) -/

/-- The ten bits of a byte on the Court Line, recessive as `true`: a dominant start bit, the data bits, most significant
first, and a recessive stop bit (R88). -/
def byteBits (b : Byte) : List Bool := false :: ((List.range 8).map fun i => b.getMsbD i) ++ [true]

/-- The bits of a frame's bytes, with no gap between them (R88). -/
def frameBits (bs : List Byte) : List Bool := bs.flatMap byteBits

/-- How an attempt ends, from bit `i` on, by the bits still to be sent and those read back: lost where a recessive bit of
the lead reads dominant, failed at any other difference, completed when all are read back; none while it goes on (R90). -/
def attemptEndFrom : Nat → List Bool → List Bool → Option Instr
  | _, [], _ => some .attemptCompleted
  | _, _ :: _, [] => none
  | i, sent :: ss, read :: rs =>
    if sent = read then attemptEndFrom (i + 1) ss rs
    else if sent && 1 ≤ i && i ≤ 8 then some .attemptLost
    else some .attemptFailed

/-- The row by which the attempt of a frame of bytes `bs` ends when `read` is what the line showed from its start bit on. -/
def attemptCommand (bs : List Byte) (read : List Bool) : Option Instr := attemptEndFrom 0 (frameBits bs) read

/-! ## Panel ports (R144, R158, R175) -/

/-- The fields of a record: what stands between its kind byte and its sum. -/
def recordFields (len : Nat) (bs : List Byte) : List Byte := (bs.drop 2).take (len - 3)

/-- The row of a well-formed kitchen record of length `len`, kind `kind` and fields `f` (R175). -/
def kitchenRow (len kind : Nat) (f : List Byte) : Instr :=
  match kind with
  | 1 => .load len (fieldAt f 0 3) (fieldAt f 3 2) (fieldAt f 5 1) (fieldAt f 6 1) (fieldAt f 7 2) (fieldAt f 9 2)
  | 2 => .attend len (fieldAt f 0 1)
  | 3 => .release len (fieldAt f 0 1)
  | 4 =>
    if fieldAt f 1 1 = 1 then .serviceIn len (fieldAt f 0 1) (fieldAt f 1 1)
    else .serviceOut len (fieldAt f 0 1) (fieldAt f 1 1)
  | 5 => .compartmentReset len (fieldAt f 0 1)
  | 6 => .bankClose len
  | 7 => .bankOpen len
  | 8 => if fieldAt f 0 1 = 255 then .statusStation len else .statusCompartment len (fieldAt f 0 1)
  | 9 => .clearFaults len
  | 10 => .whereTag len (fieldAt f 0 3)
  | k => .kitchenUnknownKind k

/-- The row of a well-formed counter record (R158, R175). -/
def counterRow (len kind : Nat) (f : List Byte) : Instr :=
  match kind with
  | 1 => .collect len (fieldAt f 0 3) (fieldAt f 3 2)
  | 2 => .cancel len
  | k => .counterUnknownKind k

/-- The row of a complete record: taken when the modulo-256 sum of its bytes is 0, else the port's bad record (R144). -/
def recordRow (bad : Instr) (row : Nat → Nat → List Byte → Instr) (bs : List Byte) : Instr :=
  if bs.foldl (· + ·) 0#8 = 0#8 then row bs.length (fieldAt bs 1 1) (recordFields bs.length bs) else bad

/-- A receiver at a byte, and the row that the byte completes. A first byte is the record's length; one outside 3 to 16
is discarded alone, and the next byte begins a record. A later byte continues the record until it has its length, and
starts its gap of 50 ms anew (R144, R175). -/
def Receiver.take (bad : Instr) (row : Nat → Nat → List Byte → Instr) (now : Time) (b : Byte) (r : Receiver) :
    Receiver × Option Instr :=
  let gathering (bs : List Byte) : Receiver := { gathered := bs, gapEnd := some (now + Config.gapTime) }
  match r.gathered with
  | [] => if 3 ≤ b.toNat && b.toNat ≤ 16 then (gathering [b], none) else (.empty, some bad)
  | len :: bs =>
    let got := len :: (bs ++ [b])
    if got.length < len.toNat then (gathering got, none) else (.empty, some (recordRow bad row got))

end Sys2Proof.Machine
end

