-- ==== Sys2Proof/Machine/Dispatch.lean ====
section
/-! DEFINITION. The dispatch: one arm per command, each one call of its meaning. -/

namespace Sys2Proof.Machine

def exec (i : Instr) (s : State) : Host.Outcome State Fault Refusal :=
  match i with
  | .coldStart => Sys2Proof.Machine.execColdStart s
  | .resetAsserted => Sys2Proof.Machine.execResetAsserted s
  | .configReadDone first second => Sys2Proof.Machine.execConfigReadDone first second s
  | .load len tag code cls reach limit probe => Sys2Proof.Machine.execLoad len tag code cls reach limit probe s
  | .attend len c => Sys2Proof.Machine.execAttend len c s
  | .compartmentReset len c => Sys2Proof.Machine.execCompartmentReset len c s
  | .release len c => Sys2Proof.Machine.execRelease len c s
  | .serviceOut len c dir => Sys2Proof.Machine.execServiceOut len c dir s
  | .serviceIn len c dir => Sys2Proof.Machine.execServiceIn len c dir s
  | .bankClose len => Sys2Proof.Machine.execBankClose len s
  | .bankOpen len => Sys2Proof.Machine.execBankOpen len s
  | .statusCompartment len c => Sys2Proof.Machine.execStatusCompartment len c s
  | .statusStation len => Sys2Proof.Machine.execStatusStation len s
  | .clearFaults len => Sys2Proof.Machine.execClearFaults len s
  | .whereTag len tag => Sys2Proof.Machine.execWhere len tag s
  | .kitchenBadRecord => Sys2Proof.Machine.execKitchenBadRecord s
  | .kitchenGapExpiry => Sys2Proof.Machine.execKitchenGapExpiry s
  | .kitchenTxDone => Sys2Proof.Machine.execKitchenTxDone s
  | .collect len tag code => Sys2Proof.Machine.execCollect len tag code s
  | .cancel len => Sys2Proof.Machine.execCancel len s
  | .counterBadRecord => Sys2Proof.Machine.execCounterBadRecord s
  | .counterGapExpiry => Sys2Proof.Machine.execCounterGapExpiry s
  | .counterTxDone => Sys2Proof.Machine.execCounterTxDone s
  | .lockoutEnd c => Sys2Proof.Machine.execLockoutEnd c s
  | .lookupWaitEnd => Sys2Proof.Machine.execLookupWaitEnd s
  | .attemptStart => Sys2Proof.Machine.execAttemptStart s
  | .attemptLost => Sys2Proof.Machine.execAttemptLost s
  | .attemptFailed => Sys2Proof.Machine.execAttemptFailed s
  | .attemptCompleted => Sys2Proof.Machine.execAttemptCompleted s
  | .frameDiscarded layer => Sys2Proof.Machine.execFrameDiscarded layer s
  | .ownAddressFrame => Sys2Proof.Machine.execOwnAddressFrame s
  | .unknownKindFrame sender => Sys2Proof.Machine.execUnknownKindFrame sender s
  | .claimFrame sender amount margin sequence => Sys2Proof.Machine.execClaimFrame sender amount margin sequence s
  | .drawFrame sender service line draw power margin due holding => Sys2Proof.Machine.execDrawFrame sender service line draw power margin due holding s
  | .goneFrame sender tag comp reason => Sys2Proof.Machine.execGoneFrame sender tag comp reason s
  | .stowedFrame sender tag comp cls => Sys2Proof.Machine.execStowedFrame sender tag comp cls s
  | .queryFrame sender tag => Sys2Proof.Machine.execQueryFrame sender tag s
  | .helloFresh sender wc wr wg n count => Sys2Proof.Machine.execHelloFresh sender wc wr wg n count s
  | .helloAnswer sender wc wr wg n count => Sys2Proof.Machine.execHelloAnswer sender wc wr wg n count s
  | .drawTimerExpiry => Sys2Proof.Machine.execDrawTimerExpiry s
  | .silenceTimerExpiry => Sys2Proof.Machine.execSilenceTimerExpiry s
  | .joiningTimerExpiry => Sys2Proof.Machine.execJoiningTimerExpiry s
  | .entryLapse addr => Sys2Proof.Machine.execEntryLapse addr s
  | .claimWindowEnd => Sys2Proof.Machine.execClaimWindowEnd s
  | .lostBackoffEnd => Sys2Proof.Machine.execLostBackoffEnd s
  | .overrunHoldEnd => Sys2Proof.Machine.execOverrunHoldEnd s
  | .decayStep c => Sys2Proof.Machine.execDecayStep c s
  | .holdLimitExpiry c => Sys2Proof.Machine.execHoldLimitExpiry c s
  | .pulseEnd c => Sys2Proof.Machine.execPulseEnd c s
  | .channelRestEnd ch => Sys2Proof.Machine.execChannelRestEnd ch s
  | .staggerEnd => Sys2Proof.Machine.execStaggerEnd s
  | .doorOpened c side => Sys2Proof.Machine.execDoorOpened c side s
  | .doorReopened c side => Sys2Proof.Machine.execDoorReopened c side s
  | .doorClosed c side => Sys2Proof.Machine.execDoorClosed c side s
  | .doorForced c side => Sys2Proof.Machine.execDoorForced c side s
  | .forcedDoorClosed c side => Sys2Proof.Machine.execForcedDoorClosed c side s
  | .releaseWindowLapse c side => Sys2Proof.Machine.execReleaseWindowLapse c side s
  | .ajarTime c side => Sys2Proof.Machine.execAjarTime c side s
  | .settleEnd c side => Sys2Proof.Machine.execSettleEnd c side s
  | .waitLapse c side => Sys2Proof.Machine.execWaitLapse c side s
  | .sensorReading r => Sys2Proof.Machine.execSensorReading r s
  | .ambientReading r => Sys2Proof.Machine.execAmbientReading r s
  | .inputChainSample samples => Sys2Proof.Machine.execInputChainSample samples s
  | .kitchenUnknownKind kind => Sys2Proof.Machine.execKitchenUnknownKind kind s
  | .counterUnknownKind kind => Sys2Proof.Machine.execCounterUnknownKind kind s

end Sys2Proof.Machine
end

