-- ==== Sys2Proof/Machine/Arrival.lean ====
section
/-! DEFINITION. Bytes arriving on the receive lines of the two panel ports (R144, R158, R175): the table has no row for
one, so the part takes them on its own when no command waits (log 3). -/

namespace Sys2Proof.Machine

/-- The byte at the head of a line, when its moment has been reached. -/
def arrived (now : Time) : List RxByte → Option Byte
  | [] => none
  | x :: _ => if x.arrives ≤ now then some x.byte else none

/-- The byte the part takes next, and its port (log 32). -/
def State.nextByte (s : State) : Option (Side × Byte) :=
  match arrived s.now s.rx.kitchen with
  | some b => some (.kitchen, b)
  | none => (arrived s.now s.rx.counter).map fun b => (.counter, b)

/-- The lines with the head byte of a port's line taken. -/
def RxLines.next (l : RxLines) : Side → RxLines
  | .kitchen => { l with kitchen := l.kitchen.tail }
  | .counter => { l with counter := l.counter.tail }

/-- The row a byte completes, if any, within the event of the byte's arrival. -/
def State.runRow (row : Option Instr) (s : State) : Result :=
  match row with
  | some i => exec i s
  | none => .next s

/-- Byte `b` arrives at a port: the receiver takes it, and the record it completes runs at once (R144, R175). Nothing is
received while reset is asserted. -/
def State.takeByte (sd : Side) (b : Byte) (s : State) : Result :=
  let u : State := { s with rx := s.rx.next sd }
  if s.sul.phase = .resetAsserted then .next u
  else
    match sd with
    | .kitchen =>
      let g := s.kp.receiver.take .kitchenBadRecord kitchenRow s.now b
      State.runRow g.2 (u.modKp fun k => { k with receiver := g.1 })
    | .counter =>
      let g := s.cp.receiver.take .counterBadRecord counterRow s.now b
      State.runRow g.2 (u.modCp fun p => { p with receiver := g.1 })

end Sys2Proof.Machine
end

