-- ==== Sys2Proof/Machine/Step.lean ====
section
/-! DEFINITION. One step of the block: the command at the front of the queue; on an empty queue the byte that has arrived
at a port, else the timed event that is due, and when none is, the clock's next step (log 1, 3). -/

namespace Sys2Proof.Machine

/-- One step. -/
def step (s : State) : Host.Outcome State Fault Refusal :=
  match s.pending with
  | c :: rest => exec c { s with pending := rest }
  | [] =>
    match s.nextByte with
    | some (sd, b) => s.takeByte sd b
    | none =>
      match s.nextDue with
      | some e => exec e s
      | none => .next s.tick

/-- The state with the command a word spells put at the front of its queue; unchanged where it spells none. -/
def State.withFetchWord (s : State) (nbits w : Nat) : State :=
  match decodeTableWord nbits w with
  | some c => { s with pending := c :: s.pending }
  | none => s

end Sys2Proof.Machine
end

