-- ==== Sys2Proof/Safety.lean ====
section
/-! DEFINITION. What the statements speak of: what a port sends next, what a command may change besides its own effect,
and the laws the spec says the part keeps. -/

namespace Sys2Proof.Machine

/-! ## What a command may change besides its own effect -/

/-- No trigger of a start attempt and no change of D is left over. `exec` leaves a state so (log 6). -/
def State.Quiet (s : State) : Prop := s.psc.attemptDue = false ∧ s.psc.drawMoved = false

/-- A compartment record but for its estimate and pulse records, which the Hold Estimator and the Pulse Scheduler keep
(R1). -/
def CompRec.table (r : CompRec) : CompRec := { r with est := none, pulse := none }

/-- The queued frames of kinds 2 to 5, in the queue's order (R92). -/
def Lif.notes (l : Lif) : List Queued := l.queue.filter fun q => q.frame.isNote

/-- The Line Interface but for its CLAIM and DRAW frames: queued ones, their ages, and the mark of a CLAIM under attempt
whose claim was dropped (R80). -/
def Lif.standing (l : Lif) : Lif :=
  { l with queue := l.notes, stamp := 0, buffer := l.buffer.map fun b => { b with doomed := false } }

/-- `t` is `u` but for what start attempts and changes of D bring (R44, R50, R81): estimate, pulse and reading records,
channels, the DSU, CLAIM and DRAW frames. Every other field is `u`'s, with the two transmitters supplied (R146, R158). -/
def SameButHeating (u t : State) : Prop :=
  t.now = u.now ∧ t.sul = u.sul ∧ t.comps.map CompRec.table = u.comps.map CompRec.table ∧ t.doors = u.doors
    ∧ t.requestSerial = u.requestSerial ∧ t.inputs = u.inputs ∧ t.ssu = u.ssu ∧ t.peers = u.peers
    ∧ t.lif.standing = u.lif.standing ∧ t.cdir = u.cdir ∧ t.kp = u.pump.kp ∧ t.cp = u.pump.cp ∧ t.rx = u.rx
    ∧ t.pending = u.pending

/-- A kitchen request is taken and decided: service has begun and the port is not busy (R144, R145). -/
def State.takesKitchen (s : State) : Prop := s.running = true ∧ s.kp.busy = false

/-- A counter request is taken and decided (R158). -/
def State.takesCounter (s : State) : Prop := s.running = true ∧ s.counterBusy = false

/-- The kind code of the kitchen record a row stands for (R175), none for other rows. -/
def kitchenKind : Instr → Option Nat
  | .load _ _ _ _ _ _ _ => some 1
  | .attend _ _ => some 2
  | .release _ _ => some 3
  | .serviceOut _ _ _ => some 4
  | .serviceIn _ _ _ => some 4
  | .compartmentReset _ _ => some 5
  | .bankClose _ => some 6
  | .bankOpen _ => some 7
  | .statusCompartment _ _ => some 8
  | .statusStation _ => some 8
  | .clearFaults _ => some 9
  | .whereTag _ _ => some 10
  | .kitchenUnknownKind k => some k
  | _ => none

/-- The kind code of the counter record a row stands for (R158, R175), none for other rows. -/
def counterKind : Instr → Option Nat
  | .collect _ _ _ => some 1
  | .cancel _ => some 2
  | .counterUnknownKind k => some k
  | _ => none

/-- `s` with its kitchen receiver empty and the reply `r` given, which the transmitter takes next where it is free
(R144, R146). -/
def State.kitchenAnswered (s : State) (r : KReply) : State :=
  { s with kp := KitchenPort.pump { s.kp with receiver := .empty, replies := s.kp.replies ++ [r] },
           cp := s.cp.pump s.cdir.lookup.isSome }

/-- `s` with its counter receiver empty and the reply `o` given (R158). -/
def State.counterAnswered (s : State) (o : COutcome) (arg : Option Nat) : State :=
  { s with kp := s.kp.pump,
           cp := CounterPort.pump s.cdir.lookup.isSome
             { s.cp with receiver := .empty, replies := s.cp.replies ++ [{ outcome := o, arg := arg }] } }

/-- What a receiver does with byte `b`, `out` saying what follows from the receiver after it and the row it completes
(R144, R175). -/
def Gathers (now : Time) (b : Byte) (r : Receiver) (row : Nat → Nat → List Byte → Instr)
    (out : Receiver → Option Instr → Prop) : Prop :=
  let more (bs : List Byte) : Receiver := { gathered := bs, gapEnd := some (now + 50) }
  (r.gathered = [] → 3 ≤ b.toNat → b.toNat ≤ 16 → out (more [b]) none)
  ∧ (r.gathered = [] → b.toNat < 3 ∨ 16 < b.toNat → out .empty none)
  ∧ (∀ len bs, r.gathered = len :: bs → bs.length + 2 < len.toNat → out (more (len :: bs ++ [b])) none)
  ∧ (∀ len bs, r.gathered = len :: bs → len.toNat ≤ bs.length + 2 →
    let got := len :: bs ++ [b]
    ((got.foldl (· + ·) 0#8 ≠ 0#8) → out .empty none)
    ∧ ((got.foldl (· + ·) 0#8 = 0#8) →
      out .empty (some (row got.length (fieldAt got 1 1) ((got.drop 2).take (got.length - 3))))))

/-- The row a byte completes runs on the state the byte leaves; without one that state is the outcome. -/
def Arrives (row : Option Instr) (s : State) : Result :=
  match row with
  | some i => exec i s
  | none => .next s

/-! ## The configuration memory (R166, R167) -/

/-- A read that succeeds with these bytes: every byte of the record answered, and their modulo-256 sum is 0. -/
def ReadGood (r : ConfigRead) (bs : List Byte) : Prop :=
  r = .data bs ∧ 85 ≤ bs.length ∧ (bs.take 85).foldl (· + ·) 0#8 = 0#8

/-- A read that fails for want of an answer, at its start or at any byte of the record. -/
def ReadSilent (r : ConfigRead) : Prop := r = .noAnswer ∨ ∃ bs, r = .data bs ∧ bs.length < 85

/-- A read that completes with a bad sum. -/
def ReadBadSum (r : ConfigRead) : Prop :=
  ∃ bs, r = .data bs ∧ 85 ≤ bs.length ∧ (bs.take 85).foldl (· + ·) 0#8 ≠ 0#8

/-- The bytes of the record used: of the first read that succeeds (R166). -/
def RecordRead (first second : ConfigRead) (bs : List Byte) : Prop :=
  ReadGood first bs ∨ ((ReadSilent first ∨ ReadBadSum first) ∧ ReadGood second bs)

/-- Every field of R166 but the class records lies within its range (R167). -/
def ConfigRec.InRanges (r : ConfigRec) : Prop :=
  r.address ≤ 31 ∧ (1 ≤ r.courtSize ∧ r.courtSize ≤ 32) ∧ (8 ≤ r.count ∧ r.count ≤ 32) ∧ r.reach ≤ r.count
    ∧ (10 ≤ r.power ∧ r.power ≤ 100) ∧ (100 ≤ r.allowance ∧ r.allowance ≤ 20000) ∧ r.reserve ≤ 20000
    ∧ r.guardW ≤ 20000 ∧ (10 ≤ r.isolated ∧ r.isolated ≤ 20000) ∧ r.ambient ≤ 1200

/-- The three court checks of R64, with F = floor((Wc - Wr - Wg) / N). -/
def ConfigRec.FitsCourt (r : ConfigRec) : Prop :=
  r.reserve + r.guardW < r.allowance ∧ r.power ≤ (r.allowance - r.reserve - r.guardW) / r.courtSize
    ∧ r.power ≤ r.isolated ∧ r.isolated ≤ r.reserve

/-- A cold start in progress: every block but the input chain, the port receivers and the clock stands as at its start (R165). -/
def State.ColdStarting (s : State) : Prop :=
  s.sul.phase = .coldStart ∧ s.psc = .cold ∧ s.dsu = .cold ∧ s.lif = .cold ∧ s.cdir = { entries := [], lookup := none }
    ∧ s.kp = { KitchenPort.cold with receiver := s.kp.receiver }
    ∧ s.cp = { CounterPort.cold with receiver := s.cp.receiver }

/-- The sides whose door shows open at the end of start-up, in the order in which they are examined (R113, log 18). -/
def State.openAtStart (s : State) (count : Nat) : List (Nat × Side) :=
  ((List.range count).flatMap fun c => [(c, Side.kitchen), (c, Side.counter)]).filter fun x => s.doorValue x.1 x.2

/-- A side after the end of start-up: OPEN with its latch engaged when its door shows open, else LATCHED (R113, R127). -/
def State.sideAtStart (s : State) (c : Nat) (sd : Side) : SideRec :=
  if s.doorValue c sd then
    { SideRec.latchedNew with state := .opened, ajarAt := some (s.now + Config.ajarTime sd) }
  else .latchedNew

/-! ## Port records (R147, R175) -/

/-- The compartment a kitchen row names, with the record's length. -/
def compartmentField : Instr → Option (Nat × Nat)
  | .attend len c => some (len, c)
  | .compartmentReset len c => some (len, c)
  | .release len c => some (len, c)
  | .serviceOut len c _ => some (len, c)
  | .serviceIn len c _ => some (len, c)
  | .statusCompartment len c => some (len, c)
  | _ => none

/-- The length the request table gives a kitchen kind (R175). -/
def kitchenLength : Nat → Nat
  | 1 => 14
  | 4 => 5
  | 2 | 3 | 5 | 8 => 4
  | 10 => 6
  | _ => 3

/-- The fields of a kitchen row lie within the ranges of R175. -/
def kitchenFieldsOk : Instr → Bool
  | .load _ tag code cls reach limit probe =>
    1 ≤ tag && tag ≤ 999999 && code ≤ 9999 && cls ≤ 3 && reach ≤ 1 && limit ≤ 14400 && (probe ≤ 1200 || probe = 65535)
  | .serviceOut _ _ dir | .serviceIn _ _ dir => dir ≤ 1
  | .whereTag _ tag => 1 ≤ tag && tag ≤ 999999
  | .kitchenUnknownKind _ => false
  | _ => true

/-- The length of the record a kitchen row stands for. -/
def recordLength : Instr → Nat
  | .load len _ _ _ _ _ _ => len
  | .attend len _ | .compartmentReset len _ | .release len _ | .statusCompartment len _ => len
  | .serviceOut len _ _ | .serviceIn len _ _ => len
  | .bankClose len | .bankOpen len | .statusStation len | .clearFaults len => len
  | .whereTag len _ => len
  | .collect len _ _ | .cancel len => len
  | _ => 0

/-- A kitchen row of kind `k` passes the form step of R147. -/
def kitchenFormOk (k : Nat) (i : Instr) : Bool := recordLength i = kitchenLength k && kitchenFieldsOk i

/-- The compartment a BAD_FIELD reply names: the record's, or, in a record of wrong length, FREE (log 10). -/
def badFieldNames (k : Nat) (i : Instr) : Option Nat :=
  (compartmentField i).bind fun x =>
    if x.1 = kitchenLength k then some x.2
    else if 4 ≤ x.1 && Config.wrongLengthNames k x.1 then some x.2 else none

/-- The refusal by the first of the first seven checks of R3 that fails, in line mode `m`; none when all pass. -/
def State.loadRefusal (s : State) (m : LineMode) (len tag code cls reach limit probe : Nat) : Option KOutcome :=
  let required := ((s.dutySum cls) * s.cfg.power + 999) / 1000
  if !kitchenFormOk 1 (.load len tag code cls reach limit probe) then some .badField
  else if s.sul.service ≠ some .serving then some .bankShut
  else if !s.classEnabled cls then some .classOff
  else if s.comps.any fun r => r.meal.map Meal.tag = some tag then some .duplicate
  else if probe ≠ 65535 ∧ probe < (s.cls cls).floor then some .tooCool
  else if m = .mismatchedParameters ∨ m = .mismatchedClash then some .courtFault
  else if (if m = .isolated then s.cfg.isolated else s.cfg.share) < required then some .heatFull
  else if 4 ≤ s.sideCount .kitchen then some .busy
  else none

/-- A side as a seize leaves it at `now` (R116). -/
def SideRec.seized (sd : Side) (now : Time) (r : SideRec) : SideRec :=
  { r with state := .released, latchReleased := true,
           windowEnd := some (now + match sd with
             | .kitchen => 45000
             | .counter => 20000) }

/-- `s` with the doors of `c` seized by a side (R116). -/
def State.withSeize (c : Nat) (sd : Side) (s : State) : State :=
  { s with doors := s.doors.modify c fun d =>
      match sd with
      | .kitchen => { d with kitchen := d.kitchen.seized sd s.now, holder := some sd }
      | .counter => { d with counter := d.counter.seized sd s.now, holder := some sd } }

/-- A seize of a side of `c` finds room: no holder, both sides LATCHED, the side's count below 4 (R116). -/
def State.roomFor (s : State) (c : Nat) (sd : Side) : Prop :=
  (s.door c).holder = none ∧ (s.door c).kitchen.state = .latched ∧ (s.door c).counter.state = .latched
    ∧ s.sideCount sd < 4

/-! ## Frames heard (R94, R174) -/

/-- The sender of a frame row of kinds 0 to 5. -/
def frameSender : Instr → Option Nat
  | .claimFrame sender _ _ _ => some sender
  | .drawFrame sender _ _ _ _ _ _ _ => some sender
  | .goneFrame sender _ _ _ => some sender
  | .stowedFrame sender _ _ _ => some sender
  | .queryFrame sender _ => some sender
  | .helloFresh sender _ _ _ _ _ => some sender
  | .helloAnswer sender _ _ _ _ _ => some sender
  | _ => none

/-- The fields of a frame row lie within the ranges of R94. -/
def frameContentOk : Instr → Bool
  | .drawFrame _ service line _ _ _ _ _ => service ≤ 2 && line ≤ 3
  | .goneFrame _ tag comp reason => 1 ≤ tag && tag ≤ 999999 && comp < 32 && reason ≤ 2
  | .stowedFrame _ tag comp cls => 1 ≤ tag && tag ≤ 999999 && comp < 32 && cls ≤ 3
  | .queryFrame _ tag => 1 ≤ tag && tag ≤ 999999
  | .helloFresh _ _ _ _ _ count | .helloAnswer _ _ _ _ _ count => 8 ≤ count && count ≤ 32
  | _ => true

/-- What every frame of a peer that passes the check does: a running silence timer is restarted and the rejoin flag is Set
(R94 layer 3). -/
def State.heard (s : State) : State :=
  { s with lif := { s.lif with silenceAt := s.lif.silenceAt.map (fun _ => s.now + 2000), rejoin := true } }

/-- When S is lower than `before`, a LOST backoff ends and the scheduler is told (R66, R67, R69, R73, R79). -/
def State.afterFallFrom (before : Nat) (s : State) : State :=
  if s.peerDraw < before then State.wake { s with dsu := { s.dsu with lostUntil := none } } else s

/-- `t` has entered ISOLATED from `s` (R97, R99): what the Line Interface, the claim and the Kitchen Port show, and what
the entry leaves unchanged. -/
def State.Isolated (s t : State) : Prop :=
  t.lif.mode = some .isolated ∧ t.lif.failed = 0 ∧ t.lif.rejoin = false ∧ t.lif.silenceAt = none
    ∧ t.lif.joiningAt = none ∧ t.lif.drawAt = s.lif.drawAt ∧ t.dsu.claim = .noClaim
    ∧ (∃ q ∈ t.lif.queue, q.frame = .draw) ∧ t.lif.noteLost = s.lif.noteLost ∧ t.draw ≤ t.cfg.isolated
    ∧ t.kp = (s.notifyKitchen (.lineMode .isolated)).pump.kp ∧ t.sul = s.sul ∧ t.doors = s.doors
    ∧ t.comps.map CompRec.table = s.comps.map CompRec.table ∧ t.peers = s.peers ∧ t.cdir = s.cdir

/-! ## Heating (R42, R55, R56, R59, R139) -/

/-- The channels with the one that drives `c` released at `now` (R42). -/
def releasedChannels (c : Nat) (now : Time) (chs : List Channel) : List Channel :=
  chs.map fun x => if x = .on c then .rest (now + 2000) else x

/-- `s` after the run of `len` ms on `c` has ended: its channel in REST for 2 s, its estimate and pulse records as given,
the element check told of the run, and D's change to be handed on (R42, R44, R55, R56, R59, R139). -/
def State.runEnded (c : Nat) (len : Time) (est : Option Estimate) (pulse : Option Pulse) (s : State) : State :=
  { s with comps := s.comps.modify c (fun r => { r with est := est, pulse := pulse }),
           psc := { s.psc with channels := releasedChannels c s.now s.psc.channels, attemptDue := true,
                               drawMoved := true },
           readings := s.readings.modify c fun r =>
             if 10000 ≤ len ∧ r.reference ≠ none then { r with pending := true } else r }

/-- A pulse of `c` is RUNNING on the one channel that drives `c`. -/
def State.Heated (s : State) (c ch : Nat) (p : Pulse) (e : Estimate) : Prop :=
  c < s.count ∧ (s.comp c).pulse = some p ∧ p.state = .running ch ∧ (s.comp c).est = some e
    ∧ s.psc.channels[ch]? = some (.on c)

/-- Of the compartments for which `p` holds, `v` has the largest margin, and among equal margins the highest index (R58,
R61). -/
def State.LargestOf (s : State) (p : Nat → Prop) (v : Nat) : Prop :=
  p v ∧ ∀ u, p u → u ≠ v → s.margin u < s.margin v ∨ (s.margin u = s.margin v ∧ u < v)

/-- A RUNNING pulse of `v`. -/
def State.Runs (s : State) (v : Nat) : Prop :=
  v < s.count ∧ ∃ p ch, (s.comp v).pulse = some p ∧ p.state = .running ch

/-- The pulse of `v` qualifies as a victim of candidate `c`: RUNNING for at least 4 s, at a larger margin (R61). -/
def State.Victim (s : State) (c v : Nat) : Prop :=
  v < s.count ∧ s.margin c < s.margin v ∧ ∃ p ch, (s.comp v).pulse = some p ∧ p.state = .running ch ∧ 4000 ≤ p.run

/-- Candidate `c` preempts no pulse even where one of its kind may be (R61). -/
def State.PreemptsNone (s : State) (c : Nat) : Prop :=
  s.urgent c = false ∨ (∃ t, Channel.rest t ∈ s.psc.channels) ∨ ∀ v, ¬s.Victim c v

/-- Candidate `c` preempts the pulse of `v`: `c` is urgent, no channel rests, and `v` is the victim to be taken (R61). -/
def State.Preempts (s : State) (c v : Nat) : Prop :=
  s.urgent c = true ∧ (∀ t, Channel.rest t ∉ s.psc.channels) ∧ s.LargestOf (s.Victim c) v

/-- Nothing heats `c`, and it has no entry in the due queue. -/
def State.Unheated (s : State) (c : Nat) : Prop :=
  s.runningPulse c = none ∧ s.connected c = false ∧ s.due c = false

/-! ## Condemnation and the ends of holds (R7 to R17) -/

/-- Entry to CONDEMNED (R15): the hold's records and channel dropped (`SuspendedPulse`), the reason set, GONE(CONDEMNED) queued
when a tag is held, CONDEMNED(c, reason) sent. -/
def State.condemnedFor (c : Nat) (reason : CondemnReason) (s : State) : State :=
  let dropped := s.dropHold c
  let entered : State :=
    { dropped with comps := dropped.comps.modify c fun r =>
        { r with state := .condemned, condemn := some reason, prior := none } }
  let told := match (s.comp c).meal with
    | some m => entered.queueNote (.gone m.tag c .condemned)
    | none => entered
  told.notifyKitchen (.condemned c reason)

/-- The compartment becomes FREE: the hold's records dropped and every optional field removed (R7, R8, R11, R13). -/
def State.freed (c : Nat) (s : State) : State :=
  let dropped := s.dropHold c
  { dropped with comps := dropped.comps.modify c fun _ => CompRec.free }

/-- The first verdict of the hold re-check that applies, none for HOLDING (R9). -/
def State.Verdict (s : State) (c : Nat) (v : Option CondemnReason) : Prop :=
  ∃ m h e, (s.comp c).meal = some m ∧ (s.comp c).holdStart = some h ∧ (s.comp c).est = some e
    ∧ v = if m.limit * 1000 ≤ s.now - h then some .expired
          else if e.temp < (s.cls m.cls).floor then some .cold
          else if (s.comp c).condemn = some .forced then some .forced
          else none

/-- `v` is `s` after the Compartment Table's change at the end of a hold of `c` of kind `k` (R7, R8, R11, R13, R17). -/
def HoldOutcome (s : State) (c : Nat) (k : HoldEnd) (v : State) : Prop :=
  let r := s.comp c
  let set (f : CompRec → CompRec) (u : State) : State := { u with comps := u.comps.modify c f }
  let recheck (w : Nat → Nat) : Prop :=
    ∃ x, s.Verdict c x ∧ v = match x with
      | some reason => s.condemnedFor c reason
      | none => set (fun q => { q with state := .holding, prior := none, wrongCount := w q.wrongCount }) s
  match r.state, k with
  | .loading, .settled true =>
    ∃ m, r.meal = some m
      ∧ ((r.condemn ≠ some .forced ∧ v = State.queueNote (.stowed m.tag c m.cls)
            (State.setEst c (some (Estimate.start (s.cls m.cls) r.probe s.now m.limit))
              (set (fun q => { q with state := .holding, holdStart := some s.now, probe := none }) s)))
        ∨ (r.condemn = some .forced
            ∧ v = State.condemnedFor c .forced (set (fun q => { q with holdStart := some s.now, probe := none }) s)))
  | .loading, .settled false => v = s.freed c
  | .loading, .lapse => v = (s.freed c).notifyKitchen (.loadLapsed c)
  | .loading, .released => v = s.freed c
  | .collecting, .settled false => ∃ m, r.meal = some m ∧ v = (s.queueNote (.gone m.tag c .collected)).freed c
  | .collecting, _ => recheck fun _ => 0
  | .attending, .settled false =>
    ∃ w, ((r.prior = some .holding ∧ ∃ m, r.meal = some m ∧ w = s.queueNote (.gone m.tag c .removed))
          ∨ (r.prior ≠ some .holding ∧ w = s))
      ∧ v = { w.freed c with readings := (w.freed c).readings.modify c fun q =>
                { q with invalid := 0, cold := 0, weak := 0, pending := false, reference := none } }
  | .attending, k' =>
    (r.prior = some .holding ∧ recheck id)
    ∨ (r.prior = some .condemned ∧ v = set (fun q => { q with state := .condemned, prior := none }) s)
    ∨ (r.prior = some .faulted
        ∧ v = set (fun q => { q with state := .faulted, prior := none,
                                     mealPresent := if k' = .settled true then some true else q.mealPresent }) s)
  | .faulted, .settled p => v = set (fun q => { q with mealPresent := some p }) s
  | .faulted, _ => v = s
  | _, _ => False

/-- `s` with the hold of a side of `c` ended: the side LATCHED with its latch engaged, the holder NONE (R122 step 1). -/
def State.holdOver (c : Nat) (sd : Side) (s : State) : State :=
  let latched (r : SideRec) : SideRec :=
    { r with state := .latched, latchReleased := false, windowEnd := none, ajarAt := none, settleEnd := none }
  { s with doors := s.doors.modify c fun d =>
      match sd with
      | .kitchen => { d with kitchen := latched d.kitchen, holder := none }
      | .counter => { d with counter := latched d.counter, holder := none } }

/-- `s` with one side of `c` changed. -/
def State.withSide (c : Nat) (sd : Side) (f : SideRec → SideRec) (s : State) : State :=
  { s with doors := s.doors.modify c fun d =>
      match sd with
      | .kitchen => { d with kitchen := f d.kitchen }
      | .counter => { d with counter := f d.counter } }

/-- A side as its door opens at `now` (R118, R120, R127): OPEN, ajar 120 s or 60 s on, the latch driver as it was. -/
def SideRec.openedAt (sd : Side) (now : Time) (r : SideRec) : SideRec :=
  { r with state := .opened, windowEnd := none, settleEnd := none, ajarNoticed := false,
           ajarAt := some (now + match sd with
             | .kitchen => 120000
             | .counter => 60000) }

/-- The door of a side of `c` has shown the opposite of its debounced value, `shown`, in three samples (R114). -/
def State.DoorDue (s : State) (c : Nat) (sd : Side) (shown : Bool) : Prop :=
  s.running = true ∧ s.doorChangeDue c sd = true ∧ s.doorValue c sd = shown

/-! ## Frames sent (R174) -/

/-- The fields of a frame lie within the ranges its bytes and R94 allow. -/
def FrameInRange (report : DrawReport) : Frame → Prop
  | .claim amount margin sequence => amount < 65536 ∧ margin < 65536 ∧ sequence < 256
  | .draw => report.draw < 65536 ∧ report.power < 256 ∧ (∀ m, report.margin = some m → m < 65535) ∧ report.due < 256
      ∧ report.holding < 256
  | .gone tag comp _ => 1 ≤ tag ∧ tag ≤ 999999 ∧ comp < 32
  | .stowed tag comp cls => 1 ≤ tag ∧ tag ≤ 999999 ∧ comp < 32 ∧ cls ≤ 3
  | .query tag => 1 ≤ tag ∧ tag ≤ 999999
  | .hello _ p => p.wc < 65536 ∧ p.wr < 65536 ∧ p.wg < 65536 ∧ p.n < 256 ∧ 8 ≤ p.count ∧ p.count ≤ 32

/-! ## Laws -/

/-- The law of the Court Directory (R104): at most 256 entries, no two of one tag, none of this station. During a cold
start it is empty. -/
def State.DirectoryLaw (s : State) : Prop :=
  s.cdir.entries.length ≤ 256 ∧ (s.cdir.entries.map DirEntry.tag).Nodup
    ∧ (∀ e ∈ s.cdir.entries, e.station ≠ s.cfg.address) ∧ (s.sul.phase = .coldStart → s.cdir.entries = [])

/-- The fields of a door side that R113 gives each state, and the states in which its latch may be released (R115). -/
def SideRec.Law (r : SideRec) : Prop :=
  (r.windowEnd.isSome ↔ r.state = .released) ∧ (r.ajarAt.isSome ↔ r.state = .opened)
    ∧ (r.settleEnd.isSome ↔ r.state = .settling) ∧ (r.state = .released → r.latchReleased = true)
    ∧ (r.latchReleased = true → r.state = .released ∨ r.state = .opened)

/-- The law of a door record: a side whose latch is released, that waits to be opened or that settles is the holder's,
and the holder's side is not LATCHED (R113, R117). -/
def DoorRec.Law (d : DoorRec) : Prop :=
  d.kitchen.Law ∧ d.counter.Law
    ∧ ∀ sd : Side,
      ((d.side sd).latchReleased = true ∨ (d.side sd).state = .released ∨ (d.side sd).state = .settling →
        d.holder = some sd)
        ∧ (d.holder = some sd → (d.side sd).state ≠ .latched)

/-- The interlock (R117): every door record keeps its law, and each side holds at most 4 compartments. -/
def State.InterlockLaw (s : State) : Prop :=
  (∀ d ∈ s.doors, d.Law) ∧ ∀ sd : Side, s.sideCount sd ≤ 4

/-- No two compartment records carry one tag (R5). -/
def State.TagLaw (s : State) : Prop := (s.comps.filterMap fun r => r.meal.map Meal.tag).Nodup

/-- The bounds of the counts and queues: notices (R146, R158), failed attempts (R90), receive errors (R94), the claim
sequence (R74); and the four channels (R40). -/
def State.BoundsLaw (s : State) : Prop :=
  s.kp.notices.length ≤ 16 ∧ s.cp.notices.length ≤ 8 ∧ s.lif.failed ≤ 16 ∧ s.lif.rxErrors ≤ 65535
    ∧ s.dsu.sequence < 256 ∧ s.psc.channels.length = 4

/-- The law of the transmit queue (R92, R74): one CLAIM at most, in the queue or under attempt and not dropped, and none
unless the claim record is QUEUED; one DRAW at most; ten frames of kinds 2 to 5 at most with the buffer's. -/
def State.QueueLaw (s : State) : Prop :=
  s.lif.queue.countP (fun q => q.frame.isClaim)
      + (if s.lif.buffer.any fun b => b.frame.isClaim && !b.doomed then 1 else 0)
    ≤ (match s.dsu.claim with
      | .queued _ _ _ => 1
      | .noClaim | .window _ _ _ _ _ => 0)
    ∧ s.lif.queue.countP (fun q => q.frame = .draw) ≤ 1 ∧ s.lif.noteCount ≤ 10

/-- Every block that keeps a record per compartment keeps one for each (R1, R113, R133). -/
def State.ShapeLaw (s : State) : Prop := s.doors.length = s.comps.length ∧ s.readings.length = s.comps.length

/-- The heater law (R43): a channel drives only a compartment in HOLDING with both sides LATCHED, whose pulse is RUNNING
on that channel, and a RUNNING pulse is on the channel it names. During a cold start no channel is ON. -/
def State.HeaterLaw (s : State) : Prop :=
  (∀ ch c, s.psc.channels[ch]? = some (.on c) →
      c < s.comps.length ∧ (s.comp c).state = .holding ∧ (s.door c).bothLatched = true
        ∧ (s.comp c).pulse.map Pulse.state = some (.running ch))
    ∧ (∀ ch c, (s.comp c).pulse.map Pulse.state = some (.running ch) → s.psc.channels[ch]? = some (.on c))
    ∧ (s.sul.phase = .coldStart → ∀ ch ∈ s.psc.channels, ch = .idle)

/-- The class flags are those of the classes of the record in use (R23). -/
def State.ClassLaw (s : State) : Prop := s.sul.classOn = s.cfg.classes.map ClassRec.enabled

/-- What a compartment record keeps of its hold (R1, R9, R24, R38): an estimate and a hold start exactly under hold, at or
below the ceiling and, in HOLDING, at or above the floor; a LOADING meal is of an enabled class and was not too cool. -/
def CompRec.HoldLaw (s : State) (r : CompRec) : Prop :=
  (r.est.isSome = r.underHold)
    ∧ (r.pulse.isSome → r.est.isSome)
    ∧ (r.est.isSome → r.meal.isSome ∧ r.holdStart.isSome)
    ∧ (∀ e, r.est = some e →
        e.temp ≤ (s.mealClass r).ceiling ∧ (r.state = .holding → (s.mealClass r).floor ≤ e.temp))
    ∧ (∀ m, r.meal = some m → (s.cls m.cls).enabled = true ∧ s.classEnabled m.cls = true)
    ∧ (r.state = .loading → r.meal.isSome ∧ ∀ p, r.probe = some p → (s.mealClass r).floor ≤ p)

/-- The holding window's part that no wait can break (R9, R38): every record keeps its law. -/
def State.HoldLaw (s : State) : Prop :=
  s.ClassLaw ∧ (∀ r ∈ s.comps, r.HoldLaw s) ∧ (s.sul.phase = .coldStart → s.comps = [])

/-- The draw law (R82): D never exceeds W_avail; in ISOLATED and MISMATCHED it never exceeds Wi, in JOINING never F; an own
claim is for one element's draw and outstanding in COURT only (R74, R80), and no peer has the own address (R65). -/
def State.DrawLaw (s : State) : Prop :=
  s.draw ≤ s.wAvail
    ∧ (s.lif.mode = some .isolated ∨ s.lif.mode = some .mismatchedParameters ∨ s.lif.mode = some .mismatchedClash →
        s.draw ≤ s.cfg.isolated)
    ∧ (s.lif.mode = some .joining → s.draw ≤ s.share)
    ∧ (match s.dsu.claim with
      | .noClaim => True
      | .queued amount _ _ => amount = s.cfg.power ∧ s.lif.mode = some .court
      | .window amount _ _ _ _ => amount = s.cfg.power ∧ s.lif.mode = some .court)
    ∧ (∀ p ∈ s.peers, p.address ≠ s.cfg.address)
    ∧ (s.sul.phase = .coldStart → s.dsu.claim = .noClaim)

end Sys2Proof.Machine
end

