-- ==== Sys2Proof/Certificates/Slice0/Obligations.lean ====
section
/-! DEFINITION. The statements for the provers. Each docstring names the rules it formalises, and the log entry of
notes/assumptions where a clause rests on a choice of the model. `u.close` is the end of an event: the start attempts
its triggers call for, then the transmitters supplied (log 6, 7); what it does is stated in `EndOfEvent`
and `StartAttempt`. -/

open Sys2Proof Sys2Proof.Machine

/-! ## Steps, start-up -/

/-- A step with a command at the front of the queue is that command on the state with the queue's rest. -/
def Obligations.StepRunsFrontCommand : Prop :=
  ∀ (s : State) (c : Instr) (rest : List Instr), s.pending = c :: rest → step s = exec c { s with pending := rest }

/-- The model's choice (log 1, 3, 32): on an empty queue the byte that has arrived at a port is taken, the kitchen's first
(`ReceiversAndTransmitters`); when none has, the event that is due runs; when none is, 10 ms pass, in which each RUNNING
pulse's run-so-far and its estimate's uncredited on-time grow alike (R33, R46) and nothing else changes. -/
def Obligations.EmptyQueueTakesDueEventOrTicks : Prop :=
  ∀ s : State, s.pending = [] →
    let waits (l : List RxByte) : Prop := ∀ x xs, l = x :: xs → s.now < x.arrives
    (∀ x xs, s.rx.kitchen = x :: xs → x.arrives ≤ s.now → step s = s.takeByte .kitchen x.byte)
    ∧ (∀ x xs, waits s.rx.kitchen → s.rx.counter = x :: xs → x.arrives ≤ s.now → step s = s.takeByte .counter x.byte)
    ∧ (∀ e, waits s.rx.kitchen → waits s.rx.counter → s.nextDue = some e → step s = exec e s)
    ∧ (waits s.rx.kitchen → waits s.rx.counter → s.nextDue = none → ∃ t, step s = .next t ∧ t = { s with now := s.now + 10, comps := t.comps }
        ∧ t.comps.length = s.comps.length
        ∧ ∀ c,
          (∀ p ch, s.running = true → (s.comp c).pulse = some p → p.state = .running ch →
            t.comp c = { s.comp c with
              pulse := some { p with run := p.run + 10 },
              est := (s.comp c).est.map fun e => { e with uncredited := e.uncredited + 10 } })
          ∧ ((s.running = false ∨ ∀ p ch, (s.comp c).pulse = some p → p.state ≠ .running ch) →
            t.comp c = s.comp c))

/-- Every command answers a next state; none stops the part, moves its clock or touches the queue of waiting
commands or what the panels have yet to send. -/
def Obligations.EveryCommandAnswersNext : Prop :=
  ∀ (i : Instr) (s : State), ∃ t, exec i s = .next t ∧ t.now = s.now ∧ t.pending = s.pending ∧ t.rx = s.rx

/-- R165 with each chapter's cold-start values: reset, COLD_START and RESET_ASSERTED. The clock, the queue of waiting
commands and the panels' lines go on through a cold start, what RESET_ASSERTED interrupts is dropped by the cold start that follows,
and the rejoin flag starts Cleared (the model's choices, log 4, 5, 35). That no compartment, door or reading record, no peer
entry and no class flag stands before the configuration is read, and the ambient and the scan's start and slot until then, are
the model's choice (log 27); so is that the first input sample is due at the moment of the cold start (log 31). -/
def Obligations.ResetAndColdStart : Prop :=
  (State.reset.sul = { phase := .coldStart, config := none, classOn := [], service := none }
    ∧ State.reset.comps = [] ∧ State.reset.doors = [] ∧ State.reset.readings = [] ∧ State.reset.peers = []
    ∧ State.reset.psc.channels = [.idle, .idle, .idle, .idle] ∧ State.reset.psc.lastActivation = none
    ∧ State.reset.draw = 0 ∧ State.reset.dueQueue = []
    ∧ State.reset.dsu = { claim := .noClaim, sequence := 0, lostUntil := none, overrunUntil := none }
    ∧ State.reset.lif.mode = none ∧ State.reset.lif.queue = [] ∧ State.reset.lif.buffer = none
    ∧ State.reset.lif.failed = 0 ∧ State.reset.lif.rxErrors = 0 ∧ State.reset.lif.enable = false
    ∧ State.reset.lif.noteLost = false ∧ State.reset.lif.peerMismatch = false ∧ State.reset.ssu.ambientHeld = false
    ∧ State.reset.cdir = { entries := [], lookup := none }
    ∧ State.reset.kp = { receiver := .empty, replies := [], busyReply := none, tx := none, notices := [],
                         noticeLost := false }
    ∧ State.reset.cp = { receiver := .empty, replies := [], busyReply := none, tx := none, notices := [] })
  ∧ (∀ s : State, exec .coldStart s
      = .next { State.reset with
          now := s.now, rx := s.rx, pending := s.pending, inputs := { recs := [], next := s.now } })
  ∧ (∀ s : State, ∃ t, exec .resetAsserted s = .next t
      ∧ t = { s with sul := { s.sul with phase := .resetAsserted }, lif := { s.lif with enable := false } }
      ∧ (∀ l ∈ t.outputChain.latches, l = (false, false)) ∧ (∀ e ∈ t.outputChain.enables, e = false)
      ∧ (∀ c ∈ t.outputChain.selects, c = none))

/-- R167, with the failed reads of R166: a configuration that does not pass puts the station in CONFIG_FAULT with the
cause of the first failure, in the order memory or sum, structure, court, and changes nothing else. -/
def Obligations.ConfigFaultCause : Prop :=
  ∀ (s : State) (first second : ConfigRead), s.sul.phase = .coldStart →
    (ReadSilent first ∨ ReadBadSum first → ReadSilent second →
      exec (.configReadDone first second) s = .next { s with sul := { s.sul with phase := .configFault .memory } })
    ∧ (ReadSilent first ∨ ReadBadSum first → ReadBadSum second →
      exec (.configReadDone first second) s = .next { s with sul := { s.sul with phase := .configFault .sum } })
    ∧ (∀ bs, RecordRead first second bs → ¬(configOf bs).InRanges →
      exec (.configReadDone first second) s = .next { s with sul := { s.sul with phase := .configFault .structural } })
    ∧ (∀ bs, RecordRead first second bs → (configOf bs).InRanges → ¬(configOf bs).FitsCourt →
      exec (.configReadDone first second) s = .next { s with sul := { s.sul with phase := .configFault .court } })

/-- R176: the bytes each field is taken from, the sum over all 85 bytes, the flags byte's bit 0, nothing read beyond
byte 84, and class bytes out of range that disable their class and fail no structural check. -/
def Obligations.ConfigRecordLayout : Prop :=
  (∀ bs : List Byte, 85 ≤ bs.length →
    let b := fun i => (bs.getD i 0#8).toNat
    let w := fun i => 256 * b i + b (i + 1)
    configOf bs = { address := b 0, courtSize := b 1, count := b 2, reach := b 3, power := b 4, allowance := w 5,
                    reserve := w 7, guardW := w 9, isolated := w 11, ambient := w 13, startShut := b 15 % 2 = 1,
                    classes := [0, 1, 2, 3].map fun i =>
                      { load := w (16 + 17 * i), floor := w (18 + 17 * i), threshold := w (20 + 17 * i),
                        ceiling := w (22 + 17 * i), urgentBand := w (24 + 17 * i), cooling := b (26 + 17 * i),
                        gain := b (27 + 17 * i), pulseLen := b (28 + 17 * i), maxHold := w (29 + 17 * i),
                        duty := w (31 + 17 * i) } }
    ∧ configOf (bs.take 85) = configOf bs
    ∧ (readRecord (.data bs) = .ok (configOf bs) ↔ (bs.take 85).foldl (· + ·) 0#8 = 0#8))
  ∧ (∀ (r : ConfigRec) (ks : List ClassRec), ({ r with classes := ks } : ConfigRec).structureOk = r.structureOk)
  ∧ (∀ k : ClassRec,
      (1200 < k.load ∨ 1200 < k.floor ∨ 1200 < k.threshold ∨ 1000 < k.ceiling ∨ 1200 < k.urgentBand ∨ k.cooling = 0
        ∨ 255 < k.cooling ∨ k.gain = 0 ∨ 20 < k.gain ∨ k.pulseLen < 4 ∨ 90 < k.pulseLen ∨ k.maxHold < 60
        ∨ 14400 < k.maxHold ∨ k.duty = 0 ∨ 1000 < k.duty) → k.enabled = false)

/-- R23: a class is enabled exactly when every parameter lies within its range of R22 and the four relations hold. -/
def Obligations.ClassEnabled : Prop :=
  ∀ k : ClassRec,
    k.enabled = true ↔
      (k.load ≤ 1200 ∧ k.floor ≤ 1200 ∧ k.threshold ≤ 1200 ∧ k.ceiling ≤ 1000 ∧ k.urgentBand ≤ 1200
        ∧ (1 ≤ k.cooling ∧ k.cooling ≤ 255) ∧ (1 ≤ k.gain ∧ k.gain ≤ 20) ∧ (4 ≤ k.pulseLen ∧ k.pulseLen ≤ 90)
        ∧ (60 ≤ k.maxHold ∧ k.maxHold ≤ 14400) ∧ (1 ≤ k.duty ∧ k.duty ≤ 1000))
      ∧ (k.floor < k.threshold ∧ k.threshold < k.load ∧ k.load ≤ k.ceiling)
      ∧ k.threshold + 4 * k.gain ≤ k.ceiling
      ∧ k.urgentBand < k.threshold - k.floor

/-- R169 (R2, R96, R113, R131, R133, R134, R65, R170): the end of start-up. The doors found open are taken in index
order, kitchen side first (the model's choice, log 18). -/
def Obligations.EndOfStartUp : Prop :=
  ∀ (s : State) (first second : ConfigRead) (bs : List Byte) (r : ConfigRec),
    s.ColdStarting → RecordRead first second bs → r = configOf bs → r.InRanges → r.FitsCourt →
    ∃ t, exec (.configReadDone first second) s = .next t
      ∧ t.sul = { phase := .running, config := some r, classOn := r.classes.map ClassRec.enabled,
                  service := some (if r.startShut = false then .serving
                                   else if ∃ c < r.count, s.presence c = true then .windingDown else .shut) }
      ∧ t.comps = (List.range r.count).map (fun c =>
          if s.presence c then { CompRec.free with state := .condemned, condemn := some .restart } else CompRec.free)
      ∧ t.doors = (List.range r.count).map (fun c =>
          { kitchen := s.sideAtStart c .kitchen, counter := s.sideAtStart c .counter, holder := none,
            kitchenReq := none, counterReq := none })
      ∧ t.readings = List.replicate r.count .blank
      ∧ t.ssu = { slot := 1, start := s.now, ambient := r.ambient, ambientHeld := false }
      ∧ t.peers = ((List.range 32).filter fun a => a ≠ r.address).map PeerEntry.empty
      ∧ t.psc = s.psc ∧ t.dsu = s.dsu ∧ t.cdir = s.cdir ∧ t.inputs = s.inputs ∧ t.cp = s.cp
      ∧ (r.courtSize = 1 → t.lif = { s.lif with mode := some .court })
      ∧ (r.courtSize ≠ 1 →
          t.lif.queue.map Queued.frame
            = [.draw, .hello .fresh { wc := r.allowance, wr := r.reserve, wg := r.guardW, n := r.courtSize,
                                      count := r.count }]
          ∧ t.lif = { s.lif with mode := some .joining, drawAt := some (s.now + 1000),
                                 joiningAt := some (s.now + 2000), silenceAt := some (s.now + 2000),
                                 queue := t.lif.queue, stamp := t.lif.stamp })
      ∧ t.kp = KitchenPort.pump { s.kp with
          notices := ((s.openAtStart r.count).map fun x => KNotice.doorForced x.1 x.2).take 16,
          noticeLost := 16 < (s.openAtStart r.count).length }

/-! ## Panel ports -/

/-- R144, R145, R158, R168: where a port takes no request. Before the end of start-up a well-formed record is discarded, in
CONFIG_FAULT every one is answered FAULT with the cause; in service a record completed while its port is busy leaves one
waiting BUSY reply that names its kind, a further one is discarded. None changes anything else. The Kitchen Port is busy until
its BUSY reply too has been sent, the Counter Port until the reply of its request has been sent; CANCEL finds the latter busy
only when no lookup wait runs. The model's choices: FAULT names no compartment (log 13), FAULT replies wait in their order
behind what is being sent (log 19), and a record of unknown kind finds the Counter Port busy as a COLLECT does (log 37). -/
def Obligations.PortsThatTakeNoRequest : Prop :=
  (∀ (i : Instr) (k : Nat) (s : State), kitchenKind i = some k →
    (s.sul.phase = .coldStart → exec i s = .next { s with kp := { s.kp with receiver := .empty } })
    ∧ (∀ cause, s.sul.phase = .configFault cause →
        exec i s = .next (s.kitchenAnswered (.outcome .fault none (some cause.code)))))
  ∧ (∀ (i : Instr) (k : Nat) (s : State), counterKind i = some k →
    (s.sul.phase = .coldStart → exec i s = .next { s with cp := { s.cp with receiver := .empty } })
    ∧ (∀ cause, s.sul.phase = .configFault cause →
        exec i s = .next (s.counterAnswered .fault (some cause.code))))
  ∧ (∀ (i : Instr) (k : Nat) (s : State), kitchenKind i = some k → s.running = true → s.Quiet → s.kp.busy = true →
    exec i s = .next { s with
      kp := KitchenPort.pump { s.kp with receiver := .empty, busyReply := some (s.kp.busyReply.getD k) },
      cp := s.cp.pump s.cdir.lookup.isSome })
  ∧ (∀ (i : Instr) (k : Nat) (s : State), counterKind i = some k → s.running = true → s.Quiet →
    s.cp.replying = true ∨ (s.cdir.lookup.isSome = true ∧ k ≠ 2) → (k = 2 → s.cdir.lookup = none) →
    exec i s = .next { s with
      kp := s.kp.pump,
      cp := CounterPort.pump s.cdir.lookup.isSome
        { s.cp with receiver := .empty, busyReply := some (s.cp.busyReply.getD k) } })
  ∧ (∀ k : KitchenPort, k.busy = true ↔
      k.replies ≠ [] ∨ k.busyReply ≠ none ∨ ∃ j, k.tx = some j ∧ j.role ≠ .notice)
  ∧ (∀ p : CounterPort, p.replying = true ↔
      p.replies ≠ [] ∨ ∃ j, p.tx = some j ∧ j.role = .reply)

/-- R144, R146, R158, R175: a port's receiver and transmitter. A first byte from 3 to 16 begins a record, another is dropped
alone; each byte starts the gap of 50 ms anew, whose end discards what is gathered; the byte that completes a record runs
it at once, as a bad record where its sum is not 0; nothing is received while reset is asserted (`Gathers`). A record
that is discarded changes nothing else. A freed transmitter takes the reply of the request in progress, else a waiting BUSY
reply, else the oldest notice. The model's choices: a free transmitter takes its next record within the same event (log 7),
a BUSY reply of the port carries no compartment (log 17), bytes arrive on an empty queue only (log 3), and a gap row before
its moment changes nothing (log 2). -/
def Obligations.ReceiversAndTransmitters : Prop :=
  ∀ s : State,
    exec .kitchenBadRecord s = .next { s with kp := { s.kp with receiver := .empty } }
    ∧ exec .counterBadRecord s = .next { s with cp := { s.cp with receiver := .empty } }
    ∧ (∀ e, s.kp.receiver.gapEnd = some e →
      (e ≤ s.now → exec .kitchenGapExpiry s = .next { s with kp := { s.kp with receiver := .empty } })
      ∧ (s.now < e → exec .kitchenGapExpiry s = .next s))
    ∧ (∀ e, s.cp.receiver.gapEnd = some e →
      (e ≤ s.now → exec .counterGapExpiry s = .next { s with cp := { s.cp with receiver := .empty } })
      ∧ (s.now < e → exec .counterGapExpiry s = .next s))
    ∧ (∀ x xs, s.rx.kitchen = x :: xs →
      let u : State := { s with rx := { s.rx with kitchen := xs } }
      (s.sul.phase = .resetAsserted → s.takeByte .kitchen x.byte = .next u)
      ∧ (s.sul.phase ≠ .resetAsserted →
        Gathers s.now x.byte s.kp.receiver kitchenRow
          (fun r i => s.takeByte .kitchen x.byte = Arrives i { u with kp := { s.kp with receiver := r } })))
    ∧ (∀ x xs, s.rx.counter = x :: xs →
      let u : State := { s with rx := { s.rx with counter := xs } }
      (s.sul.phase = .resetAsserted → s.takeByte .counter x.byte = .next u)
      ∧ (s.sul.phase ≠ .resetAsserted →
        Gathers s.now x.byte s.cp.receiver counterRow
          (fun r i => s.takeByte .counter x.byte = Arrives i { u with cp := { s.cp with receiver := r } })))
    ∧ (s.sul.phase ≠ .resetAsserted →
      (∃ t, exec .kitchenTxDone s = .next t ∧ t = { s with kp := t.kp, cp := s.cp.pump s.cdir.lookup.isSome }
        ∧ (∀ r rs, s.kp.replies = r :: rs →
            t.kp = { s.kp with replies := rs, tx := some { role := .reply, bytes := r.bytes } })
        ∧ (∀ k, s.kp.replies = [] → s.kp.busyReply = some k →
            t.kp = { s.kp with busyReply := none,
                               tx := some { role := .busyReply,
                                            bytes := (KReply.outcome .busy none (some k)).bytes } })
        ∧ (∀ n ns, s.kp.replies = [] → s.kp.busyReply = none → s.kp.notices = n :: ns →
            t.kp = { s.kp with notices := ns, tx := some { role := .notice, bytes := n.bytes } })
        ∧ (s.kp.replies = [] → s.kp.busyReply = none → s.kp.notices = [] → t.kp = { s.kp with tx := none }))
      ∧ (∃ t, exec .counterTxDone s = .next t ∧ t = { s with kp := s.kp.pump, cp := t.cp }
        ∧ (∀ r rs, s.cp.replies = r :: rs →
            t.cp = { s.cp with replies := rs, tx := some { role := .reply, bytes := r.bytes } })
        ∧ (∀ k, s.cp.replies = [] → s.cp.busyReply = some k → s.cdir.lookup = none →
            t.cp = { s.cp with busyReply := none,
                               tx := some { role := .busyReply, bytes := (CReply.mk .busy (some k)).bytes } })
        ∧ (∀ n ns, s.cp.replies = [] → s.cp.busyReply = none ∨ s.cdir.lookup ≠ none → s.cp.notices = n :: ns →
            t.cp = { s.cp with notices := ns, tx := some { role := .notice, bytes := n.bytes } })
        ∧ (s.cp.replies = [] → s.cp.busyReply = none ∨ s.cdir.lookup ≠ none → s.cp.notices = [] →
            t.cp = { s.cp with tx := none })))

/-- R147, R175, R20, R158: the common checks in their order. A record that fails its form is refused with BAD_FIELD, a
compartment at or above the count with BAD_COMPARTMENT, and ATTEND, RELEASE and SERVICE of a FAULTED compartment with
FAULTED; a refused request changes nothing else. Whether BAD_FIELD to a record of wrong length names a compartment is
free (log 10). -/
def Obligations.CommonChecks : Prop :=
  (∀ (i : Instr) (k : Nat) (s : State), kitchenKind i = some k → s.takesKitchen → s.Quiet →
    (kitchenFormOk k i = false →
      exec i s = .next (s.kitchenAnswered (.outcome .badField (badFieldNames k i) none)))
    ∧ (∀ len c, kitchenFormOk k i = true → compartmentField i = some (len, c) →
        (s.count ≤ c → exec i s = .next (s.kitchenAnswered (.outcome .badCompartment (some c) none)))
        ∧ (c < s.count → (s.comp c).state = .faulted → k = 2 ∨ k = 3 ∨ k = 4 →
          exec i s = .next (s.kitchenAnswered (.outcome .faulted (some c) none)))))
  ∧ (∀ (s : State) (kind : Nat), s.takesKitchen → s.Quiet →
    exec (.kitchenUnknownKind kind) s = .next (s.kitchenAnswered (.outcome .badField none none)))
  ∧ (∀ (s : State), s.takesCounter → s.Quiet →
    (∀ len tag code, ¬(len = 8 ∧ 1 ≤ tag ∧ tag ≤ 999999 ∧ code ≤ 9999) →
      exec (.collect len tag code) s = .next (s.counterAnswered .badField none))
    ∧ (∀ len, len ≠ 3 → exec (.cancel len) s = .next (s.counterAnswered .badField none))
    ∧ (∀ kind, exec (.counterUnknownKind kind) s = .next (s.counterAnswered .badField none)))

/-! ## LOAD -/

/-- R3: the first check that fails decides the reply, and a refused LOAD changes nothing else. -/
def Obligations.LoadRefusedByFirstFailingCheck : Prop :=
  ∀ (s : State) (m : LineMode) (len tag code cls reach limit probe : Nat),
    s.takesKitchen → s.Quiet → s.lif.mode = some m →
    (∀ o, s.loadRefusal m len tag code cls reach limit probe = some o →
      exec (.load len tag code cls reach limit probe) s = .next (s.kitchenAnswered (.outcome o none none)))
    ∧ (s.loadRefusal m len tag code cls reach limit probe = none → s.allocate (reach = 1) = none →
      exec (.load len tag code cls reach limit probe) s = .next (s.kitchenAnswered (.outcome .noSpace none none)))

/-- R6: an accepted LOAD makes the allocated compartment LOADING with the fields of the request and wrong-code count 0,
seizes its kitchen side and is answered ACCEPTED(c); nothing goes to the Court Line and nothing else changes. -/
def Obligations.LoadAccepted : Prop :=
  ∀ (s : State) (m : LineMode) (len tag code cls reach limit probe c : Nat),
    s.takesKitchen → s.Quiet → s.lif.mode = some m →
    s.loadRefusal m len tag code cls reach limit probe = none → s.allocate (reach = 1) = some c →
    s.runningPulse c = none →
    exec (.load len tag code cls reach limit probe) s
      = .next (State.kitchenAnswered
          (State.withSeize c .kitchen { s with comps := s.comps.modify c fun r =>
              { r with
                state := .loading,
                meal := some { tag := tag, code := code, cls := cls,
                               limit := if limit = 0 then (s.cls cls).maxHold
                                        else min (s.cls cls).maxHold (max 60 limit) },
                probe := if probe = 65535 then none else some probe, wrongCount := 0, lockoutEnd := none } })
          (.outcome .accepted (some c) none))

/-- R4: the free set; the two scans of a reach LOAD; the two scans of an ordinary one and the span compartments it
leaves free; NO_SPACE. -/
def Obligations.Allocation : Prop :=
  (∀ (s : State) (c : Nat), s.inFreeSet c = true ↔
    (s.comp c).state = .free ∧ (s.door c).kitchen.state = .latched ∧ (s.door c).counter.state = .latched)
  ∧ (∀ (s : State) (c : Nat), s.cfg.reach ≤ s.count →
    (s.allocate true = some c ↔
      (c < s.cfg.reach ∧ s.inFreeSet c = true ∧ ∀ d, d < c → s.inFreeSet d = false)
      ∨ ((∀ d, d < s.cfg.reach → s.inFreeSet d = false) ∧ s.cfg.reach ≤ c ∧ c < s.count ∧ s.inFreeSet c = true
        ∧ ∀ d, s.cfg.reach ≤ d → d < c → s.inFreeSet d = false))
    ∧ (s.allocate false = some c ↔
      (s.cfg.reach ≤ c ∧ c < s.count ∧ s.inFreeSet c = true ∧ ∀ d, c < d → d < s.count → s.inFreeSet d = false)
      ∨ ((∀ d, s.cfg.reach ≤ d → d < s.count → s.inFreeSet d = false)
        ∧ 2 < (List.range s.cfg.reach).countP s.inFreeSet - 1
        ∧ c < s.cfg.reach ∧ s.inFreeSet c = true ∧ ∀ d, c < d → d < s.cfg.reach → s.inFreeSet d = false)))
  ∧ (∀ (s : State) (m : LineMode) (len tag code cls reach limit probe : Nat),
    s.takesKitchen → s.Quiet → s.lif.mode = some m → s.loadRefusal m len tag code cls reach limit probe = none →
    s.allocate (reach = 1) = none →
    exec (.load len tag code cls reach limit probe) s = .next (s.kitchenAnswered (.outcome .noSpace none none)))

/-- R84, R85: the counted compartments, the required share as one division rounded up, and the admission test by line
mode. -/
def Obligations.AdmissionTest : Prop :=
  ∀ (s : State) (cls : Nat),
    (∀ r : CompRec, r.counted = true ↔
      r.state = .loading ∨ r.state = .holding ∨ r.state = .collecting ∨ (r.state = .attending ∧ r.meal ≠ none))
    ∧ s.dutySum cls
      = (s.comps.map fun r => if r.counted then (s.mealClass r).duty else 0).sum + (s.cls cls).duty
    ∧ (∀ R, s.requiredShare cls = R ↔
      s.dutySum cls * s.cfg.power ≤ R * 1000 ∧ ∀ q, s.dutySum cls * s.cfg.power ≤ q * 1000 → R ≤ q)
    ∧ (s.lif.mode = some .court ∨ s.lif.mode = some .joining →
      s.admission cls = if s.requiredShare cls ≤ s.share then none else some .heatFull)
    ∧ (s.lif.mode = some .isolated →
      s.admission cls = if s.requiredShare cls ≤ s.cfg.isolated then none else some .heatFull)
    ∧ (s.lif.mode = some .mismatchedParameters ∨ s.lif.mode = some .mismatchedClash →
      s.admission cls = some .courtFault)
    ∧ (∀ tag reach probe o, s.admission cls = some o → s.sul.service = some .serving → s.classEnabled cls = true →
      s.findTag tag = none → (∀ p, probe = some p → (s.cls cls).floor ≤ p) → s.loadChecks tag cls reach probe = .error o)

/-! ## ATTEND, COMPARTMENT RESET, RELEASE, SERVICE -/

/-- R12: ATTEND of a HOLDING or CONDEMNED compartment and COMPARTMENT RESET of a FAULTED one that find room seize the
kitchen side and enter ATTENDING with the prior state; the record keeps the rest, and a RUNNING pulse is suspended
(`SuspendedPulse`). -/
def Obligations.AttendanceGranted : Prop :=
  ∀ (s : State) (c : Nat) (i : Instr) (p : Prior),
    s.takesKitchen → s.Quiet → c < s.count → s.roomFor c .kitchen → (s.door c).kitchenReq = none →
    (i = .attend 4 c ∧ (((s.comp c).state = .holding ∧ p = .holding) ∨ ((s.comp c).state = .condemned ∧ p = .condemned)))
      ∨ (i = .compartmentReset 4 c ∧ (s.comp c).state = .faulted ∧ p = .faulted) →
    exec i s = .next (State.close (State.replyKitchen (.outcome .accepted (some c) none) (State.clearKitchenPartial
      (State.suspend c (State.withSeize c .kitchen
        { s with comps := s.comps.modify c fun r => { r with state := .attending, prior := some p } })))))

/-- R12, R123, R116, R149: ATTEND and COMPARTMENT RESET that find a request stored (BUSY, whatever the state), that are
remembered (WAIT), that find no room (BUSY), or that the state does not allow (STATE), and what else each leaves unchanged.
The model's choices: the WAIT reply carries no compartment (log 17), and a remembered request takes the next serial number
(log 22). -/
def Obligations.AttendanceNotGranted : Prop :=
  ∀ (s : State) (c : Nat), s.takesKitchen → s.Quiet → c < s.count →
    let remembered (k : KitchenKind) : State :=
      { s with doors := s.doors.modify c (fun d =>
                 { d with kitchenReq := some { kind := k, remembered := s.now, lapse := s.now + 30000,
                                               serial := s.requestSerial } }),
               requestSerial := s.requestSerial + 1 }
    let refused (o : KOutcome) : State := s.kitchenAnswered (.outcome o (some c) none)
    (∀ i, (i = .attend 4 c ∧ (s.comp c).state ≠ .faulted) ∨ i = .compartmentReset 4 c → (s.door c).kitchenReq ≠ none →
      exec i s = .next (refused .busy))
    ∧ ((s.door c).kitchenReq = none →
    (∀ i k, (i = .attend 4 c ∧ k = KitchenKind.attend ∧ (s.comp c).state ≠ .faulted
            ∧ ((s.comp c).state = .collecting ∨ (s.door c).holder = some .counter))
        ∨ (i = .compartmentReset 4 c ∧ k = KitchenKind.reset ∧ (s.comp c).state = .faulted
            ∧ (s.door c).holder = some .counter) →
      exec i s = .next ((remembered k).kitchenAnswered (.outcome .wait none none)))
    ∧ (∀ i, (i = .attend 4 c ∧ ((s.comp c).state = .holding ∨ (s.comp c).state = .condemned))
        ∨ (i = .compartmentReset 4 c ∧ (s.comp c).state = .faulted) →
      (s.door c).holder = none → ¬s.roomFor c .kitchen → exec i s = .next (refused .busy))
    ∧ (∀ st, (s.comp c).state = st → st = .free ∨ st = .loading ∨ st = .attending ∨ st = .outOfService →
      (s.door c).holder ≠ some .counter → exec (.attend 4 c) s = .next (refused .state))
    ∧ ((s.comp c).state ≠ .faulted ∨ (s.door c).holder = some .kitchen →
      exec (.compartmentReset 4 c) s = .next (refused .state)))

/-- R19, R150: SERVICE(c, OUT) and SERVICE(c, IN) of a compartment in the state each asks for, and STATE otherwise.
R20 refuses a FAULTED compartment first (`CommonChecks`). -/
def Obligations.ServiceRequests : Prop :=
  ∀ (s : State) (c : Nat), s.takesKitchen → s.Quiet → c < s.count → (s.comp c).state ≠ .faulted →
    (∀ dir, dir ≤ 1 → exec (.serviceOut 5 c dir) s = .next
      (if (s.comp c).state = .free then
        State.kitchenAnswered { s with comps := s.comps.modify c fun r => { r with state := .outOfService } }
          (.outcome .accepted (some c) none)
      else s.kitchenAnswered (.outcome .state (some c) none)))
    ∧ (∀ dir, dir ≤ 1 → exec (.serviceIn 5 c dir) s = .next
      (if (s.comp c).state = .outOfService then
        State.kitchenAnswered { s with comps := s.comps.modify c fun r => { r with state := .free } }
          (.outcome .accepted (some c) none)
      else s.kitchenAnswered (.outcome .state (some c) none)))

/-! ## Bank requests, status, lookup -/

/-- R171, R151: the service mode after BANK CLOSE and BANK OPEN, a DRAW queued exactly when it changes, and MODE with the
mode that results; nothing else changes. -/
def Obligations.BankCloseAndOpen : Prop :=
  ∀ (s : State) (m : ServiceMode), s.takesKitchen → s.Quiet → s.sul.service = some m →
    let after (m' : ServiceMode) : State :=
      State.kitchenAnswered { s with sul := { s.sul with service := some m' },
                                     lif := if m' = m then s.lif else s.queueDraw.lif }
        (.outcome .mode none (some m'.code))
    exec (.bankClose 3) s = .next (after
        (if m = .serving then (if 0 < s.occupiedCount then .windingDown else .shut) else m))
    ∧ exec (.bankOpen 3) s = .next (after .serving)
    ∧ s.occupiedCount = s.comps.countP (fun r =>
        match r.state with
        | .loading | .holding | .collecting | .attending | .condemned => true
        | .faulted => r.mealPresent = some true
        | .free | .outOfService => false)

/-- R152: CLEAR FAULTS clears the four sticky flags and the receive error count, is answered CLEARED, and leaves
everything else unchanged. -/
def Obligations.ClearFaultsClearsStickyFlags : Prop :=
  ∀ s : State, s.takesKitchen → s.Quiet →
    exec (.clearFaults 3) s = .next (State.kitchenAnswered
      { s with lif := { s.lif with noteLost := false, peerMismatch := false, rxErrors := 0 },
               ssu := { s.ssu with ambientHeld := false },
               kp := { s.kp with noticeLost := false } }
      (.outcome .cleared none none))

/-- R153, R26, R46: STATUS(c) is answered with the contents of the compartment, in every state, and changes nothing. The
hold remaining of a hold that never started outside LOADING is free (log 14); a lockout shows at least 1 s (log 30). -/
def Obligations.StatusOfCompartment : Prop :=
  ∀ (s : State) (c : Nat), s.takesKitchen → s.Quiet → c < s.count →
    let r := s.comp c
    let d := s.door c
    exec (.statusCompartment 4 c) s = .next (s.kitchenAnswered (.comp
      { state := r.state, prior := r.prior, tag := r.meal.map Meal.tag, cls := r.meal.map Meal.cls,
        limit := r.meal.map Meal.limit,
        remaining :=
          match r.meal, r.holdStart with
          | none, _ => 0
          | some m, some h => (m.limit * 1000 - (s.now - h)) / 1000
          | some m, none => if r.state = .loading then m.limit else Config.unstartedRemaining m.limit,
        estimate := r.est.map Estimate.temp, margin := r.est.map Estimate.margin,
        due := (r.est.map Estimate.due).getD false, urgent := (r.est.map Estimate.urgent).getD false,
        condemn := r.condemn,
        pendingForced := r.condemn = some .forced
          && (r.state = .loading || r.state = .collecting || (r.state = .attending && r.prior = some .holding)),
        fault := r.fault, mealPresent := r.mealPresent, holder := d.holder, kitchenSide := d.kitchen.state,
        counterSide := d.counter.state, kitchenReq := d.kitchenReq.isSome, counterReq := d.counterReq.isSome,
        pulse :=
          match r.pulse with
          | none => .noPulse
          | some { state := .running ch, planned := l, run := n, start := _ } => .running ch l n
          | some { state := .suspended, planned := l, run := n, start := _ } => .suspended (l - n),
        wrongCount := r.wrongCount,
        lockoutSeconds :=
          match r.lockoutEnd with
          | none => 0
          | some e => max 1 ((e - s.now + 999) / 1000) }))

/-- R154: STATUS(station) is answered with the station's figures as they stand, and changes nothing. -/
def Obligations.StatusOfStation : Prop :=
  ∀ s : State, s.takesKitchen → s.Quiet →
    let live := s.peers.filter PeerEntry.live
    ∃ low : Option Nat,
      (∀ v, low = some v ↔ (∃ e ∈ live, e.margin = some v) ∧ ∀ e ∈ live, ∀ x, e.margin = some x → v ≤ x)
      ∧ exec (.statusStation 4) s = .next (s.kitchenAnswered (.station
        { line := s.lif.mode, service := s.sul.service,
          draw := s.psc.channels.countP Channel.isOn * s.cfg.power,
          share := (s.cfg.allowance - s.cfg.reserve - s.cfg.guardW) / s.cfg.courtSize,
          headroom := ((s.cfg.allowance - s.cfg.reserve - s.cfg.guardW : Nat) : Int)
            - (s.psc.channels.countP Channel.isOn * s.cfg.power + (live.map fun e => e.draw.getD 0).sum : Nat),
          livePeers := live.length, peerDue := (live.map fun e => e.due.getD 0).sum,
          peerHolding := (live.map fun e => e.holding.getD 0).sum, peerMargin := low,
          due := s.dueQueue.length, holding := s.comps.countP CompRec.underHold,
          occupied := s.comps.countP CompRec.occupied, noteLost := s.lif.noteLost,
          peerMismatch := s.lif.peerMismatch, ambientHeld := s.ssu.ambientHeld, noticeLost := s.kp.noticeLost,
          rxErrors := s.lif.rxErrors }))

/-- R155: WHERE answers the own part and the directory part, each present or absent, and changes nothing; a tag outside
1 to 999999 is refused with BAD_FIELD. -/
def Obligations.WhereReply : Prop :=
  ∀ (s : State) (tag : Nat), s.takesKitchen → s.Quiet →
    (tag = 0 ∨ 999999 < tag →
      exec (.whereTag 6 tag) s = .next (s.kitchenAnswered (.outcome .badField none none)))
    ∧ (1 ≤ tag → tag ≤ 999999 →
    ∃ own dir, exec (.whereTag 6 tag) s = .next (s.kitchenAnswered (.whereIs own dir))
      ∧ (own = none ↔ ∀ r ∈ s.comps, r.meal.map Meal.tag ≠ some tag)
      ∧ (∀ o, own = some o → o.comp < s.count ∧ (s.comp o.comp).meal.map Meal.tag = some tag
          ∧ o.state = (s.comp o.comp).state)
      ∧ (dir = none ↔ ∀ e ∈ s.cdir.entries, e.tag ≠ tag)
      ∧ (∀ d, dir = some d → ∃ e ∈ s.cdir.entries, e.tag = tag ∧ d.station = e.station ∧ d.comp = e.comp
          ∧ d.cls = e.cls ∧ d.seconds = (s.now - e.heard) / 1000))

/-! ## Counter Port -/

/-- R159, R160, R1: a COLLECT whose tag a record holds is answered by that record's state, then by its lockout and by its
pickup code; the replies that give no access change nothing but the wrong-code count and the lockout. R5 gives at most one
such record. Whole seconds left of a lockout are rounded up and at least 1 (log 30). -/
def Obligations.CollectAnsweredByRecordAndCode : Prop :=
  (∀ (s : State) (tag code c : Nat), s.takesCounter → s.Quiet → 1 ≤ tag → tag ≤ 999999 → code ≤ 9999 →
    c < s.count → (s.comp c).meal.map Meal.tag = some tag →
    (∀ d, d < s.count → d ≠ c → (s.comp d).meal.map Meal.tag ≠ some tag) →
    ((s.comp c).state = .loading → exec (.collect 8 tag code) s = .next (s.counterAnswered .notReady none))
    ∧ ((s.comp c).state = .condemned ∨ (s.comp c).state = .faulted
        ∨ ((s.comp c).state = .attending ∧ ((s.comp c).prior = some .condemned ∨ (s.comp c).prior = some .faulted)) →
      exec (.collect 8 tag code) s = .next (s.counterAnswered .seeStaff none))
    ∧ ((s.comp c).state = .collecting → exec (.collect 8 tag code) s = .next (s.counterAnswered .busy none))
    ∧ ((s.comp c).state = .holding ∨ ((s.comp c).state = .attending ∧ (s.comp c).prior = some .holding) →
      (s.door c).counterReq ≠ none → exec (.collect 8 tag code) s = .next (s.counterAnswered .busy none)))
  ∧ (∀ (s : State) (tag code c : Nat) (m : Meal), s.takesCounter → s.Quiet → 1 ≤ tag → tag ≤ 999999 → code ≤ 9999 →
    c < s.count → (s.comp c).meal = some m → m.tag = tag →
    (∀ d, d < s.count → d ≠ c → (s.comp d).meal.map Meal.tag ≠ some tag) →
    (s.comp c).state = .holding ∨ ((s.comp c).state = .attending ∧ (s.comp c).prior = some .holding) →
    (s.door c).counterReq = none →
    (∀ e, (s.comp c).lockoutEnd = some e →
      exec (.collect 8 tag code) s = .next (s.counterAnswered .lockedOut (some (max 1 ((e - s.now + 999) / 1000)))))
    ∧ ((s.comp c).lockoutEnd = none → code ≠ m.code → (s.comp c).wrongCount < 2 →
      exec (.collect 8 tag code) s = .next
        (State.counterAnswered
          { s with comps := s.comps.modify c fun r => { r with wrongCount := r.wrongCount + 1 } }
          .wrongCode (some (3 - ((s.comp c).wrongCount + 1)))))
    ∧ ((s.comp c).lockoutEnd = none → code ≠ m.code → 2 ≤ (s.comp c).wrongCount →
      exec (.collect 8 tag code) s = .next
        (State.counterAnswered
          { s with comps := s.comps.modify c fun r =>
              { r with wrongCount := 0, lockoutEnd := some (s.now + 60000) } }
          .wrongCode (some 0))))
  ∧ (∀ (s : State) (c e : Nat), s.running = true → (s.comp c).lockoutEnd = some e → e ≤ s.now →
    exec (.lockoutEnd c) s = .next { s with comps := s.comps.modify c fun r => { r with lockoutEnd := none } })

/-- R161, R10, R116, R123: a COLLECT with the right code zeroes the wrong-code count; with room it becomes COLLECTING with
the counter side seized and a RUNNING pulse suspended (`SuspendedPulse`); for want of room it is refused with BUSY; while
the kitchen attends it is remembered, with the next serial number (the model's choice, log 22). -/
def Obligations.RightCode : Prop :=
  ∀ (s : State) (tag code c : Nat) (m : Meal), s.takesCounter → s.Quiet → 1 ≤ tag → tag ≤ 999999 → code ≤ 9999 →
    c < s.count → (s.comp c).meal = some m → m.tag = tag → m.code = code →
    (∀ d, d < s.count → d ≠ c → (s.comp d).meal.map Meal.tag ≠ some tag) →
    (s.door c).counterReq = none → (s.comp c).lockoutEnd = none →
    ((s.comp c).state = .holding → s.roomFor c .counter →
      exec (.collect 8 tag code) s = .next (State.close (State.replyCounter .opened (some c) (State.clearCounterPartial
        (State.suspend c (State.withSeize c .counter
          { s with comps := s.comps.modify c fun r => { r with state := .collecting, wrongCount := 0 } }))))))
    ∧ ((s.comp c).state = .holding → (s.door c).holder = none → ¬s.roomFor c .counter →
      exec (.collect 8 tag code) s = .next
        (State.counterAnswered { s with comps := s.comps.modify c fun r => { r with wrongCount := 0 } } .busy none))
    ∧ ((s.comp c).state = .attending → (s.comp c).prior = some .holding → (s.door c).holder = some .kitchen →
      exec (.collect 8 tag code) s = .next
        (State.counterAnswered
          { s with comps := s.comps.modify c fun r => { r with wrongCount := 0 },
                   doors := s.doors.modify c fun d =>
                     { d with counterReq := some { tag := tag, remembered := s.now, lapse := s.now + 30000,
                                                   serial := s.requestSerial } },
                   requestSerial := s.requestSerial + 1 } .wait none))

/-- R110, R111: the counter lookup of a tag no own record holds, and the wait end that answers UNKNOWN. -/
def Obligations.CounterLookup : Prop :=
  (∀ (s : State) (tag code : Nat), s.takesCounter → s.Quiet → 1 ≤ tag → tag ≤ 999999 → code ≤ 9999 →
    (∀ r ∈ s.comps, r.meal.map Meal.tag ≠ some tag) →
    (∀ e, s.cdir.entries.find? (fun e => e.tag = tag) = some e →
      exec (.collect 8 tag code) s = .next (s.counterAnswered .elsewhere (some e.station)))
    ∧ ((∀ e ∈ s.cdir.entries, e.tag ≠ tag) → s.takesFrames = true →
      exec (.collect 8 tag code) s = .next
        { s with lif := (s.queueNote (.query tag)).lif,
                 cdir := { s.cdir with lookup := some { tag := tag, waitEnd := s.now + 500 } },
                 kp := s.kp.pump, cp := CounterPort.pump true { s.cp with receiver := .empty } })
    ∧ ((∀ e ∈ s.cdir.entries, e.tag ≠ tag) → s.takesFrames = false →
      exec (.collect 8 tag code) s = .next (s.counterAnswered .unknown none)))
  ∧ (∀ (s : State) (l : Lookup), s.running = true → s.Quiet → s.cdir.lookup = some l → l.waitEnd ≤ s.now →
    exec .lookupWaitEnd s = .next
      { s with cdir := { s.cdir with lookup := none }, kp := s.kp.pump,
               cp := CounterPort.pump false { s.cp with replies := s.cp.replies ++ [{ outcome := .unknown, arg := none }] } })

/-- R162: CANCEL ends a lookup wait, else withdraws the counter request remembered last, else answers NOTHING_PENDING.
The model's choices: requests remembered in one clock step are told apart by a serial number (log 22), and a CANCEL ends a
lookup wait also while a BUSY reply, or the BAD_FIELD reply to an earlier malformed CANCEL, waits or is being sent (log 36). -/
def Obligations.Cancel : Prop :=
  ∀ s : State, s.running = true → s.Quiet →
    (∀ l, s.cdir.lookup = some l →
      exec (.cancel 3) s = .next (State.counterAnswered { s with cdir := { s.cdir with lookup := none } } .cancelled none))
    ∧ (∀ c q, s.cdir.lookup = none → s.cp.replying = false → (s.door c).counterReq = some q →
      (∀ d q', d ≠ c → (s.door d).counterReq = some q' → q'.serial < q.serial) →
      exec (.cancel 3) s = .next
        (State.counterAnswered { s with doors := s.doors.modify c fun d => { d with counterReq := none } }
          .cancelled (some c)))
    ∧ (s.cdir.lookup = none → s.cp.replying = false → (∀ d, (s.door d).counterReq = none) →
      exec (.cancel 3) s = .next (s.counterAnswered .nothingPending none))

/-! ## Court Line -/

/-- R92: a frame takes its place in the queue by kind code, then age, behind no frame it comes before; a frame of kinds 2
to 5 is taken while fewer than ten are held in the queue and the buffer together, else dropped with NOTE_LOST; and a queue
that takes no frames leaves everything as it is. A frame's age is a serial number that each queueing raises (the model's
choice, log 22). -/
def Obligations.TransmitQueue : Prop :=
  (∀ (q : Queued) (l : List Queued),
    (insertQueued q l).Perm (q :: l)
    ∧ (l.Pairwise (fun a b => a.frame.kind < b.frame.kind ∨ (a.frame.kind = b.frame.kind ∧ a.age ≤ b.age)) →
      (insertQueued q l).Pairwise
        (fun a b => a.frame.kind < b.frame.kind ∨ (a.frame.kind = b.frame.kind ∧ a.age ≤ b.age))))
  ∧ (∀ (s : State) (f : Frame),
    (s.takesFrames = true ↔
      s.running = true ∧ s.cfg.courtSize ≠ 1 ∧ ∃ m, s.lif.mode = some m ∧ m ≠ .mismatchedClash)
    ∧ (s.takesFrames = false → s.queueNote f = s ∧ s.queueDraw = s)
    ∧ (s.takesFrames = true → s.lif.noteCount < 10 →
      s.queueNote f = { s with lif := { s.lif with
        queue := insertQueued { frame := f, age := s.lif.stamp } s.lif.queue, stamp := s.lif.stamp + 1 } })
    ∧ (s.takesFrames = true → 10 ≤ s.lif.noteCount → s.queueNote f = { s with lif := { s.lif with noteLost := true } })
    ∧ (s.takesFrames = true →
      s.queueDraw = { s with lif := { s.lif with
        queue := insertQueued { frame := .draw, age := s.lif.stamp } (s.lif.queue.filter fun q => q.frame != .draw),
        stamp := s.lif.stamp + 1 } }))

/-- R89, R93, R90: an attempt moves the head frame to the buffer and sends it, a DRAW filled from the state at that
moment; a lost attempt puts it back at its place by kind and age, a replaced DRAW and a dropped frame excepted, and leaves
the failed-attempt count. That the transceiver enable stays asserted after it is the model's choice (log 15). -/
def Obligations.AttemptStartedAndLost : Prop :=
  (∀ (s : State) (q : Queued) (qs : List Queued), s.running = true → s.cfg.courtSize ≠ 1 → s.lif.mode ≠ none →
    s.lif.buffer = none → s.lif.silenced = false → s.lif.queue = q :: qs →
    exec .attemptStart s = .next { s with lif := { s.lif with
      queue := qs, enable := true,
      buffer := some { frame := q.frame, age := q.age, doomed := false,
                       bytes := q.frame.bytes s.cfg.address
                         { service := s.sul.service.getD .serving, line := (s.lif.mode.getD .joining).peerLine,
                           draw := s.psc.channels.countP Channel.isOn * s.cfg.power, power := s.cfg.power,
                           margin := s.dueQueue.head?.map s.margin, due := s.dueQueue.length,
                           holding := s.comps.countP CompRec.underHold } } } })
  ∧ (∀ (s : State) (b : Buffered), s.running = true → s.cfg.courtSize ≠ 1 → s.lif.buffer = some b →
    exec .attemptLost s = .next { s with lif := { s.lif with
      buffer := none,
      queue := if b.doomed = true ∨ (b.frame = .draw ∧ ∃ q ∈ s.lif.queue, q.frame = .draw) then s.lif.queue
               else insertQueued { frame := b.frame, age := b.age } s.lif.queue } })

/-- R90, R97, R99, R82, R80: a failed attempt raises the count, held at 16; in JOINING or COURT the sixteenth enters
ISOLATED, as does the silence timer's expiry: count 0, rejoin flag Cleared, both timers stopped, any own claim dropped, a
DRAW queued, D at or below Wi, and LINE_MODE(ISOLATED) sent. The frames of kinds 2 to 5 stay queued as they were, and the
failed one of those kinds takes its place among them by kind and age. That the transceiver enable stays asserted after a
failed attempt (first clause) is the model's choice (log 15). -/
def Obligations.IsolationByFailuresAndSilence : Prop :=
  (∀ (s : State) (b : Buffered), s.running = true → s.cfg.courtSize ≠ 1 → s.lif.buffer = some b → s.Quiet →
    (s.lif.failed + 1 < 16 ∨ (s.lif.mode ≠ some .joining ∧ s.lif.mode ≠ some .court) →
      exec .attemptFailed s = .next { s with
        lif := { s.lif with
          buffer := none, failed := min 16 (s.lif.failed + 1),
          queue := if b.doomed = true ∨ (b.frame = .draw ∧ ∃ q ∈ s.lif.queue, q.frame = .draw) then s.lif.queue
                   else insertQueued { frame := b.frame, age := b.age } s.lif.queue },
        kp := s.kp.pump, cp := s.cp.pump s.cdir.lookup.isSome })
    ∧ (16 ≤ s.lif.failed + 1 → s.lif.mode = some .joining ∨ s.lif.mode = some .court → s.HeaterLaw →
      ∃ t, exec .attemptFailed s = .next t ∧ t.lif.buffer = none ∧ s.Isolated t
        ∧ t.lif.notes = if b.doomed = true ∨ b.frame.kind < 2 then s.lif.notes
                        else insertQueued { frame := b.frame, age := b.age } s.lif.notes))
  ∧ (∀ s : State, s.running = true → s.cfg.courtSize ≠ 1 → s.Quiet → s.HeaterLaw →
    s.lif.mode = some .joining ∨ s.lif.mode = some .court → (∃ e, s.lif.silenceAt = some e ∧ e ≤ s.now) →
    ∃ t, exec .silenceTimerExpiry s = .next t ∧ s.Isolated t ∧ t.lif.notes = s.lif.notes
      ∧ t.lif.buffer.map (fun b => (b.frame, b.age, b.bytes)) = s.lif.buffer.map (fun b => (b.frame, b.age, b.bytes)))

/-- R90, R75, R98, R101: a completed attempt sets the failed-attempt count to 0 and empties the buffer. A CLAIM opens the
claim window of a QUEUED claim; in ISOLATED with the rejoin flag Set JOINING is entered; the final DRAW of
MISMATCHED(CLASH) deasserts the transceiver enable for good. The model's choices: a frame marked for discard is reported to
no block (log 16), and the transceiver enable stays asserted after any other completed attempt (log 15). -/
def Obligations.AttemptCompleted : Prop :=
  ∀ (s : State) (b : Buffered), s.running = true → s.cfg.courtSize ≠ 1 → s.lif.buffer = some b → s.Quiet →
    let done : State := { s with lif := { s.lif with failed := 0, buffer := none },
                                 kp := s.kp.pump, cp := s.cp.pump s.cdir.lookup.isSome }
    ((s.lif.mode ≠ some .isolated ∨ s.lif.rejoin = false) →
      (∀ amount margin sequence, b.frame = .claim amount margin sequence → b.doomed = false →
        (∀ a m n, s.dsu.claim = .queued a m n →
          exec .attemptCompleted s = .next { done with dsu := { s.dsu with
            claim := .window a m n (s.now / 10 * 10) (s.now / 10 * 10 + 250) } })
        ∧ ((∀ a m n, s.dsu.claim ≠ .queued a m n) → exec .attemptCompleted s = .next done))
      ∧ (b.frame = .draw → b.doomed = false → s.lif.mode = some .mismatchedClash →
        exec .attemptCompleted s = .next { done with lif := { s.lif with
          failed := 0, buffer := none, enable := false, silenced := true } })
      ∧ (b.doomed = true ∨ (b.frame = .draw ∧ s.lif.mode ≠ some .mismatchedClash) ∨ 2 ≤ b.frame.kind →
        exec .attemptCompleted s = .next done))
    ∧ (s.lif.mode = some .isolated → s.lif.rejoin = true → s.HeaterLaw →
      ∃ t, exec .attemptCompleted s = .next t ∧ t.lif.mode = some .joining ∧ t.lif.failed = 0 ∧ t.lif.buffer = none
        ∧ t.lif.silenceAt = some (s.now + 2000) ∧ t.lif.joiningAt = some (s.now + 2000)
        ∧ (∃ q ∈ t.lif.queue, q.frame = .draw) ∧ t.draw ≤ t.share
        ∧ t.kp = (s.notifyKitchen (.lineMode .joining)).pump.kp
        ∧ t.lif.queue.filter (fun q => q.frame.isNote) = s.lif.notes ∧ t.sul = s.sul ∧ t.doors = s.doors
        ∧ t.comps.map CompRec.table = s.comps.map CompRec.table ∧ t.peers = s.peers ∧ t.cdir = s.cdir)

/-- R93, R96, R99: the DRAW timer queues a DRAW and keeps its period; the JOINING timer turns JOINING into COURT with a
DRAW and LINE_MODE(COURT). -/
def Obligations.LineTimers : Prop :=
  (∀ (s : State) (e : Time), s.running = true → s.lif.drawAt = some e → e ≤ s.now →
    exec .drawTimerExpiry s
      = .next (State.queueDraw { s with lif := { s.lif with drawAt := some (e + 1000) } }))
  ∧ (∀ (s : State) (e : Time), s.running = true → s.lif.joiningAt = some e → e ≤ s.now → s.lif.mode = some .joining →
    exec .joiningTimerExpiry s
      = .next (State.close (State.notifyKitchen (.lineMode .court) (State.queueDraw (State.wake
          { s with lif := { s.lif with mode := some .court, joiningAt := none } })))))

/-- R94, R91, R174, R88, R96: a frame discarded at framing or check raises the receive error count, held at 65535; one
discarded at its content, and a frame of kind 6 or 7, has passed the check, restarts a running silence timer and Sets the
rejoin flag; nothing else changes. With N = 1, and outside service, no frame is read. That a frame row whose content is out
of range acts as a frame discarded at its content is the model's choice (log 24). -/
def Obligations.DiscardedAndIgnoredFrames : Prop :=
  ∀ s : State, s.running = true → s.cfg.courtSize ≠ 1 → s.Quiet →
    let heard : Lif := { s.lif with silenceAt := s.lif.silenceAt.map (fun _ => s.now + 2000), rejoin := true }
    (∀ l, l = .framing ∨ l = .crc →
      exec (.frameDiscarded l) s = .next { s with lif := { s.lif with rxErrors := min 65535 (s.lif.rxErrors + 1) } })
    ∧ exec (.frameDiscarded .content) s = .next { s with lif := { heard with rxErrors := min 65535 (s.lif.rxErrors + 1) } }
    ∧ (∀ sender, sender ≠ s.cfg.address → exec (.unknownKindFrame sender) s = .next
        { s with lif := heard, kp := s.kp.pump, cp := s.cp.pump s.cdir.lookup.isSome })
    ∧ (∀ i sender, frameSender i = some sender → sender ≠ s.cfg.address → frameContentOk i = false →
        exec i s = .next { s with lif := { heard with rxErrors := min 65535 (s.lif.rxErrors + 1) },
                                  kp := s.kp.pump, cp := s.cp.pump s.cdir.lookup.isSome })
    ∧ (∀ (u : State) i sender, frameSender i = some sender → u.running = false ∨ u.cfg.courtSize = 1 →
        exec i u = .next u)

/-- R101, R99, R80, R82: a well-formed frame with the own address that is not the own completed frame enters
MISMATCHED(CLASH): the queue holds the final DRAW only, a frame under attempt is marked for discard, the three timers
stop, any own claim is dropped, and LINE_MODE is sent. In MISMATCHED(CLASH) it changes nothing. A frame of
any kind with the own address, the kinds 6 and 7 among them, is such a frame; that the row of such a frame acts as the row of
the clash is the model's choice (log 24). -/
def Obligations.AddressClash : Prop :=
  ∀ s : State, s.running = true → s.cfg.courtSize ≠ 1 → s.Quiet →
    (s.lif.mode = some .mismatchedClash → exec .ownAddressFrame s = .next
      { s with kp := s.kp.pump, cp := s.cp.pump s.cdir.lookup.isSome })
    ∧ (s.lif.mode ≠ some .mismatchedClash → s.HeaterLaw →
      ∃ t, exec .ownAddressFrame s = .next t ∧ t.lif.mode = some .mismatchedClash
        ∧ t.lif.queue.map Queued.frame = [.draw]
        ∧ t.lif.buffer = s.lif.buffer.map (fun b => { b with doomed := true })
        ∧ t.lif.drawAt = none ∧ t.lif.silenceAt = none ∧ t.lif.joiningAt = none ∧ t.lif.noteLost = s.lif.noteLost
        ∧ t.dsu.claim = .noClaim ∧ t.draw ≤ t.cfg.isolated
        ∧ t.kp = (s.notifyKitchen (.lineMode .mismatchedClash)).pump.kp
        ∧ t.sul = s.sul ∧ t.doors = s.doors ∧ t.comps.map CompRec.table = s.comps.map CompRec.table
        ∧ t.peers = s.peers ∧ t.cdir = s.cdir)
    ∧ (∀ i, frameSender i = some s.cfg.address ∨ i = .unknownKindFrame s.cfg.address →
      exec i s = exec .ownAddressFrame s)

/-! ## Peers and the Court Directory -/

/-- R66, R65, R174, R69: a DRAW from a peer updates its entry, which is live from then on and holds no claim; a lapsed entry
keeps its fields and leaves S. When S falls, a LOST backoff ends and the scheduler is told; the overrun test is made
(`OverrunFallBack`). -/
def Obligations.DrawHeardAndEntryLapsed : Prop :=
  (∀ (s : State) (sender service line draw power margin due holding : Nat),
    s.running = true → s.cfg.courtSize ≠ 1 → sender ≠ s.cfg.address → service ≤ 2 → line ≤ 3 →
    let v : State := { s.heard with peers := s.peers.map fun e =>
      if e.address = sender then
        { e with service := serviceOf service, line := peerLineOf line, draw := some (min s.wAvail draw),
                 power := some (min 100 (max 10 power)),
                 margin := if margin = 65535 then none else some (min 1200 margin),
                 due := some (min 32 due), holding := some (min 32 holding), heard := some s.now, live := true,
                 claim := none }
      else e }
    exec (.drawFrame sender service line draw power margin due holding) s
      = .next (State.close (State.overrunTest (v.afterFallFrom s.peerDraw))))
  ∧ (∀ (s : State) (addr : Nat) (h : Time), s.running = true → (s.peer addr).live = true → (s.peer addr).heard = some h →
      h + 3000 ≤ s.now →
      let v : State := { s with peers := s.peers.map fun e => if e.address = addr then { e with live := false } else e }
      exec (.entryLapse addr) s = .next (State.close (State.overrunTest (v.afterFallFrom s.peerDraw))))
  ∧ serviceOf 0 = some .serving ∧ serviceOf 1 = some .windingDown ∧ serviceOf 2 = some .shut
  ∧ peerLineOf 0 = some .joining ∧ peerLineOf 1 = some .court ∧ peerLineOf 2 = some .isolated
  ∧ peerLineOf 3 = some .mismatched
  ∧ (∀ s : State, s.peerDraw = ((s.peers.filter PeerEntry.live).map fun e => e.draw.getD 0).sum)

/-- R68, R65, R76: a CLAIM from a peer is stored as its latest claim, the amount held at the entry's element power and at
W_avail, unless it repeats the claim held, or the entry stands in ISOLATED, MISMATCHED or SHUT; it does not make the entry
live. The margin is held at 1200, the top of the claim record's range (the model's choice, log 20). -/
def Obligations.ClaimHeard : Prop :=
  ∀ (s : State) (sender amount margin sequence : Nat), s.running = true → s.cfg.courtSize ≠ 1 → s.Quiet →
    sender ≠ s.cfg.address →
    exec (.claimFrame sender amount margin sequence) s = .next
      { s.heard with
        peers := s.peers.map fun e =>
          if e.address = sender then
            if (∃ c, e.claim = some c ∧ c.sequence = sequence) ∨ e.line = some .isolated ∨ e.line = some .mismatched
              ∨ e.service = some .shut then e
            else { e with claim := some { amount := min s.wAvail (min amount (e.power.getD amount)),
                                          margin := min 1200 margin, sequence := sequence,
                                          heard := s.now / 10 * 10 } }
          else e,
        kp := s.kp.pump, cp := s.cp.pump s.cdir.lookup.isSome }

/-- R100, R67, R108, R101: a HELLO(fresh) is answered under the terms of the queue, resets the sender's entry and removes
its directory entries; a HELLO(answer) makes the entry live with what it last reported. Parameters that agree change
nothing more; in COURT and ISOLATED a difference Sets PEER_MISMATCH with its notice; in JOINING it enters
MISMATCHED(PARAMETERS). -/
def Obligations.HelloHeard : Prop :=
  ∀ (s : State) (sender wc wr wg n count : Nat) (i : Instr) (v : State),
    s.running = true → s.cfg.courtSize ≠ 1 → s.Quiet → sender ≠ s.cfg.address → 8 ≤ count → count ≤ 32 →
    let answered : State :=
      if s.lif.queue.any (fun q => q.frame.isHello) || s.lif.buffer.any (fun b => b.frame.isHello) then s.heard
      else s.heard.queueNote (.hello .answer
        { wc := s.cfg.allowance, wr := s.cfg.reserve, wg := s.cfg.guardW, n := s.cfg.courtSize, count := s.cfg.count })
    (i = .helloFresh sender wc wr wg n count
        ∧ v = { answered with
                peers := s.peers.map fun e =>
                  if e.address = sender then { PeerEntry.empty sender with heard := some s.now, live := true } else e,
                cdir := { s.cdir with entries := s.cdir.entries.filter fun x => x.station ≠ sender } })
      ∨ (i = .helloAnswer sender wc wr wg n count
        ∧ v = { s.heard with peers := s.peers.map fun e =>
                  if e.address = sender then { e with heard := some s.now, live := true } else e }) →
    let w := State.overrunTest (v.afterFallFrom s.peerDraw)
    let agrees : Prop := wc = s.cfg.allowance ∧ wr = s.cfg.reserve ∧ wg = s.cfg.guardW ∧ n = s.cfg.courtSize
    (agrees ∨ s.lif.mode = some .mismatchedParameters ∨ s.lif.mode = some .mismatchedClash →
      exec i s = .next w.close)
    ∧ (¬agrees → s.lif.mode = some .court ∨ s.lif.mode = some .isolated →
      exec i s = .next (State.close (State.notifyKitchen .peerMismatch
        { w with lif := { w.lif with peerMismatch := true } })))
    ∧ (¬agrees → s.lif.mode = some .joining → s.HeaterLaw →
      ∃ t, exec i s = .next t ∧ t.lif.mode = some .mismatchedParameters ∧ t.lif.silenceAt = none
        ∧ t.lif.joiningAt = none ∧ t.lif.drawAt = s.lif.drawAt ∧ t.dsu.claim = .noClaim
        ∧ (∃ q ∈ t.lif.queue, q.frame = .draw) ∧ t.draw ≤ t.cfg.isolated
        ∧ t.kp = (s.notifyKitchen (.lineMode .mismatchedParameters)).pump.kp ∧ t.peers = v.peers ∧ t.cdir = v.cdir)

/-- R105, R106, R107, R111: a STOWED makes the newest directory entry, in place of one of its tag or, in a full directory,
of the oldest; TAG_ELSEWHERE is sent when an own record holds the tag. A GONE removes the sender's entry for its tag. A
lookup that waits for the tag ends with its reply. Nothing else changes. -/
def Obligations.StowedAndGoneHeard : Prop :=
  ∀ (s : State) (sender tag comp : Nat), s.running = true → s.cfg.courtSize ≠ 1 → s.Quiet → sender ≠ s.cfg.address →
    1 ≤ tag → tag ≤ 999999 → comp < 32 →
    let ended (o : COutcome) (arg : Option Nat) (u : State) : State :=
      if s.cdir.lookup.any fun l => l.tag = tag then
        { u with cdir := { u.cdir with lookup := none },
                 cp := { u.cp with replies := u.cp.replies ++ [{ outcome := o, arg := arg }] } }
      else u
    (∀ cls, cls ≤ 3 →
      let kept := s.cdir.entries.filter fun x => x.tag ≠ tag
      let placed : State := { s.heard with cdir := { s.cdir with
        entries := (if kept.length < 256 then kept else kept.drop 1)
          ++ [{ tag := tag, station := sender, comp := comp, cls := cls, heard := s.now }] } }
      let told := if s.comps.any (fun r => r.meal.map Meal.tag = some tag) then
        placed.notifyKitchen (.tagElsewhere tag sender) else placed
      exec (.stowedFrame sender tag comp cls) s = .next (ended .elsewhere (some sender) told).pump)
    ∧ (∀ reason, reason ≤ 2 →
      exec (.goneFrame sender tag comp reason) s = .next
        (ended (if reason = 0 then .alreadyCollected else .seeStaff) none
          { s.heard with cdir := { s.cdir with
              entries := s.cdir.entries.filter fun x => !(x.tag = tag && x.station = sender) } }).pump)

/-- R109: the frame that answers a QUERY, by the state of the record that holds its tag; nothing else changes but for what
every frame of a peer does (R94). -/
def Obligations.QueryAnswered : Prop :=
  ∀ (s : State) (sender tag : Nat), s.running = true → s.cfg.courtSize ≠ 1 → s.Quiet → sender ≠ s.cfg.address →
    1 ≤ tag → tag ≤ 999999 →
    ((∀ r ∈ s.comps, r.meal.map Meal.tag ≠ some tag) →
      exec (.queryFrame sender tag) s = .next s.heard.pump)
    ∧ (∀ c m, c < s.count → (s.comp c).meal = some m → m.tag = tag →
      (∀ d, d < s.count → d ≠ c → (s.comp d).meal.map Meal.tag ≠ some tag) →
      ((s.comp c).state = .holding ∨ (s.comp c).state = .collecting
          ∨ ((s.comp c).state = .attending ∧ (s.comp c).prior = some .holding) →
        exec (.queryFrame sender tag) s = .next (s.heard.queueNote (.stowed tag c m.cls)).pump)
      ∧ ((s.comp c).state = .condemned ∨ (s.comp c).state = .faulted
          ∨ ((s.comp c).state = .attending ∧ ((s.comp c).prior = some .condemned ∨ (s.comp c).prior = some .faulted)) →
        exec (.queryFrame sender tag) s = .next (s.heard.queueNote (.gone tag c .condemned)).pump)
      ∧ ((s.comp c).state = .loading → exec (.queryFrame sender tag) s = .next s.heard.pump))

/-! ## Sharing the allowance -/

/-- R71, R72: the answer to a request for draw, by overrun hold, line mode and claim; only case 6 of R72 changes the state,
by making a claim with the candidate's margin (R75). -/
def Obligations.PermissionForDraw : Prop :=
  ∀ (s : State) (margin : Nat) (m : LineMode), s.lif.mode = some m →
    let apart : Prop := m = .isolated ∨ m = .mismatchedParameters ∨ m = .mismatchedClash
    let fitsF : Prop := s.draw + s.cfg.power ≤ s.share
    let fitsWi : Prop := s.draw + s.cfg.power ≤ s.cfg.isolated
    let soon (t : Time) : Prop := t ≤ s.now + 250
    let claimMade : State := State.queueClaim s.cfg.power margin s.dsu.sequence
      { s with dsu := { s.dsu with claim := .queued s.cfg.power margin s.dsu.sequence,
                                   sequence := if s.dsu.sequence = 255 then 0 else s.dsu.sequence + 1 } }
    (s.dsu.overrunUntil ≠ none → fitsF → (apart → fitsWi) → s.requestDraw margin = (.permitted, s))
    ∧ (s.dsu.overrunUntil ≠ none → ¬(fitsF ∧ (apart → fitsWi)) → s.requestDraw margin = (.refused, s))
    ∧ (s.dsu.overrunUntil = none →
      (apart → fitsWi ∧ (fitsF ∨ (s.cfg.power : Int) ≤ s.headroom) → s.requestDraw margin = (.permitted, s))
      ∧ (apart → ¬(fitsWi ∧ (fitsF ∨ (s.cfg.power : Int) ≤ s.headroom)) → s.requestDraw margin = (.refused, s))
      ∧ (m = .joining ∨ m = .court → fitsF → s.requestDraw margin = (.permitted, s))
      ∧ (m = .joining → ¬fitsF → s.requestDraw margin = (.refused, s))
      ∧ (m = .court → ¬fitsF →
        (s.cfg.courtSize = 1 → s.requestDraw margin = (.refused, s))
        ∧ (s.cfg.courtSize ≠ 1 → s.dsu.claim ≠ .noClaim → s.requestDraw margin = (.claiming, s))
        ∧ (s.cfg.courtSize ≠ 1 → s.dsu.claim = .noClaim →
          (s.dsu.lostUntil ≠ none → s.requestDraw margin = (.refused, s))
          ∧ (s.dsu.lostUntil = none →
            ((∀ t, s.channelMoment = some t → ¬soon t) → s.requestDraw margin = (.refused, s))
            ∧ (¬soon s.staggerMoment → s.requestDraw margin = (.refused, s))
            ∧ (∀ t, s.channelMoment = some t → soon t → soon s.staggerMoment → s.dsu.sequence < 256 →
              s.requestDraw margin = (.claiming, claimMade))))))

/-- R77, R76, R78, R79, R54, R61: at the window end the claims of the window, ordered by margin and then address, are walked against
H; the own claim is granted exactly when it fits behind the granted amounts ahead of it. A lost claim starts a LOST
backoff of 1.0 s; a granted one leaves none, and an activation is made on it or, unused, a DRAW is queued, after the
preemption that an urgent candidate without an IDLE channel makes. -/
def Obligations.ClaimDecidedAtWindowEnd : Prop :=
  (∀ (h : Int) (own sum : Nat) (l : List SetClaim),
    (walk h own sum [] = false)
    ∧ (∀ c, walk h own sum (c :: l) =
        if ((sum + c.amount : Nat) : Int) ≤ h then (c.address = own || walk h own (sum + c.amount) l)
        else (c.address ≠ own && walk h own sum l)))
  ∧ (∀ (s : State) (own x : SetClaim) (f e : Time), own.address = s.cfg.address →
    (∀ p ∈ s.peers, p.address ≠ s.cfg.address) → (s.peers.map PeerEntry.address).Nodup →
    (x ∈ s.claimSet own f e ↔ x = own ∨ ∃ p ∈ s.peers, ∃ c, p.claim = some c ∧ f ≤ c.heard + 250 ∧ c.heard ≤ e
      ∧ x = { address := p.address, amount := c.amount, margin := c.margin })
    ∧ (s.claimSet own f e).Pairwise
        (fun a b => a.margin < b.margin ∨ (a.margin = b.margin ∧ a.address < b.address)))
  ∧ (∀ (s : State) (amount margin sequence : Nat) (f e : Time), s.running = true →
    s.dsu.claim = .window amount margin sequence f e → e ≤ s.now →
    let granted := walk s.headroom s.cfg.address 0
      (s.claimSet { address := s.cfg.address, amount := amount, margin := margin } f e)
    (granted = false → exec .claimWindowEnd s = .next (State.close (State.wake
      { s with dsu := { s.dsu with claim := .noClaim, lostUntil := some (s.now + 1000) } })))
    ∧ (granted = true →
      let u : State := { s with dsu := { s.dsu with claim := .noClaim } }
      (s.firstEligible = none → exec .claimWindowEnd s = .next u.queueDraw.close)
      ∧ (∀ c ch, s.firstEligible = some c → s.idleChannel = some ch → s.staggerEnded = true →
        exec .claimWindowEnd s = .next (u.activate c ch).close)
      ∧ (∀ c, s.firstEligible = some c → s.idleChannel = none ∨ s.staggerEnded = false →
        (s.idleChannel ≠ none ∨ s.PreemptsNone c → exec .claimWindowEnd s = .next u.queueDraw.close)
        ∧ (∀ v, s.idleChannel = none → s.Preempts c v →
          exec .claimWindowEnd s = .next (u.suspend v).queueDraw.close))))

/-- R81, R58, R80: the overrun test and its fall-back: claim dropped, pulses suspended until D is at or below F, an OVERRUN
hold of 1.0 s in place of a LOST backoff; a reduction order to any limit reaches it, suspending the RUNNING pulse of largest
margin, among equal margins the one of highest index, and so on, and none once D is at or below it; and the ends of the OVERRUN hold and of a
LOST backoff, each of which tells the scheduler that its answer may have changed (R79). -/
def Obligations.OverrunFallBack : Prop :=
  (∀ (s : State) (e : Time), s.running = true → s.dsu.lostUntil = some e → e ≤ s.now →
    exec .lostBackoffEnd s = .next (State.close (State.wake { s with dsu := { s.dsu with lostUntil := none } })))
  ∧ (∀ (s : State) (e : Time), s.running = true → s.dsu.overrunUntil = some e → e ≤ s.now →
    exec .overrunHoldEnd s = .next (State.close (State.wake { s with dsu := { s.dsu with overrunUntil := none } })))
  ∧ ∀ s : State, s.HeaterLaw →
    (¬(s.wAvail < s.draw + s.peerDraw ∧ s.share < s.draw) → s.overrunTest = s)
    ∧ (s.wAvail < s.draw + s.peerDraw ∧ s.share < s.draw →
      s.overrunTest.draw ≤ s.share ∧ s.overrunTest.dsu.claim = .noClaim ∧ s.overrunTest.dsu.lostUntil = none
        ∧ s.overrunTest.dsu.overrunUntil = some (s.now + 1000) ∧ s.overrunTest.lif.mode = s.lif.mode
        ∧ s.overrunTest.peers = s.peers ∧ s.overrunTest.comps.map CompRec.table = s.comps.map CompRec.table
        ∧ s.overrunTest.doors = s.doors)
    ∧ (∀ limit, (s.reduceTo limit).draw ≤ limit ∧ (s.draw ≤ limit → s.reduceTo limit = s)
        ∧ (∀ v, limit < s.draw → s.LargestOf s.Runs v → s.reduceTo limit = (s.suspend v).reduceTo limit)
        ∧ (s.reduceTo limit).HeaterLaw ∧ (s.reduceTo limit).doors = s.doors
        ∧ (s.reduceTo limit).comps.map CompRec.table = s.comps.map CompRec.table)

/-! ## The hold estimate -/

/-- R25, R29, R30, R32, R33, R35, R53: the estimate's arithmetic: the starting estimate, the credit of whole seconds, the
drop for cooling, the marking, the planned length of a pulse and the length of a resumed one. -/
def Obligations.EstimateArithmetic : Prop :=
  (∀ (k : ClassRec) (probe : Option Nat) (now : Time) (limit : Nat),
    Estimate.start k probe now limit = Estimate.mark k
      { temp := match probe with
          | none => k.load
          | some p => if k.ceiling < p then k.ceiling else p,
        steps := 0, uncredited := 0, margin := 0, due := false, urgent := false, decayAt := now + 10000,
        limitAt := some (now + limit * 1000) })
  ∧ (∀ (k : ClassRec) (e : Estimate),
    e.credit k = { e with
      temp := if e.uncredited / 1000 = 0 then e.temp else min k.ceiling (e.temp + k.gain * (e.uncredited / 1000)),
      uncredited := e.uncredited - 1000 * (e.uncredited / 1000) }
    ∧ (e.credit k).uncredited < 1000)
  ∧ (∀ (k : ClassRec) (a temp : Nat),
    (temp ≤ a → coolingDrop k a temp = 0)
    ∧ (a < temp → coolingDrop k a temp
        = if (temp - a) * k.cooling / 1024 = 0 then 1 else (temp - a) * k.cooling / 1024)
    ∧ (k.cooling ≤ 255 → coolingDrop k a temp ≤ (temp - a) / 4 ∨ coolingDrop k a temp = 1)
    ∧ (k.cooling ≤ 255 → a ≤ temp → a ≤ temp - coolingDrop k a temp))
  ∧ (∀ (k : ClassRec) (a : Nat) (e : Estimate),
    e.cool k a = { e.credit k with temp := (e.credit k).temp - coolingDrop k a (e.credit k).temp }
    ∧ (e.cool k a).margin = e.margin)
  ∧ (∀ (k : ClassRec) (e : Estimate),
    (e.mark k).margin = (if k.floor ≤ e.temp then e.temp - k.floor else 0)
    ∧ ((e.mark k).due = true ↔ e.temp ≤ k.threshold)
    ∧ ((e.mark k).urgent = true ↔ e.temp ≤ k.threshold ∧ (e.mark k).margin ≤ k.urgentBand)
    ∧ e.mark k = { e with margin := (e.mark k).margin, due := (e.mark k).due, urgent := (e.mark k).urgent })
  ∧ (∀ (k : ClassRec) (temp : Nat),
    k.plannedLength temp = min k.pulseLen (min 90 ((k.ceiling - temp) / k.gain))
    ∧ (k.enabled = true → temp ≤ k.threshold →
        4 ≤ k.plannedLength temp ∧ k.plannedLength temp ≤ 90 ∧ temp + k.gain * k.plannedLength temp ≤ k.ceiling)
    ∧ runLength k temp none = 1000 * k.plannedLength temp
    ∧ (∀ p : Pulse, runLength k temp (some p) = max 4000 (min (p.planned - p.run) (1000 * k.plannedLength temp))))

/-- R28, R31, R36, R27, R42, R51, R55: the timed events of holds and pulses. A decay step credits, drops by the ambient in
use, checks, marks and moves its timer on by 10 s; a HOLDING meal below its floor is condemned COLD, one at its limit
EXPIRED; in other states neither is reported. A pulse end credits and marks, and the channel rests. -/
def Obligations.TimedHeating : Prop :=
  (∀ (s : State) (c : Nat) (e : Estimate), s.running = true → (s.comp c).est = some e →
    (e.decayAt ≤ s.now →
      let k := s.mealClass (s.comp c)
      let e1 := e.cool k s.ssu.ambient
      let e2 : Estimate := { e1.mark k with steps := e.steps + 1, decayAt := e.decayAt + 10000 }
      let v : State := { s with comps := s.comps.modify c fun r => { r with est := some e2 } }
      ((s.comp c).state = .holding → e1.temp < k.floor →
        exec (.decayStep c) s = .next (State.close (s.condemnedFor c .cold)))
      ∧ ((s.comp c).state ≠ .holding ∨ k.floor ≤ e1.temp →
        (e2.due = e.due ∧ (e.due = true → e2.margin = e.margin) → exec (.decayStep c) s = .next v.close)
        ∧ (¬(e2.due = e.due ∧ (e.due = true → e2.margin = e.margin)) →
          exec (.decayStep c) s = .next v.wake.close)))
    ∧ (∀ h, e.limitAt = some h → h ≤ s.now →
      let v : State := { s with comps := s.comps.modify c fun r => { r with est := some { e with limitAt := none } } }
      ((s.comp c).state = .holding → exec (.holdLimitExpiry c) s = .next (State.close (v.condemnedFor c .expired)))
      ∧ ((s.comp c).state ≠ .holding → exec (.holdLimitExpiry c) s = .next v.close)))
  ∧ (∀ (s : State) (c ch : Nat) (p : Pulse) (e : Estimate), s.running = true → s.Heated c ch p e → p.planned ≤ p.run →
    let k := s.mealClass (s.comp c)
    exec (.pulseEnd c) s = .next (State.close (s.runEnded c p.run (some ((e.credit k).mark k)) none)))
  ∧ (∀ (s : State) (ch : Nat) (t : Time), s.running = true → s.psc.channels[ch]? = some (.rest t) → t ≤ s.now →
    exec (.channelRestEnd ch) s = .next (State.close (State.wake
      { s with psc := { s.psc with channels := s.psc.channels.set ch .idle } })))
  ∧ (∀ (s : State) (t : Time), s.running = true → s.psc.staggerOn = true → s.psc.lastActivation = some t →
    t + 500 ≤ s.now →
    exec .staggerEnd s = .next (State.close (State.wake { s with psc := { s.psc with staggerOn := false } })))

/-! ## Pulses and start attempts -/

/-- R56, R57, R59, R37, R34, R139: the suspension of a RUNNING pulse credits and marks, frees the channel into REST, and
keeps the pulse as SUSPENDED when length is left and the meal is still due; a cut frees the channel without credit and
removes the estimate and pulse records. -/
def Obligations.SuspendedPulse : Prop :=
  (∀ (s : State) (c ch : Nat) (p : Pulse) (e : Estimate), s.Heated c ch p e →
    let k := s.mealClass (s.comp c)
    let e1 := (e.credit k).mark k
    (p.planned ≤ p.run ∨ e1.due = false → s.suspend c = s.runEnded c p.run (some e1) none)
    ∧ (p.run < p.planned → e1.due = true →
      s.suspend c = s.runEnded c p.run (some e1) (some { p with state := .suspended }))
    ∧ s.dropHold c = s.runEnded c p.run none none)
  ∧ (∀ (s : State) (c : Nat), s.runningPulse c = none →
    s.suspend c = s
    ∧ (s.connected c = false →
      let v : State := { s with comps := s.comps.modify c fun r => { r with est := none, pulse := none } }
      (s.due c = false → s.dropHold c = v) ∧ (s.due c = true → s.dropHold c = v.wake)))

/-- R47, R48, R50, R41, R52, R58, R61, R138: the candidate of a start attempt is the eligible due compartment of smallest
margin, then lowest index. With draw permitted, an IDLE channel and the stagger over, its pulse starts on the lowest IDLE
channel; an urgent candidate that cannot start for want of draw or of a channel, while no channel rests, suspends the
RUNNING pulse of at least 4 s and of larger margin that has the largest margin, then the highest index; otherwise the
attempt ends with the answer to its request. -/
def Obligations.StartAttempt : Prop :=
  ∀ s : State,
    let ready (c : Nat) : Prop := c < s.count ∧ (s.comp c).state = .holding ∧ s.due c = true
      ∧ (s.door c).kitchen.state = .latched ∧ (s.door c).counter.state = .latched ∧ .on c ∉ s.psc.channels
    let staggerOver : Prop := ∀ t, s.psc.lastActivation = some t → t + 500 ≤ s.now
    (∀ c, s.firstEligible = some c ↔
      ready c ∧ ∀ d, ready d → d ≠ c → s.margin c < s.margin d ∨ (s.margin c = s.margin d ∧ c < d))
    ∧ (s.firstEligible = none → s.attempt = s)
    ∧ (∀ c a w, s.firstEligible = some c → s.requestDraw (s.margin c) = (a, w) →
      (∀ ch e, a = .permitted → staggerOver → s.psc.channels[ch]? = some .idle →
        (∀ j, j < ch → s.psc.channels[j]? ≠ some .idle) → (s.comp c).est = some e →
        s.attempt = { s with
          comps := s.comps.modify c fun r => { r with
            pulse := some { state := .running ch, planned := runLength (s.mealClass r) e.temp r.pulse, run := 0,
                            start := s.now } },
          psc := { channels := s.psc.channels.set ch (.on c), lastActivation := some s.now, staggerOn := true,
                   attemptDue := true, drawMoved := true },
          readings := s.readings.modify c fun r => { r with reference := r.last, pending := false } })
      ∧ (a = .claiming → s.attempt = w)
      ∧ (a = .permitted → .idle ∈ s.psc.channels → ¬staggerOver → s.attempt = w)
      ∧ (a = .refused ∨ (a = .permitted ∧ .idle ∉ s.psc.channels) →
        (s.PreemptsNone c → s.attempt = s) ∧ (∀ v, s.Preempts c v → s.attempt = s.suspend v)))

/-- The end of an event: what start attempts and changes of D may change, and that neither trigger is left over; an event
that raised none only supplies the transmitters. A change of D queues a DRAW and is followed by the overrun test (R44, R81,
R93); a raised trigger makes a start attempt, and again while one is raised (R49). The order inside one event, and that the
transmitters take their next record within it, are the model's (log 6, 7). -/
def Obligations.EndOfEvent : Prop :=
  (∀ u : State, SameButHeating u u.close ∧ u.close.Quiet ∧ (u.Quiet → u.close = u.pump))
  ∧ (∀ u : State, u.close = (runAttempts 4 u.settleDraw).pump)
  ∧ (∀ (u : State) (n : Nat), runAttempts (n + 1) u
      = if u.psc.attemptDue then
          runAttempts n (State.settleDraw (State.attempt { u with psc := { u.psc with attemptDue := false } }))
        else u)
  ∧ (∀ u : State, (u.psc.drawMoved = false → u.settleDraw = u)
    ∧ (u.psc.drawMoved = true →
      let v := State.overrunTest (State.queueDraw { u with psc := { u.psc with drawMoved := false } })
      u.settleDraw = if v.psc.drawMoved then State.queueDraw { v with psc := { v.psc with drawMoved := false } } else v))

/-! ## Doors -/

/-- R118, R119, R120, R127, R128, R114, R126, R16, R57: the events of doors, ajar times and remembered requests. An opened
door keeps its latch as it was; a closed one settles for 1 s with its latch engaged; a LATCHED side that opens is forced:
its pulse is suspended, the meal condemned FORCED or the verdict left pending, DOOR_FORCED sent; a forced door that closes
is LATCHED at once and the compartment's requests looked at again. That the third sample makes the change due and the door's
event takes it is the model's (log 34). -/
def Obligations.DoorEvents : Prop :=
  ∀ (s : State) (c : Nat) (sd : Side),
    let u := s.takeDoorChange c sd
    (s.doorChangeDue c sd = true →
      u = { s with inputs := { s.inputs with recs := u.inputs.recs } }
      ∧ u.doorValue c sd = !s.doorValue c sd ∧ u.doorChangeDue c sd = false
      ∧ (∀ d sd', d ≠ c ∨ sd' ≠ sd →
          u.doorValue d sd' = s.doorValue d sd' ∧ u.doorChangeDue d sd' = s.doorChangeDue d sd')
      ∧ ∀ d, u.presence d = s.presence d)
    ∧ (s.DoorDue c sd false → ((s.door c).side sd).state = .released →
      exec (.doorOpened c sd) s = .next (u.withSide c sd (SideRec.openedAt sd s.now)))
    ∧ (s.DoorDue c sd false → ((s.door c).side sd).state = .settling →
      exec (.doorReopened c sd) s = .next (u.withSide c sd (SideRec.openedAt sd s.now)))
    ∧ (s.DoorDue c sd true → ((s.door c).side sd).state = .opened → (s.door c).holder = some sd →
      exec (.doorClosed c sd) s = .next (u.withSide c sd fun r =>
        { r with state := .settling, latchReleased := false, ajarAt := none, settleEnd := some (s.now + 1000) }))
    ∧ (s.DoorDue c sd false → ((s.door c).side sd).state = .latched →
      let w := State.suspend c (u.withSide c sd (SideRec.openedAt sd s.now))
      let told : State :=
        if (s.comp c).state = .holding then w.condemnedFor c .forced
        else if (s.comp c).state = .loading ∨ (s.comp c).state = .collecting
            ∨ ((s.comp c).state = .attending ∧ (s.comp c).prior = some .holding) then
          { w with comps := w.comps.modify c fun r => { r with condemn := some .forced } }
        else w
      exec (.doorForced c sd) s = .next (State.close (told.notifyKitchen (.doorForced c sd))))
    ∧ (s.DoorDue c sd true → ((s.door c).side sd).state = .opened → (s.door c).holder ≠ some sd →
      exec (.forcedDoorClosed c sd) s = .next (State.close (State.wake (State.reevalBoth c (u.withSide c sd fun r =>
        { r with state := .latched, latchReleased := false, windowEnd := none, ajarAt := none, settleEnd := none })))))
    ∧ (∀ e, s.running = true → ((s.door c).side sd).state = .opened → ((s.door c).side sd).ajarAt = some e → e ≤ s.now →
      ((s.door c).side sd).ajarNoticed = false →
      let v := State.notifyKitchen (.doorAjar c sd) (s.withSide c sd fun r => { r with ajarNoticed := true })
      exec (.ajarTime c sd) s = .next (State.close (if sd = .counter then v.notifyCounter (.doorAjar c) else v)))
    ∧ (∀ q : KitchenRequest, s.running = true → (s.door c).kitchenReq = some q → q.lapse ≤ s.now →
      exec (.waitLapse c .kitchen) s = .next (State.close (State.notifyKitchen (.waitLapsed c)
        { s with doors := s.doors.modify c fun d => { d with kitchenReq := none } })))
    ∧ (∀ q : CounterRequest, s.running = true → (s.door c).counterReq = some q → q.lapse ≤ s.now →
      exec (.waitLapse c .counter) s = .next (State.close (State.notifyCounter (.waitLapsed c)
        { s with doors := s.doors.modify c fun d => { d with counterReq := none } })))

/-- R118, R120, R121, R122, R7 to R9, R11, R13, R17, R172: how a hold ends. The side is LATCHED and the holder NONE; the
compartment takes its new state (`HoldOutcome`), and with the last meal gone WINDING_DOWN becomes SHUT; the other side's
request is looked at again, then the held-over requests of this side. RELEASE of a kitchen side that is not RELEASED is
refused with STATE. That BANK_SHUT is queued between the compartment's change and the notices of those requests is the
model's choice (log 26). -/
def Obligations.HoldEnds : Prop :=
  (∀ (s : State) (c : Nat) (sd : Side) (v : State), s.running = true →
    let ended : State :=
      State.wake (State.reevalSide sd (State.reeval (otherSide sd) c ((s.holdOver c sd).shutIfEmptied v)))
    (∀ e, ((s.door c).side sd).state = .released → ((s.door c).side sd).windowEnd = some e → e ≤ s.now →
      HoldOutcome (s.holdOver c sd) c .lapse v → exec (.releaseWindowLapse c sd) s = .next ended.close)
    ∧ (∀ e, ((s.door c).side sd).state = .settling → ((s.door c).side sd).settleEnd = some e → e ≤ s.now →
      HoldOutcome (s.holdOver c sd) c (.settled (s.presence c)) v → exec (.settleEnd c sd) s = .next ended.close))
  ∧ (∀ (s : State) (c : Nat), s.takesKitchen → c < s.count → (s.comp c).state ≠ .faulted →
    (∀ v, (s.door c).holder = some .kitchen → (s.door c).kitchen.state = .released →
      HoldOutcome (s.clearKitchenPartial.holdOver c .kitchen) c .released v →
      exec (.release 4 c) s = .next (State.close (State.replyKitchen (.outcome .accepted (some c) none)
        (State.wake (State.reevalSide .kitchen (State.reeval .counter c
          ((s.clearKitchenPartial.holdOver c .kitchen).shutIfEmptied v)))))))
    ∧ (s.Quiet → (s.door c).holder ≠ some .kitchen ∨ (s.door c).kitchen.state ≠ .released →
      exec (.release 4 c) s = .next (s.kitchenAnswered (.outcome .state (some c) none))))
  ∧ (∀ before after : State,
    (after.sul.service = some .windingDown ∧ 0 < before.occupiedCount ∧ after.occupiedCount = 0 →
      before.shutIfEmptied after
        = State.notifyKitchen .bankShut (State.queueDraw { after with sul := { after.sul with service := some .shut } }))
    ∧ (¬(after.sul.service = some .windingDown ∧ 0 < before.occupiedCount ∧ after.occupiedCount = 0) →
      before.shutIfEmptied after = after))

/-- R124, R125: a remembered request looked at again is granted with its notice when the state allows it and there is room,
waits for a holder or for room, and is otherwise removed with ATTEND_VOID or SEE_STAFF; the requests of a side are taken
oldest first. The model's choices: of the two requests of one compartment the older goes first (log 33), and of requests of
one moment the one remembered first is the older (log 22). -/
def Obligations.Reevaluation : Prop :=
  ∀ (s : State) (c : Nat),
    (∀ q : KitchenRequest, (s.door c).kitchenReq = some q →
      let gone : State := { s with doors := s.doors.modify c fun d => { d with kitchenReq := none } }
      let allowed (p : Prior) : Prop :=
        (q.kind = .attend ∧ (((s.comp c).state = .holding ∧ p = .holding) ∨ ((s.comp c).state = .condemned ∧ p = .condemned)))
          ∨ (q.kind = .reset ∧ (s.comp c).state = .faulted ∧ p = .faulted)
      ((s.door c).holder ≠ none → s.reeval .kitchen c = s)
      ∧ (∀ p, allowed p → s.roomFor c .kitchen →
        s.reeval .kitchen c = State.notifyKitchen (.granted c) (State.suspend c (State.withSeize c .kitchen
          { gone with comps := s.comps.modify c fun r => { r with state := .attending, prior := some p } })))
      ∧ (∀ p, allowed p → ¬s.roomFor c .kitchen → s.reeval .kitchen c = s)
      ∧ ((s.door c).holder = none → (∀ p, ¬allowed p) → s.reeval .kitchen c = gone.notifyKitchen (.attendVoid c)))
    ∧ (∀ q : CounterRequest, (s.door c).counterReq = some q →
      let gone : State := { s with doors := s.doors.modify c fun d => { d with counterReq := none } }
      let allowed : Prop := (s.comp c).state = .holding ∧ (s.comp c).meal.map Meal.tag = some q.tag
      ((s.door c).holder ≠ none → s.reeval .counter c = s)
      ∧ (allowed → s.roomFor c .counter →
        s.reeval .counter c = State.notifyCounter (.granted c) (State.suspend c (State.withSeize c .counter
          { gone with comps := s.comps.modify c fun r => { r with state := .collecting } })))
      ∧ (allowed → ¬s.roomFor c .counter → s.reeval .counter c = s)
      ∧ ((s.door c).holder = none → ¬allowed → s.reeval .counter c = gone.notifyCounter (.seeStaff c)))
    ∧ ((s.door c).kitchenReq = none → s.reeval .kitchen c = s)
    ∧ ((s.door c).counterReq = none → s.reeval .counter c = s)
    ∧ (∀ q n, (s.door c).kitchenReq = some q → (s.door c).counterReq = some n →
      (q.serial < n.serial → s.reevalBoth c = State.reeval .counter c (s.reeval .kitchen c))
      ∧ (n.serial ≤ q.serial → s.reevalBoth c = State.reeval .kitchen c (s.reeval .counter c)))
    ∧ (∀ sd, s.reevalSide sd = (s.requestsOf sd).foldl (fun t d => t.reeval sd d) s
      ∧ (s.requestsOf sd).Nodup
      ∧ (∀ d, d ∈ s.requestsOf sd ↔ d < s.doors.length ∧ s.requestOrder sd d ≠ none)
      ∧ (s.requestsOf sd).Pairwise
          (fun a b => ∀ x y, s.requestOrder sd a = some x → s.requestOrder sd b = some y → x ≤ y))

/-! ## Sensors -/

/-- R17, R18: a fault report by the compartment's state. Entry to FAULTED drops the hold's records and channel, keeps or sets
the condemn reason, judges meal present, queues GONE(CONDEMNED) and sends FAULTED, and may empty the bank (R172); in ATTENDING
the prior state becomes FAULTED; FAULTED takes the newest reason; OUT_OF_SERVICE takes none. -/
def Obligations.FaultReport : Prop :=
  ∀ (s : State) (c : Nat) (reason : FaultReason), c < s.count →
    let dropped := s.dropHold c
    let set (f : CompRec → CompRec) (u : State) : State := { u with comps := u.comps.modify c f }
    let gone (u : State) : State :=
      match (s.comp c).meal with
      | some m => u.queueNote (.gone m.tag c .condemned)
      | none => u
    let entered (why : Option CondemnReason) : State := set (fun r =>
      { r with state := .faulted, fault := some reason, mealPresent := some (s.presence c), probe := none,
               condemn := why }) dropped
    let noted : State := set (fun r => { r with fault := some reason, mealPresent := some (s.presence c) }) s
    ((s.comp c).state = .loading ∨ (s.comp c).state = .holding ∨ (s.comp c).state = .collecting →
      s.faultReport c reason = s.shutIfEmptied ((gone (entered (some .fault))).notifyKitchen (.faulted c reason)))
    ∧ ((s.comp c).state = .free →
      s.faultReport c reason = s.shutIfEmptied
        ((gone (entered (if s.presence c then some .fault else none))).notifyKitchen (.faulted c reason)))
    ∧ ((s.comp c).state = .condemned →
      s.faultReport c reason = s.shutIfEmptied
        ((entered (s.comp c).condemn).notifyKitchen (.faulted c reason)))
    ∧ ((s.comp c).state = .attending →
      ((s.comp c).prior = some .holding →
        s.faultReport c reason = (gone (set (fun r => { r with prior := some .faulted, condemn := some .fault })
          (noted.dropHold c))).notifyKitchen (.faulted c reason))
      ∧ ((s.comp c).prior = some .condemned →
        s.faultReport c reason
          = (set (fun r => { r with prior := some .faulted }) noted).notifyKitchen (.faulted c reason))
      ∧ ((s.comp c).prior = some .faulted → s.faultReport c reason = noted))
    ∧ ((s.comp c).state = .faulted → s.faultReport c reason = set (fun r => { r with fault := some reason }) s)
    ∧ ((s.comp c).state = .outOfService → s.faultReport c reason = s)

/-- R140, R132, R133, R135, R136, R137, R139: one reading of a compartment: recorded; an invalid one counted, the second in a
row and each after it reporting SENSOR; a valid one checked for overheat, then against the run's reference, then for cold,
each check on the state the one before it left. The model's choices: a run that this reading's own OVERHEAT report cuts is
compared with this reading (log 39), and a reading that comes late is taken when it comes (log 31). -/
def Obligations.SensorReading : Prop :=
  (∀ (s : State) (r : Reading), s.running = true → s.ssu.start + 250 * s.ssu.slot ≤ s.now →
    (s.ssu.slot - 1) % (s.count + 1) < s.count →
    let c := (s.ssu.slot - 1) % (s.count + 1)
    let went (f : ReadingRec → ReadingRec) : State :=
      { s with ssu := { s.ssu with slot := s.ssu.slot + 1 }, readings := s.readings.modify c f }
    (r = .noAnswer ∨ r = .invalidCode ∨ (∃ v, r = .value v ∧ (v < 0 ∨ 1200 < v)) →
      let u := went fun q => { q with invalid := min 255 (q.invalid + 1) }
      exec (.sensorReading r) s
        = .next (State.close (if 2 ≤ (u.reading c).invalid then u.faultReport c .sensor else u)))
    ∧ (∀ t : Nat, r = .value t → t ≤ 1200 →
      let u := went fun q => { q with last := some t, invalid := 0 }
      exec (.sensorReading r) s = .next (State.close (State.coldCheck c t (State.elementCheck c t (u.overheatCheck c t))))))
  ∧ (∀ (u : State) (c t : Nat),
    let q := u.reading c
    let k := u.mealClass (u.comp c)
    let set (f : ReadingRec → ReadingRec) : State := { u with readings := u.readings.modify c f }
    let cold : Prop := (u.comp c).state = .holding ∧ (u.door c).kitchen.state = .latched
      ∧ (u.door c).counter.state = .latched ∧ t + 100 < k.floor
    (950 < t ∨ ((u.comp c).state = .holding ∧ k.ceiling + 150 < t) →
      u.overheatCheck c t = u.faultReport c .overheat)
    ∧ (¬(950 < t ∨ ((u.comp c).state = .holding ∧ k.ceiling + 150 < t)) → u.overheatCheck c t = u)
    ∧ (q.pending = false → u.elementCheck c t = u)
    ∧ (∀ f, q.pending = true → q.reference = some f →
      (f + 5 ≤ t → u.elementCheck c t = set fun x => { x with weak := 0, pending := false })
      ∧ (t < f + 5 →
        let w := set fun x => { x with weak := min 3 (x.weak + 1), pending := false }
        u.elementCheck c t = if 3 ≤ q.weak + 1 then w.faultReport c .element else w))
    ∧ (¬cold → u.coldCheck c t = set fun x => { x with cold := 0 })
    ∧ (cold → q.cold = 0 → u.coldCheck c t = set fun x => { x with cold := x.cold + 1 })
    ∧ (cold → 1 ≤ q.cold →
      let w := u.condemnedFor c .coldReading
      u.coldCheck c t = { w with readings := w.readings.modify c fun x => { x with cold := 0 } }))

/-- R134, R132, R114, R113: the ambient slot; and the input chain's samples: the first sets every debounced value, a later
one that agrees breaks a run of opposite ones, and the third opposite in a row changes a presence value at once. A door's
third opposite sample makes its change due, to be taken by the door's event (the model's choice, log 34). A sample or reading
that comes late is taken when it comes, and the next sample is due 20 ms after it (the model's choice, log 31). -/
def Obligations.AmbientAndInputSample : Prop :=
  (∀ (s : State) (r : Reading), s.running = true → s.ssu.start + 250 * s.ssu.slot ≤ s.now →
    (s.ssu.slot - 1) % (s.count + 1) = s.count →
    (∀ t : Nat, r = .value t → t ≤ 1200 →
      exec (.ambientReading r) s = .next { s with ssu := { s.ssu with slot := s.ssu.slot + 1, ambient := t } })
    ∧ (r = .noAnswer ∨ r = .invalidCode ∨ (∃ v, r = .value v ∧ (v < 0 ∨ 1200 < v)) →
      exec (.ambientReading r) s = .next { s with ssu := { s.ssu with slot := s.ssu.slot + 1, ambientHeld := true } }))
  ∧ (∀ (s : State) (xs : List InputSample), s.sul.phase ≠ .resetAsserted → s.inputs.next ≤ s.now →
    ∃ t, exec (.inputChainSample xs) s = .next t
      ∧ t = { s with inputs := { recs := t.inputs.recs, next := s.now + 20 } }
      ∧ (s.inputs.recs = [] → t.inputs.recs = xs.map fun x =>
          { kitchen := { value := x.kitchenOpen, run := 0 }, counter := { value := x.counterOpen, run := 0 },
            presence := { value := x.present, run := 0 } })
      ∧ (s.inputs.recs ≠ [] → ∀ (c : Nat) (q : InputRec) (x : InputSample), s.inputs.recs[c]? = some q → xs[c]? = some x →
        ∃ q', t.inputs.recs[c]? = some q'
          ∧ (x.present = q.presence.value → q'.presence = { value := q.presence.value, run := 0 })
          ∧ (x.present ≠ q.presence.value → q.presence.run < 2 →
              q'.presence = { value := q.presence.value, run := q.presence.run + 1 })
          ∧ (x.present ≠ q.presence.value → 2 ≤ q.presence.run → q'.presence = { value := x.present, run := 0 })
          ∧ (∀ (d : Debounced) (x' : Bool) (d' : Debounced), (d = q.kitchen ∧ x' = x.kitchenOpen ∧ d' = q'.kitchen)
              ∨ (d = q.counter ∧ x' = x.counterOpen ∧ d' = q'.counter) → d.run < 3 →
            (x' = d.value → d' = { value := d.value, run := 0 })
            ∧ (x' ≠ d.value → d.run < 2 → d' = { value := d.value, run := d.run + 1 })
            ∧ (x' ≠ d.value → d.run = 2 →
              (s.running = true → d' = { value := d.value, run := 3 })
              ∧ (s.running = false → d' = { value := x', run := 0 })))))

/-! ## Frames sent and read -/

/-- R88, R93, R94, R174: the bytes of every frame a station sends are read back by a peer as the row of that frame, with
every field at every value it may have: no field, length or check is dropped. -/
def Obligations.FrameRoundTrip : Prop :=
  ∀ (f : Frame) (report : DrawReport) (sender own : Nat), sender < 32 → sender ≠ own → FrameInRange report f →
    frameCommand own (f.bytes sender report) = f.row sender report

/-! ## Laws -/

/-- The laws hold in the state after reset. -/
def Obligations.LawsHoldAtReset : Prop :=
  State.reset.DirectoryLaw ∧ State.reset.TagLaw ∧ State.reset.InterlockLaw ∧ State.reset.HeaterLaw ∧ State.reset.HoldLaw
    ∧ State.reset.DrawLaw ∧ State.reset.Quiet

/-- R104, R5: no step breaks the law of the Court Directory, nor puts one tag in two records. -/
def Obligations.DirectoryAndTagInvariant : Prop :=
  (∀ s t : State, s.DirectoryLaw → step s = .next t → t.DirectoryLaw)
  ∧ (∀ s t : State, s.TagLaw → step s = .next t → t.TagLaw)

/-- R117, R115, R116: no step breaks the interlock: at most one side of a compartment is released, waits or settles, it is
the holder's, and a side holds at most four compartments. -/
def Obligations.InterlockInvariant : Prop := ∀ s t : State, s.InterlockLaw → step s = .next t → t.InterlockLaw

/-- R43: no step breaks the heater law: what a channel drives is HOLDING, behind two LATCHED doors, with its pulse RUNNING on
that channel. -/
def Obligations.HeaterInvariant : Prop := ∀ s t : State, s.HeaterLaw → step s = .next t → t.HeaterLaw

/-- R38, R1, R9, R24: no step breaks what a compartment record keeps of its hold: an estimate exactly under hold, at or below
the ceiling, and in HOLDING at or above the floor. -/
def Obligations.HoldInvariant : Prop := ∀ s t : State, s.HoldLaw → step s = .next t → t.HoldLaw

/-- R82: no step takes D beyond W_avail, beyond Wi in ISOLATED or MISMATCHED, or beyond F in JOINING. -/
def Obligations.DrawInvariant : Prop :=
  ∀ s t : State, s.HeaterLaw → s.DrawLaw → step s = .next t → t.HeaterLaw ∧ t.DrawLaw
end

