-- ==== Sys2Proof/Laws/State.lean ====
section
/-! SUPPORT. Every field of the state after every named update of Machine/Ops.lean: the updated block, and the others
as they were. -/

namespace Sys2Proof.Machine

variable (s : State)

@[simp] theorem modSul_now (f : Sul → Sul) : (s.modSul f).now = s.now := rfl
@[simp] theorem modSul_sul (f : Sul → Sul) : (s.modSul f).sul = f s.sul := rfl
@[simp] theorem modSul_comps (f : Sul → Sul) : (s.modSul f).comps = s.comps := rfl
@[simp] theorem modSul_doors (f : Sul → Sul) : (s.modSul f).doors = s.doors := rfl
@[simp] theorem modSul_requestSerial (f : Sul → Sul) : (s.modSul f).requestSerial = s.requestSerial := rfl
@[simp] theorem modSul_inputs (f : Sul → Sul) : (s.modSul f).inputs = s.inputs := rfl
@[simp] theorem modSul_readings (f : Sul → Sul) : (s.modSul f).readings = s.readings := rfl
@[simp] theorem modSul_ssu (f : Sul → Sul) : (s.modSul f).ssu = s.ssu := rfl
@[simp] theorem modSul_psc (f : Sul → Sul) : (s.modSul f).psc = s.psc := rfl
@[simp] theorem modSul_dsu (f : Sul → Sul) : (s.modSul f).dsu = s.dsu := rfl
@[simp] theorem modSul_peers (f : Sul → Sul) : (s.modSul f).peers = s.peers := rfl
@[simp] theorem modSul_lif (f : Sul → Sul) : (s.modSul f).lif = s.lif := rfl
@[simp] theorem modSul_cdir (f : Sul → Sul) : (s.modSul f).cdir = s.cdir := rfl
@[simp] theorem modSul_kp (f : Sul → Sul) : (s.modSul f).kp = s.kp := rfl
@[simp] theorem modSul_cp (f : Sul → Sul) : (s.modSul f).cp = s.cp := rfl
@[simp] theorem modSul_pending (f : Sul → Sul) : (s.modSul f).pending = s.pending := rfl
@[simp] theorem modSul_rx (f : Sul → Sul) : (s.modSul f).rx = s.rx := rfl

@[simp] theorem modSsu_now (f : Ssu → Ssu) : (s.modSsu f).now = s.now := rfl
@[simp] theorem modSsu_sul (f : Ssu → Ssu) : (s.modSsu f).sul = s.sul := rfl
@[simp] theorem modSsu_comps (f : Ssu → Ssu) : (s.modSsu f).comps = s.comps := rfl
@[simp] theorem modSsu_doors (f : Ssu → Ssu) : (s.modSsu f).doors = s.doors := rfl
@[simp] theorem modSsu_requestSerial (f : Ssu → Ssu) : (s.modSsu f).requestSerial = s.requestSerial := rfl
@[simp] theorem modSsu_inputs (f : Ssu → Ssu) : (s.modSsu f).inputs = s.inputs := rfl
@[simp] theorem modSsu_readings (f : Ssu → Ssu) : (s.modSsu f).readings = s.readings := rfl
@[simp] theorem modSsu_ssu (f : Ssu → Ssu) : (s.modSsu f).ssu = f s.ssu := rfl
@[simp] theorem modSsu_psc (f : Ssu → Ssu) : (s.modSsu f).psc = s.psc := rfl
@[simp] theorem modSsu_dsu (f : Ssu → Ssu) : (s.modSsu f).dsu = s.dsu := rfl
@[simp] theorem modSsu_peers (f : Ssu → Ssu) : (s.modSsu f).peers = s.peers := rfl
@[simp] theorem modSsu_lif (f : Ssu → Ssu) : (s.modSsu f).lif = s.lif := rfl
@[simp] theorem modSsu_cdir (f : Ssu → Ssu) : (s.modSsu f).cdir = s.cdir := rfl
@[simp] theorem modSsu_kp (f : Ssu → Ssu) : (s.modSsu f).kp = s.kp := rfl
@[simp] theorem modSsu_cp (f : Ssu → Ssu) : (s.modSsu f).cp = s.cp := rfl
@[simp] theorem modSsu_pending (f : Ssu → Ssu) : (s.modSsu f).pending = s.pending := rfl
@[simp] theorem modSsu_rx (f : Ssu → Ssu) : (s.modSsu f).rx = s.rx := rfl

@[simp] theorem modPsc_now (f : Psc → Psc) : (s.modPsc f).now = s.now := rfl
@[simp] theorem modPsc_sul (f : Psc → Psc) : (s.modPsc f).sul = s.sul := rfl
@[simp] theorem modPsc_comps (f : Psc → Psc) : (s.modPsc f).comps = s.comps := rfl
@[simp] theorem modPsc_doors (f : Psc → Psc) : (s.modPsc f).doors = s.doors := rfl
@[simp] theorem modPsc_requestSerial (f : Psc → Psc) : (s.modPsc f).requestSerial = s.requestSerial := rfl
@[simp] theorem modPsc_inputs (f : Psc → Psc) : (s.modPsc f).inputs = s.inputs := rfl
@[simp] theorem modPsc_readings (f : Psc → Psc) : (s.modPsc f).readings = s.readings := rfl
@[simp] theorem modPsc_ssu (f : Psc → Psc) : (s.modPsc f).ssu = s.ssu := rfl
@[simp] theorem modPsc_psc (f : Psc → Psc) : (s.modPsc f).psc = f s.psc := rfl
@[simp] theorem modPsc_dsu (f : Psc → Psc) : (s.modPsc f).dsu = s.dsu := rfl
@[simp] theorem modPsc_peers (f : Psc → Psc) : (s.modPsc f).peers = s.peers := rfl
@[simp] theorem modPsc_lif (f : Psc → Psc) : (s.modPsc f).lif = s.lif := rfl
@[simp] theorem modPsc_cdir (f : Psc → Psc) : (s.modPsc f).cdir = s.cdir := rfl
@[simp] theorem modPsc_kp (f : Psc → Psc) : (s.modPsc f).kp = s.kp := rfl
@[simp] theorem modPsc_cp (f : Psc → Psc) : (s.modPsc f).cp = s.cp := rfl
@[simp] theorem modPsc_pending (f : Psc → Psc) : (s.modPsc f).pending = s.pending := rfl
@[simp] theorem modPsc_rx (f : Psc → Psc) : (s.modPsc f).rx = s.rx := rfl

@[simp] theorem modDsu_now (f : Dsu → Dsu) : (s.modDsu f).now = s.now := rfl
@[simp] theorem modDsu_sul (f : Dsu → Dsu) : (s.modDsu f).sul = s.sul := rfl
@[simp] theorem modDsu_comps (f : Dsu → Dsu) : (s.modDsu f).comps = s.comps := rfl
@[simp] theorem modDsu_doors (f : Dsu → Dsu) : (s.modDsu f).doors = s.doors := rfl
@[simp] theorem modDsu_requestSerial (f : Dsu → Dsu) : (s.modDsu f).requestSerial = s.requestSerial := rfl
@[simp] theorem modDsu_inputs (f : Dsu → Dsu) : (s.modDsu f).inputs = s.inputs := rfl
@[simp] theorem modDsu_readings (f : Dsu → Dsu) : (s.modDsu f).readings = s.readings := rfl
@[simp] theorem modDsu_ssu (f : Dsu → Dsu) : (s.modDsu f).ssu = s.ssu := rfl
@[simp] theorem modDsu_psc (f : Dsu → Dsu) : (s.modDsu f).psc = s.psc := rfl
@[simp] theorem modDsu_dsu (f : Dsu → Dsu) : (s.modDsu f).dsu = f s.dsu := rfl
@[simp] theorem modDsu_peers (f : Dsu → Dsu) : (s.modDsu f).peers = s.peers := rfl
@[simp] theorem modDsu_lif (f : Dsu → Dsu) : (s.modDsu f).lif = s.lif := rfl
@[simp] theorem modDsu_cdir (f : Dsu → Dsu) : (s.modDsu f).cdir = s.cdir := rfl
@[simp] theorem modDsu_kp (f : Dsu → Dsu) : (s.modDsu f).kp = s.kp := rfl
@[simp] theorem modDsu_cp (f : Dsu → Dsu) : (s.modDsu f).cp = s.cp := rfl
@[simp] theorem modDsu_pending (f : Dsu → Dsu) : (s.modDsu f).pending = s.pending := rfl
@[simp] theorem modDsu_rx (f : Dsu → Dsu) : (s.modDsu f).rx = s.rx := rfl

@[simp] theorem modLif_now (f : Lif → Lif) : (s.modLif f).now = s.now := rfl
@[simp] theorem modLif_sul (f : Lif → Lif) : (s.modLif f).sul = s.sul := rfl
@[simp] theorem modLif_comps (f : Lif → Lif) : (s.modLif f).comps = s.comps := rfl
@[simp] theorem modLif_doors (f : Lif → Lif) : (s.modLif f).doors = s.doors := rfl
@[simp] theorem modLif_requestSerial (f : Lif → Lif) : (s.modLif f).requestSerial = s.requestSerial := rfl
@[simp] theorem modLif_inputs (f : Lif → Lif) : (s.modLif f).inputs = s.inputs := rfl
@[simp] theorem modLif_readings (f : Lif → Lif) : (s.modLif f).readings = s.readings := rfl
@[simp] theorem modLif_ssu (f : Lif → Lif) : (s.modLif f).ssu = s.ssu := rfl
@[simp] theorem modLif_psc (f : Lif → Lif) : (s.modLif f).psc = s.psc := rfl
@[simp] theorem modLif_dsu (f : Lif → Lif) : (s.modLif f).dsu = s.dsu := rfl
@[simp] theorem modLif_peers (f : Lif → Lif) : (s.modLif f).peers = s.peers := rfl
@[simp] theorem modLif_lif (f : Lif → Lif) : (s.modLif f).lif = f s.lif := rfl
@[simp] theorem modLif_cdir (f : Lif → Lif) : (s.modLif f).cdir = s.cdir := rfl
@[simp] theorem modLif_kp (f : Lif → Lif) : (s.modLif f).kp = s.kp := rfl
@[simp] theorem modLif_cp (f : Lif → Lif) : (s.modLif f).cp = s.cp := rfl
@[simp] theorem modLif_pending (f : Lif → Lif) : (s.modLif f).pending = s.pending := rfl
@[simp] theorem modLif_rx (f : Lif → Lif) : (s.modLif f).rx = s.rx := rfl

@[simp] theorem modCdir_now (f : Cdir → Cdir) : (s.modCdir f).now = s.now := rfl
@[simp] theorem modCdir_sul (f : Cdir → Cdir) : (s.modCdir f).sul = s.sul := rfl
@[simp] theorem modCdir_comps (f : Cdir → Cdir) : (s.modCdir f).comps = s.comps := rfl
@[simp] theorem modCdir_doors (f : Cdir → Cdir) : (s.modCdir f).doors = s.doors := rfl
@[simp] theorem modCdir_requestSerial (f : Cdir → Cdir) : (s.modCdir f).requestSerial = s.requestSerial := rfl
@[simp] theorem modCdir_inputs (f : Cdir → Cdir) : (s.modCdir f).inputs = s.inputs := rfl
@[simp] theorem modCdir_readings (f : Cdir → Cdir) : (s.modCdir f).readings = s.readings := rfl
@[simp] theorem modCdir_ssu (f : Cdir → Cdir) : (s.modCdir f).ssu = s.ssu := rfl
@[simp] theorem modCdir_psc (f : Cdir → Cdir) : (s.modCdir f).psc = s.psc := rfl
@[simp] theorem modCdir_dsu (f : Cdir → Cdir) : (s.modCdir f).dsu = s.dsu := rfl
@[simp] theorem modCdir_peers (f : Cdir → Cdir) : (s.modCdir f).peers = s.peers := rfl
@[simp] theorem modCdir_lif (f : Cdir → Cdir) : (s.modCdir f).lif = s.lif := rfl
@[simp] theorem modCdir_cdir (f : Cdir → Cdir) : (s.modCdir f).cdir = f s.cdir := rfl
@[simp] theorem modCdir_kp (f : Cdir → Cdir) : (s.modCdir f).kp = s.kp := rfl
@[simp] theorem modCdir_cp (f : Cdir → Cdir) : (s.modCdir f).cp = s.cp := rfl
@[simp] theorem modCdir_pending (f : Cdir → Cdir) : (s.modCdir f).pending = s.pending := rfl
@[simp] theorem modCdir_rx (f : Cdir → Cdir) : (s.modCdir f).rx = s.rx := rfl

@[simp] theorem modKp_now (f : KitchenPort → KitchenPort) : (s.modKp f).now = s.now := rfl
@[simp] theorem modKp_sul (f : KitchenPort → KitchenPort) : (s.modKp f).sul = s.sul := rfl
@[simp] theorem modKp_comps (f : KitchenPort → KitchenPort) : (s.modKp f).comps = s.comps := rfl
@[simp] theorem modKp_doors (f : KitchenPort → KitchenPort) : (s.modKp f).doors = s.doors := rfl
@[simp] theorem modKp_requestSerial (f : KitchenPort → KitchenPort) : (s.modKp f).requestSerial = s.requestSerial := rfl
@[simp] theorem modKp_inputs (f : KitchenPort → KitchenPort) : (s.modKp f).inputs = s.inputs := rfl
@[simp] theorem modKp_readings (f : KitchenPort → KitchenPort) : (s.modKp f).readings = s.readings := rfl
@[simp] theorem modKp_ssu (f : KitchenPort → KitchenPort) : (s.modKp f).ssu = s.ssu := rfl
@[simp] theorem modKp_psc (f : KitchenPort → KitchenPort) : (s.modKp f).psc = s.psc := rfl
@[simp] theorem modKp_dsu (f : KitchenPort → KitchenPort) : (s.modKp f).dsu = s.dsu := rfl
@[simp] theorem modKp_peers (f : KitchenPort → KitchenPort) : (s.modKp f).peers = s.peers := rfl
@[simp] theorem modKp_lif (f : KitchenPort → KitchenPort) : (s.modKp f).lif = s.lif := rfl
@[simp] theorem modKp_cdir (f : KitchenPort → KitchenPort) : (s.modKp f).cdir = s.cdir := rfl
@[simp] theorem modKp_kp (f : KitchenPort → KitchenPort) : (s.modKp f).kp = f s.kp := rfl
@[simp] theorem modKp_cp (f : KitchenPort → KitchenPort) : (s.modKp f).cp = s.cp := rfl
@[simp] theorem modKp_pending (f : KitchenPort → KitchenPort) : (s.modKp f).pending = s.pending := rfl
@[simp] theorem modKp_rx (f : KitchenPort → KitchenPort) : (s.modKp f).rx = s.rx := rfl

@[simp] theorem modCp_now (f : CounterPort → CounterPort) : (s.modCp f).now = s.now := rfl
@[simp] theorem modCp_sul (f : CounterPort → CounterPort) : (s.modCp f).sul = s.sul := rfl
@[simp] theorem modCp_comps (f : CounterPort → CounterPort) : (s.modCp f).comps = s.comps := rfl
@[simp] theorem modCp_doors (f : CounterPort → CounterPort) : (s.modCp f).doors = s.doors := rfl
@[simp] theorem modCp_requestSerial (f : CounterPort → CounterPort) : (s.modCp f).requestSerial = s.requestSerial := rfl
@[simp] theorem modCp_inputs (f : CounterPort → CounterPort) : (s.modCp f).inputs = s.inputs := rfl
@[simp] theorem modCp_readings (f : CounterPort → CounterPort) : (s.modCp f).readings = s.readings := rfl
@[simp] theorem modCp_ssu (f : CounterPort → CounterPort) : (s.modCp f).ssu = s.ssu := rfl
@[simp] theorem modCp_psc (f : CounterPort → CounterPort) : (s.modCp f).psc = s.psc := rfl
@[simp] theorem modCp_dsu (f : CounterPort → CounterPort) : (s.modCp f).dsu = s.dsu := rfl
@[simp] theorem modCp_peers (f : CounterPort → CounterPort) : (s.modCp f).peers = s.peers := rfl
@[simp] theorem modCp_lif (f : CounterPort → CounterPort) : (s.modCp f).lif = s.lif := rfl
@[simp] theorem modCp_cdir (f : CounterPort → CounterPort) : (s.modCp f).cdir = s.cdir := rfl
@[simp] theorem modCp_kp (f : CounterPort → CounterPort) : (s.modCp f).kp = s.kp := rfl
@[simp] theorem modCp_cp (f : CounterPort → CounterPort) : (s.modCp f).cp = f s.cp := rfl
@[simp] theorem modCp_pending (f : CounterPort → CounterPort) : (s.modCp f).pending = s.pending := rfl
@[simp] theorem modCp_rx (f : CounterPort → CounterPort) : (s.modCp f).rx = s.rx := rfl

@[simp] theorem modComp_now (c : Nat) (f : CompRec → CompRec) : (s.modComp c f).now = s.now := rfl
@[simp] theorem modComp_sul (c : Nat) (f : CompRec → CompRec) : (s.modComp c f).sul = s.sul := rfl
@[simp] theorem modComp_comps (c : Nat) (f : CompRec → CompRec) : (s.modComp c f).comps = s.comps.modify c f := rfl
@[simp] theorem modComp_doors (c : Nat) (f : CompRec → CompRec) : (s.modComp c f).doors = s.doors := rfl
@[simp] theorem modComp_requestSerial (c : Nat) (f : CompRec → CompRec) : (s.modComp c f).requestSerial = s.requestSerial := rfl
@[simp] theorem modComp_inputs (c : Nat) (f : CompRec → CompRec) : (s.modComp c f).inputs = s.inputs := rfl
@[simp] theorem modComp_readings (c : Nat) (f : CompRec → CompRec) : (s.modComp c f).readings = s.readings := rfl
@[simp] theorem modComp_ssu (c : Nat) (f : CompRec → CompRec) : (s.modComp c f).ssu = s.ssu := rfl
@[simp] theorem modComp_psc (c : Nat) (f : CompRec → CompRec) : (s.modComp c f).psc = s.psc := rfl
@[simp] theorem modComp_dsu (c : Nat) (f : CompRec → CompRec) : (s.modComp c f).dsu = s.dsu := rfl
@[simp] theorem modComp_peers (c : Nat) (f : CompRec → CompRec) : (s.modComp c f).peers = s.peers := rfl
@[simp] theorem modComp_lif (c : Nat) (f : CompRec → CompRec) : (s.modComp c f).lif = s.lif := rfl
@[simp] theorem modComp_cdir (c : Nat) (f : CompRec → CompRec) : (s.modComp c f).cdir = s.cdir := rfl
@[simp] theorem modComp_kp (c : Nat) (f : CompRec → CompRec) : (s.modComp c f).kp = s.kp := rfl
@[simp] theorem modComp_cp (c : Nat) (f : CompRec → CompRec) : (s.modComp c f).cp = s.cp := rfl
@[simp] theorem modComp_pending (c : Nat) (f : CompRec → CompRec) : (s.modComp c f).pending = s.pending := rfl
@[simp] theorem modComp_rx (c : Nat) (f : CompRec → CompRec) : (s.modComp c f).rx = s.rx := rfl

@[simp] theorem modDoor_now (c : Nat) (f : DoorRec → DoorRec) : (s.modDoor c f).now = s.now := rfl
@[simp] theorem modDoor_sul (c : Nat) (f : DoorRec → DoorRec) : (s.modDoor c f).sul = s.sul := rfl
@[simp] theorem modDoor_comps (c : Nat) (f : DoorRec → DoorRec) : (s.modDoor c f).comps = s.comps := rfl
@[simp] theorem modDoor_doors (c : Nat) (f : DoorRec → DoorRec) : (s.modDoor c f).doors = s.doors.modify c f := rfl
@[simp] theorem modDoor_requestSerial (c : Nat) (f : DoorRec → DoorRec) : (s.modDoor c f).requestSerial = s.requestSerial := rfl
@[simp] theorem modDoor_inputs (c : Nat) (f : DoorRec → DoorRec) : (s.modDoor c f).inputs = s.inputs := rfl
@[simp] theorem modDoor_readings (c : Nat) (f : DoorRec → DoorRec) : (s.modDoor c f).readings = s.readings := rfl
@[simp] theorem modDoor_ssu (c : Nat) (f : DoorRec → DoorRec) : (s.modDoor c f).ssu = s.ssu := rfl
@[simp] theorem modDoor_psc (c : Nat) (f : DoorRec → DoorRec) : (s.modDoor c f).psc = s.psc := rfl
@[simp] theorem modDoor_dsu (c : Nat) (f : DoorRec → DoorRec) : (s.modDoor c f).dsu = s.dsu := rfl
@[simp] theorem modDoor_peers (c : Nat) (f : DoorRec → DoorRec) : (s.modDoor c f).peers = s.peers := rfl
@[simp] theorem modDoor_lif (c : Nat) (f : DoorRec → DoorRec) : (s.modDoor c f).lif = s.lif := rfl
@[simp] theorem modDoor_cdir (c : Nat) (f : DoorRec → DoorRec) : (s.modDoor c f).cdir = s.cdir := rfl
@[simp] theorem modDoor_kp (c : Nat) (f : DoorRec → DoorRec) : (s.modDoor c f).kp = s.kp := rfl
@[simp] theorem modDoor_cp (c : Nat) (f : DoorRec → DoorRec) : (s.modDoor c f).cp = s.cp := rfl
@[simp] theorem modDoor_pending (c : Nat) (f : DoorRec → DoorRec) : (s.modDoor c f).pending = s.pending := rfl
@[simp] theorem modDoor_rx (c : Nat) (f : DoorRec → DoorRec) : (s.modDoor c f).rx = s.rx := rfl

@[simp] theorem modReading_now (c : Nat) (f : ReadingRec → ReadingRec) : (s.modReading c f).now = s.now := rfl
@[simp] theorem modReading_sul (c : Nat) (f : ReadingRec → ReadingRec) : (s.modReading c f).sul = s.sul := rfl
@[simp] theorem modReading_comps (c : Nat) (f : ReadingRec → ReadingRec) : (s.modReading c f).comps = s.comps := rfl
@[simp] theorem modReading_doors (c : Nat) (f : ReadingRec → ReadingRec) : (s.modReading c f).doors = s.doors := rfl
@[simp] theorem modReading_requestSerial (c : Nat) (f : ReadingRec → ReadingRec) : (s.modReading c f).requestSerial = s.requestSerial := rfl
@[simp] theorem modReading_inputs (c : Nat) (f : ReadingRec → ReadingRec) : (s.modReading c f).inputs = s.inputs := rfl
@[simp] theorem modReading_readings (c : Nat) (f : ReadingRec → ReadingRec) : (s.modReading c f).readings = s.readings.modify c f := rfl
@[simp] theorem modReading_ssu (c : Nat) (f : ReadingRec → ReadingRec) : (s.modReading c f).ssu = s.ssu := rfl
@[simp] theorem modReading_psc (c : Nat) (f : ReadingRec → ReadingRec) : (s.modReading c f).psc = s.psc := rfl
@[simp] theorem modReading_dsu (c : Nat) (f : ReadingRec → ReadingRec) : (s.modReading c f).dsu = s.dsu := rfl
@[simp] theorem modReading_peers (c : Nat) (f : ReadingRec → ReadingRec) : (s.modReading c f).peers = s.peers := rfl
@[simp] theorem modReading_lif (c : Nat) (f : ReadingRec → ReadingRec) : (s.modReading c f).lif = s.lif := rfl
@[simp] theorem modReading_cdir (c : Nat) (f : ReadingRec → ReadingRec) : (s.modReading c f).cdir = s.cdir := rfl
@[simp] theorem modReading_kp (c : Nat) (f : ReadingRec → ReadingRec) : (s.modReading c f).kp = s.kp := rfl
@[simp] theorem modReading_cp (c : Nat) (f : ReadingRec → ReadingRec) : (s.modReading c f).cp = s.cp := rfl
@[simp] theorem modReading_pending (c : Nat) (f : ReadingRec → ReadingRec) : (s.modReading c f).pending = s.pending := rfl
@[simp] theorem modReading_rx (c : Nat) (f : ReadingRec → ReadingRec) : (s.modReading c f).rx = s.rx := rfl

@[simp] theorem modPeer_now (a : Nat) (f : PeerEntry → PeerEntry) : (s.modPeer a f).now = s.now := rfl
@[simp] theorem modPeer_sul (a : Nat) (f : PeerEntry → PeerEntry) : (s.modPeer a f).sul = s.sul := rfl
@[simp] theorem modPeer_comps (a : Nat) (f : PeerEntry → PeerEntry) : (s.modPeer a f).comps = s.comps := rfl
@[simp] theorem modPeer_doors (a : Nat) (f : PeerEntry → PeerEntry) : (s.modPeer a f).doors = s.doors := rfl
@[simp] theorem modPeer_requestSerial (a : Nat) (f : PeerEntry → PeerEntry) : (s.modPeer a f).requestSerial = s.requestSerial := rfl
@[simp] theorem modPeer_inputs (a : Nat) (f : PeerEntry → PeerEntry) : (s.modPeer a f).inputs = s.inputs := rfl
@[simp] theorem modPeer_readings (a : Nat) (f : PeerEntry → PeerEntry) : (s.modPeer a f).readings = s.readings := rfl
@[simp] theorem modPeer_ssu (a : Nat) (f : PeerEntry → PeerEntry) : (s.modPeer a f).ssu = s.ssu := rfl
@[simp] theorem modPeer_psc (a : Nat) (f : PeerEntry → PeerEntry) : (s.modPeer a f).psc = s.psc := rfl
@[simp] theorem modPeer_dsu (a : Nat) (f : PeerEntry → PeerEntry) : (s.modPeer a f).dsu = s.dsu := rfl
@[simp] theorem modPeer_peers (a : Nat) (f : PeerEntry → PeerEntry) : (s.modPeer a f).peers = s.peers.map fun e => if e.address = a then f e else e := rfl
@[simp] theorem modPeer_lif (a : Nat) (f : PeerEntry → PeerEntry) : (s.modPeer a f).lif = s.lif := rfl
@[simp] theorem modPeer_cdir (a : Nat) (f : PeerEntry → PeerEntry) : (s.modPeer a f).cdir = s.cdir := rfl
@[simp] theorem modPeer_kp (a : Nat) (f : PeerEntry → PeerEntry) : (s.modPeer a f).kp = s.kp := rfl
@[simp] theorem modPeer_cp (a : Nat) (f : PeerEntry → PeerEntry) : (s.modPeer a f).cp = s.cp := rfl
@[simp] theorem modPeer_pending (a : Nat) (f : PeerEntry → PeerEntry) : (s.modPeer a f).pending = s.pending := rfl
@[simp] theorem modPeer_rx (a : Nat) (f : PeerEntry → PeerEntry) : (s.modPeer a f).rx = s.rx := rfl

end Sys2Proof.Machine
end

