-- ==== Sys2Proof/Laws/FramePorts.lean ====
section
/-! SUPPORT. What the operations of the ports and the transmit queue leave alone: one lemma for each field of the state an operation
does not touch. -/

namespace Sys2Proof.Machine

variable (s : State)

@[simp] theorem wake_now : (s.wake).now = s.now := by
  unfold State.wake; simp
@[simp] theorem wake_sul : (s.wake).sul = s.sul := by
  unfold State.wake; simp
@[simp] theorem wake_comps : (s.wake).comps = s.comps := by
  unfold State.wake; simp
@[simp] theorem wake_doors : (s.wake).doors = s.doors := by
  unfold State.wake; simp
@[simp] theorem wake_requestSerial : (s.wake).requestSerial = s.requestSerial := by
  unfold State.wake; simp
@[simp] theorem wake_inputs : (s.wake).inputs = s.inputs := by
  unfold State.wake; simp
@[simp] theorem wake_readings : (s.wake).readings = s.readings := by
  unfold State.wake; simp
@[simp] theorem wake_ssu : (s.wake).ssu = s.ssu := by
  unfold State.wake; simp
@[simp] theorem wake_dsu : (s.wake).dsu = s.dsu := by
  unfold State.wake; simp
@[simp] theorem wake_peers : (s.wake).peers = s.peers := by
  unfold State.wake; simp
@[simp] theorem wake_lif : (s.wake).lif = s.lif := by
  unfold State.wake; simp
@[simp] theorem wake_cdir : (s.wake).cdir = s.cdir := by
  unfold State.wake; simp
@[simp] theorem wake_kp : (s.wake).kp = s.kp := by
  unfold State.wake; simp
@[simp] theorem wake_cp : (s.wake).cp = s.cp := by
  unfold State.wake; simp
@[simp] theorem wake_pending : (s.wake).pending = s.pending := by
  unfold State.wake; simp
@[simp] theorem wake_rx : (s.wake).rx = s.rx := by
  unfold State.wake; simp

@[simp] theorem drawChanged_now : (s.drawChanged).now = s.now := by
  unfold State.drawChanged; simp
@[simp] theorem drawChanged_sul : (s.drawChanged).sul = s.sul := by
  unfold State.drawChanged; simp
@[simp] theorem drawChanged_comps : (s.drawChanged).comps = s.comps := by
  unfold State.drawChanged; simp
@[simp] theorem drawChanged_doors : (s.drawChanged).doors = s.doors := by
  unfold State.drawChanged; simp
@[simp] theorem drawChanged_requestSerial : (s.drawChanged).requestSerial = s.requestSerial := by
  unfold State.drawChanged; simp
@[simp] theorem drawChanged_inputs : (s.drawChanged).inputs = s.inputs := by
  unfold State.drawChanged; simp
@[simp] theorem drawChanged_readings : (s.drawChanged).readings = s.readings := by
  unfold State.drawChanged; simp
@[simp] theorem drawChanged_ssu : (s.drawChanged).ssu = s.ssu := by
  unfold State.drawChanged; simp
@[simp] theorem drawChanged_dsu : (s.drawChanged).dsu = s.dsu := by
  unfold State.drawChanged; simp
@[simp] theorem drawChanged_peers : (s.drawChanged).peers = s.peers := by
  unfold State.drawChanged; simp
@[simp] theorem drawChanged_lif : (s.drawChanged).lif = s.lif := by
  unfold State.drawChanged; simp
@[simp] theorem drawChanged_cdir : (s.drawChanged).cdir = s.cdir := by
  unfold State.drawChanged; simp
@[simp] theorem drawChanged_kp : (s.drawChanged).kp = s.kp := by
  unfold State.drawChanged; simp
@[simp] theorem drawChanged_cp : (s.drawChanged).cp = s.cp := by
  unfold State.drawChanged; simp
@[simp] theorem drawChanged_pending : (s.drawChanged).pending = s.pending := by
  unfold State.drawChanged; simp
@[simp] theorem drawChanged_rx : (s.drawChanged).rx = s.rx := by
  unfold State.drawChanged; simp

@[simp] theorem takeDoorChange_now (c : Nat) (sd : Side) : (s.takeDoorChange c sd).now = s.now := by
  unfold State.takeDoorChange; (repeat' split) <;> simp
@[simp] theorem takeDoorChange_sul (c : Nat) (sd : Side) : (s.takeDoorChange c sd).sul = s.sul := by
  unfold State.takeDoorChange; (repeat' split) <;> simp
@[simp] theorem takeDoorChange_comps (c : Nat) (sd : Side) : (s.takeDoorChange c sd).comps = s.comps := by
  unfold State.takeDoorChange; (repeat' split) <;> simp
@[simp] theorem takeDoorChange_doors (c : Nat) (sd : Side) : (s.takeDoorChange c sd).doors = s.doors := by
  unfold State.takeDoorChange; (repeat' split) <;> simp
@[simp] theorem takeDoorChange_requestSerial (c : Nat) (sd : Side) : (s.takeDoorChange c sd).requestSerial = s.requestSerial := by
  unfold State.takeDoorChange; (repeat' split) <;> simp
@[simp] theorem takeDoorChange_readings (c : Nat) (sd : Side) : (s.takeDoorChange c sd).readings = s.readings := by
  unfold State.takeDoorChange; (repeat' split) <;> simp
@[simp] theorem takeDoorChange_ssu (c : Nat) (sd : Side) : (s.takeDoorChange c sd).ssu = s.ssu := by
  unfold State.takeDoorChange; (repeat' split) <;> simp
@[simp] theorem takeDoorChange_psc (c : Nat) (sd : Side) : (s.takeDoorChange c sd).psc = s.psc := by
  unfold State.takeDoorChange; (repeat' split) <;> simp
@[simp] theorem takeDoorChange_dsu (c : Nat) (sd : Side) : (s.takeDoorChange c sd).dsu = s.dsu := by
  unfold State.takeDoorChange; (repeat' split) <;> simp
@[simp] theorem takeDoorChange_peers (c : Nat) (sd : Side) : (s.takeDoorChange c sd).peers = s.peers := by
  unfold State.takeDoorChange; (repeat' split) <;> simp
@[simp] theorem takeDoorChange_lif (c : Nat) (sd : Side) : (s.takeDoorChange c sd).lif = s.lif := by
  unfold State.takeDoorChange; (repeat' split) <;> simp
@[simp] theorem takeDoorChange_cdir (c : Nat) (sd : Side) : (s.takeDoorChange c sd).cdir = s.cdir := by
  unfold State.takeDoorChange; (repeat' split) <;> simp
@[simp] theorem takeDoorChange_kp (c : Nat) (sd : Side) : (s.takeDoorChange c sd).kp = s.kp := by
  unfold State.takeDoorChange; (repeat' split) <;> simp
@[simp] theorem takeDoorChange_cp (c : Nat) (sd : Side) : (s.takeDoorChange c sd).cp = s.cp := by
  unfold State.takeDoorChange; (repeat' split) <;> simp
@[simp] theorem takeDoorChange_pending (c : Nat) (sd : Side) : (s.takeDoorChange c sd).pending = s.pending := by
  unfold State.takeDoorChange; (repeat' split) <;> simp
@[simp] theorem takeDoorChange_rx (c : Nat) (sd : Side) : (s.takeDoorChange c sd).rx = s.rx := by
  unfold State.takeDoorChange; (repeat' split) <;> simp

@[simp] theorem notifyKitchen_now (n : KNotice) : (s.notifyKitchen n).now = s.now := by
  unfold State.notifyKitchen; simp
@[simp] theorem notifyKitchen_sul (n : KNotice) : (s.notifyKitchen n).sul = s.sul := by
  unfold State.notifyKitchen; simp
@[simp] theorem notifyKitchen_comps (n : KNotice) : (s.notifyKitchen n).comps = s.comps := by
  unfold State.notifyKitchen; simp
@[simp] theorem notifyKitchen_doors (n : KNotice) : (s.notifyKitchen n).doors = s.doors := by
  unfold State.notifyKitchen; simp
@[simp] theorem notifyKitchen_requestSerial (n : KNotice) : (s.notifyKitchen n).requestSerial = s.requestSerial := by
  unfold State.notifyKitchen; simp
@[simp] theorem notifyKitchen_inputs (n : KNotice) : (s.notifyKitchen n).inputs = s.inputs := by
  unfold State.notifyKitchen; simp
@[simp] theorem notifyKitchen_readings (n : KNotice) : (s.notifyKitchen n).readings = s.readings := by
  unfold State.notifyKitchen; simp
@[simp] theorem notifyKitchen_ssu (n : KNotice) : (s.notifyKitchen n).ssu = s.ssu := by
  unfold State.notifyKitchen; simp
@[simp] theorem notifyKitchen_psc (n : KNotice) : (s.notifyKitchen n).psc = s.psc := by
  unfold State.notifyKitchen; simp
@[simp] theorem notifyKitchen_dsu (n : KNotice) : (s.notifyKitchen n).dsu = s.dsu := by
  unfold State.notifyKitchen; simp
@[simp] theorem notifyKitchen_peers (n : KNotice) : (s.notifyKitchen n).peers = s.peers := by
  unfold State.notifyKitchen; simp
@[simp] theorem notifyKitchen_lif (n : KNotice) : (s.notifyKitchen n).lif = s.lif := by
  unfold State.notifyKitchen; simp
@[simp] theorem notifyKitchen_cdir (n : KNotice) : (s.notifyKitchen n).cdir = s.cdir := by
  unfold State.notifyKitchen; simp
@[simp] theorem notifyKitchen_cp (n : KNotice) : (s.notifyKitchen n).cp = s.cp := by
  unfold State.notifyKitchen; simp
@[simp] theorem notifyKitchen_pending (n : KNotice) : (s.notifyKitchen n).pending = s.pending := by
  unfold State.notifyKitchen; simp
@[simp] theorem notifyKitchen_rx (n : KNotice) : (s.notifyKitchen n).rx = s.rx := by
  unfold State.notifyKitchen; simp

@[simp] theorem notifyCounter_now (n : CNotice) : (s.notifyCounter n).now = s.now := by
  unfold State.notifyCounter; (repeat' split) <;> simp
@[simp] theorem notifyCounter_sul (n : CNotice) : (s.notifyCounter n).sul = s.sul := by
  unfold State.notifyCounter; (repeat' split) <;> simp
@[simp] theorem notifyCounter_comps (n : CNotice) : (s.notifyCounter n).comps = s.comps := by
  unfold State.notifyCounter; (repeat' split) <;> simp
@[simp] theorem notifyCounter_doors (n : CNotice) : (s.notifyCounter n).doors = s.doors := by
  unfold State.notifyCounter; (repeat' split) <;> simp
@[simp] theorem notifyCounter_requestSerial (n : CNotice) : (s.notifyCounter n).requestSerial = s.requestSerial := by
  unfold State.notifyCounter; (repeat' split) <;> simp
@[simp] theorem notifyCounter_inputs (n : CNotice) : (s.notifyCounter n).inputs = s.inputs := by
  unfold State.notifyCounter; (repeat' split) <;> simp
@[simp] theorem notifyCounter_readings (n : CNotice) : (s.notifyCounter n).readings = s.readings := by
  unfold State.notifyCounter; (repeat' split) <;> simp
@[simp] theorem notifyCounter_ssu (n : CNotice) : (s.notifyCounter n).ssu = s.ssu := by
  unfold State.notifyCounter; (repeat' split) <;> simp
@[simp] theorem notifyCounter_psc (n : CNotice) : (s.notifyCounter n).psc = s.psc := by
  unfold State.notifyCounter; (repeat' split) <;> simp
@[simp] theorem notifyCounter_dsu (n : CNotice) : (s.notifyCounter n).dsu = s.dsu := by
  unfold State.notifyCounter; (repeat' split) <;> simp
@[simp] theorem notifyCounter_peers (n : CNotice) : (s.notifyCounter n).peers = s.peers := by
  unfold State.notifyCounter; (repeat' split) <;> simp
@[simp] theorem notifyCounter_lif (n : CNotice) : (s.notifyCounter n).lif = s.lif := by
  unfold State.notifyCounter; (repeat' split) <;> simp
@[simp] theorem notifyCounter_cdir (n : CNotice) : (s.notifyCounter n).cdir = s.cdir := by
  unfold State.notifyCounter; (repeat' split) <;> simp
@[simp] theorem notifyCounter_pending (n : CNotice) : (s.notifyCounter n).pending = s.pending := by
  unfold State.notifyCounter; (repeat' split) <;> simp
@[simp] theorem notifyCounter_rx (n : CNotice) : (s.notifyCounter n).rx = s.rx := by
  unfold State.notifyCounter; (repeat' split) <;> simp

@[simp] theorem replyKitchen_now (r : KReply) : (s.replyKitchen r).now = s.now := by
  unfold State.replyKitchen; simp
@[simp] theorem replyKitchen_sul (r : KReply) : (s.replyKitchen r).sul = s.sul := by
  unfold State.replyKitchen; simp
@[simp] theorem replyKitchen_comps (r : KReply) : (s.replyKitchen r).comps = s.comps := by
  unfold State.replyKitchen; simp
@[simp] theorem replyKitchen_doors (r : KReply) : (s.replyKitchen r).doors = s.doors := by
  unfold State.replyKitchen; simp
@[simp] theorem replyKitchen_requestSerial (r : KReply) : (s.replyKitchen r).requestSerial = s.requestSerial := by
  unfold State.replyKitchen; simp
@[simp] theorem replyKitchen_inputs (r : KReply) : (s.replyKitchen r).inputs = s.inputs := by
  unfold State.replyKitchen; simp
@[simp] theorem replyKitchen_readings (r : KReply) : (s.replyKitchen r).readings = s.readings := by
  unfold State.replyKitchen; simp
@[simp] theorem replyKitchen_ssu (r : KReply) : (s.replyKitchen r).ssu = s.ssu := by
  unfold State.replyKitchen; simp
@[simp] theorem replyKitchen_psc (r : KReply) : (s.replyKitchen r).psc = s.psc := by
  unfold State.replyKitchen; simp
@[simp] theorem replyKitchen_dsu (r : KReply) : (s.replyKitchen r).dsu = s.dsu := by
  unfold State.replyKitchen; simp
@[simp] theorem replyKitchen_peers (r : KReply) : (s.replyKitchen r).peers = s.peers := by
  unfold State.replyKitchen; simp
@[simp] theorem replyKitchen_lif (r : KReply) : (s.replyKitchen r).lif = s.lif := by
  unfold State.replyKitchen; simp
@[simp] theorem replyKitchen_cdir (r : KReply) : (s.replyKitchen r).cdir = s.cdir := by
  unfold State.replyKitchen; simp
@[simp] theorem replyKitchen_cp (r : KReply) : (s.replyKitchen r).cp = s.cp := by
  unfold State.replyKitchen; simp
@[simp] theorem replyKitchen_pending (r : KReply) : (s.replyKitchen r).pending = s.pending := by
  unfold State.replyKitchen; simp
@[simp] theorem replyKitchen_rx (r : KReply) : (s.replyKitchen r).rx = s.rx := by
  unfold State.replyKitchen; simp

@[simp] theorem outcomeKitchen_now (o : KOutcome) (c a : Option Nat) : (s.outcomeKitchen o c a).now = s.now := by
  unfold State.outcomeKitchen; simp
@[simp] theorem outcomeKitchen_sul (o : KOutcome) (c a : Option Nat) : (s.outcomeKitchen o c a).sul = s.sul := by
  unfold State.outcomeKitchen; simp
@[simp] theorem outcomeKitchen_comps (o : KOutcome) (c a : Option Nat) : (s.outcomeKitchen o c a).comps = s.comps := by
  unfold State.outcomeKitchen; simp
@[simp] theorem outcomeKitchen_doors (o : KOutcome) (c a : Option Nat) : (s.outcomeKitchen o c a).doors = s.doors := by
  unfold State.outcomeKitchen; simp
@[simp] theorem outcomeKitchen_requestSerial (o : KOutcome) (c a : Option Nat) : (s.outcomeKitchen o c a).requestSerial = s.requestSerial := by
  unfold State.outcomeKitchen; simp
@[simp] theorem outcomeKitchen_inputs (o : KOutcome) (c a : Option Nat) : (s.outcomeKitchen o c a).inputs = s.inputs := by
  unfold State.outcomeKitchen; simp
@[simp] theorem outcomeKitchen_readings (o : KOutcome) (c a : Option Nat) : (s.outcomeKitchen o c a).readings = s.readings := by
  unfold State.outcomeKitchen; simp
@[simp] theorem outcomeKitchen_ssu (o : KOutcome) (c a : Option Nat) : (s.outcomeKitchen o c a).ssu = s.ssu := by
  unfold State.outcomeKitchen; simp
@[simp] theorem outcomeKitchen_psc (o : KOutcome) (c a : Option Nat) : (s.outcomeKitchen o c a).psc = s.psc := by
  unfold State.outcomeKitchen; simp
@[simp] theorem outcomeKitchen_dsu (o : KOutcome) (c a : Option Nat) : (s.outcomeKitchen o c a).dsu = s.dsu := by
  unfold State.outcomeKitchen; simp
@[simp] theorem outcomeKitchen_peers (o : KOutcome) (c a : Option Nat) : (s.outcomeKitchen o c a).peers = s.peers := by
  unfold State.outcomeKitchen; simp
@[simp] theorem outcomeKitchen_lif (o : KOutcome) (c a : Option Nat) : (s.outcomeKitchen o c a).lif = s.lif := by
  unfold State.outcomeKitchen; simp
@[simp] theorem outcomeKitchen_cdir (o : KOutcome) (c a : Option Nat) : (s.outcomeKitchen o c a).cdir = s.cdir := by
  unfold State.outcomeKitchen; simp
@[simp] theorem outcomeKitchen_cp (o : KOutcome) (c a : Option Nat) : (s.outcomeKitchen o c a).cp = s.cp := by
  unfold State.outcomeKitchen; simp
@[simp] theorem outcomeKitchen_pending (o : KOutcome) (c a : Option Nat) : (s.outcomeKitchen o c a).pending = s.pending := by
  unfold State.outcomeKitchen; simp
@[simp] theorem outcomeKitchen_rx (o : KOutcome) (c a : Option Nat) : (s.outcomeKitchen o c a).rx = s.rx := by
  unfold State.outcomeKitchen; simp

@[simp] theorem replyCounter_now (o : COutcome) (a : Option Nat) : (s.replyCounter o a).now = s.now := by
  unfold State.replyCounter; simp
@[simp] theorem replyCounter_sul (o : COutcome) (a : Option Nat) : (s.replyCounter o a).sul = s.sul := by
  unfold State.replyCounter; simp
@[simp] theorem replyCounter_comps (o : COutcome) (a : Option Nat) : (s.replyCounter o a).comps = s.comps := by
  unfold State.replyCounter; simp
@[simp] theorem replyCounter_doors (o : COutcome) (a : Option Nat) : (s.replyCounter o a).doors = s.doors := by
  unfold State.replyCounter; simp
@[simp] theorem replyCounter_requestSerial (o : COutcome) (a : Option Nat) : (s.replyCounter o a).requestSerial = s.requestSerial := by
  unfold State.replyCounter; simp
@[simp] theorem replyCounter_inputs (o : COutcome) (a : Option Nat) : (s.replyCounter o a).inputs = s.inputs := by
  unfold State.replyCounter; simp
@[simp] theorem replyCounter_readings (o : COutcome) (a : Option Nat) : (s.replyCounter o a).readings = s.readings := by
  unfold State.replyCounter; simp
@[simp] theorem replyCounter_ssu (o : COutcome) (a : Option Nat) : (s.replyCounter o a).ssu = s.ssu := by
  unfold State.replyCounter; simp
@[simp] theorem replyCounter_psc (o : COutcome) (a : Option Nat) : (s.replyCounter o a).psc = s.psc := by
  unfold State.replyCounter; simp
@[simp] theorem replyCounter_dsu (o : COutcome) (a : Option Nat) : (s.replyCounter o a).dsu = s.dsu := by
  unfold State.replyCounter; simp
@[simp] theorem replyCounter_peers (o : COutcome) (a : Option Nat) : (s.replyCounter o a).peers = s.peers := by
  unfold State.replyCounter; simp
@[simp] theorem replyCounter_lif (o : COutcome) (a : Option Nat) : (s.replyCounter o a).lif = s.lif := by
  unfold State.replyCounter; simp
@[simp] theorem replyCounter_cdir (o : COutcome) (a : Option Nat) : (s.replyCounter o a).cdir = s.cdir := by
  unfold State.replyCounter; simp
@[simp] theorem replyCounter_kp (o : COutcome) (a : Option Nat) : (s.replyCounter o a).kp = s.kp := by
  unfold State.replyCounter; simp
@[simp] theorem replyCounter_pending (o : COutcome) (a : Option Nat) : (s.replyCounter o a).pending = s.pending := by
  unfold State.replyCounter; simp
@[simp] theorem replyCounter_rx (o : COutcome) (a : Option Nat) : (s.replyCounter o a).rx = s.rx := by
  unfold State.replyCounter; simp

@[simp] theorem busyKitchen_now (k : Nat) : (s.busyKitchen k).now = s.now := by
  unfold State.busyKitchen; simp
@[simp] theorem busyKitchen_sul (k : Nat) : (s.busyKitchen k).sul = s.sul := by
  unfold State.busyKitchen; simp
@[simp] theorem busyKitchen_comps (k : Nat) : (s.busyKitchen k).comps = s.comps := by
  unfold State.busyKitchen; simp
@[simp] theorem busyKitchen_doors (k : Nat) : (s.busyKitchen k).doors = s.doors := by
  unfold State.busyKitchen; simp
@[simp] theorem busyKitchen_requestSerial (k : Nat) : (s.busyKitchen k).requestSerial = s.requestSerial := by
  unfold State.busyKitchen; simp
@[simp] theorem busyKitchen_inputs (k : Nat) : (s.busyKitchen k).inputs = s.inputs := by
  unfold State.busyKitchen; simp
@[simp] theorem busyKitchen_readings (k : Nat) : (s.busyKitchen k).readings = s.readings := by
  unfold State.busyKitchen; simp
@[simp] theorem busyKitchen_ssu (k : Nat) : (s.busyKitchen k).ssu = s.ssu := by
  unfold State.busyKitchen; simp
@[simp] theorem busyKitchen_psc (k : Nat) : (s.busyKitchen k).psc = s.psc := by
  unfold State.busyKitchen; simp
@[simp] theorem busyKitchen_dsu (k : Nat) : (s.busyKitchen k).dsu = s.dsu := by
  unfold State.busyKitchen; simp
@[simp] theorem busyKitchen_peers (k : Nat) : (s.busyKitchen k).peers = s.peers := by
  unfold State.busyKitchen; simp
@[simp] theorem busyKitchen_lif (k : Nat) : (s.busyKitchen k).lif = s.lif := by
  unfold State.busyKitchen; simp
@[simp] theorem busyKitchen_cdir (k : Nat) : (s.busyKitchen k).cdir = s.cdir := by
  unfold State.busyKitchen; simp
@[simp] theorem busyKitchen_cp (k : Nat) : (s.busyKitchen k).cp = s.cp := by
  unfold State.busyKitchen; simp
@[simp] theorem busyKitchen_pending (k : Nat) : (s.busyKitchen k).pending = s.pending := by
  unfold State.busyKitchen; simp
@[simp] theorem busyKitchen_rx (k : Nat) : (s.busyKitchen k).rx = s.rx := by
  unfold State.busyKitchen; simp

@[simp] theorem busyCounter_now (k : Nat) : (s.busyCounter k).now = s.now := by
  unfold State.busyCounter; simp
@[simp] theorem busyCounter_sul (k : Nat) : (s.busyCounter k).sul = s.sul := by
  unfold State.busyCounter; simp
@[simp] theorem busyCounter_comps (k : Nat) : (s.busyCounter k).comps = s.comps := by
  unfold State.busyCounter; simp
@[simp] theorem busyCounter_doors (k : Nat) : (s.busyCounter k).doors = s.doors := by
  unfold State.busyCounter; simp
@[simp] theorem busyCounter_requestSerial (k : Nat) : (s.busyCounter k).requestSerial = s.requestSerial := by
  unfold State.busyCounter; simp
@[simp] theorem busyCounter_inputs (k : Nat) : (s.busyCounter k).inputs = s.inputs := by
  unfold State.busyCounter; simp
@[simp] theorem busyCounter_readings (k : Nat) : (s.busyCounter k).readings = s.readings := by
  unfold State.busyCounter; simp
@[simp] theorem busyCounter_ssu (k : Nat) : (s.busyCounter k).ssu = s.ssu := by
  unfold State.busyCounter; simp
@[simp] theorem busyCounter_psc (k : Nat) : (s.busyCounter k).psc = s.psc := by
  unfold State.busyCounter; simp
@[simp] theorem busyCounter_dsu (k : Nat) : (s.busyCounter k).dsu = s.dsu := by
  unfold State.busyCounter; simp
@[simp] theorem busyCounter_peers (k : Nat) : (s.busyCounter k).peers = s.peers := by
  unfold State.busyCounter; simp
@[simp] theorem busyCounter_lif (k : Nat) : (s.busyCounter k).lif = s.lif := by
  unfold State.busyCounter; simp
@[simp] theorem busyCounter_cdir (k : Nat) : (s.busyCounter k).cdir = s.cdir := by
  unfold State.busyCounter; simp
@[simp] theorem busyCounter_kp (k : Nat) : (s.busyCounter k).kp = s.kp := by
  unfold State.busyCounter; simp
@[simp] theorem busyCounter_pending (k : Nat) : (s.busyCounter k).pending = s.pending := by
  unfold State.busyCounter; simp
@[simp] theorem busyCounter_rx (k : Nat) : (s.busyCounter k).rx = s.rx := by
  unfold State.busyCounter; simp

@[simp] theorem pump_now : (s.pump).now = s.now := by
  unfold State.pump; simp
@[simp] theorem pump_sul : (s.pump).sul = s.sul := by
  unfold State.pump; simp
@[simp] theorem pump_comps : (s.pump).comps = s.comps := by
  unfold State.pump; simp
@[simp] theorem pump_doors : (s.pump).doors = s.doors := by
  unfold State.pump; simp
@[simp] theorem pump_requestSerial : (s.pump).requestSerial = s.requestSerial := by
  unfold State.pump; simp
@[simp] theorem pump_inputs : (s.pump).inputs = s.inputs := by
  unfold State.pump; simp
@[simp] theorem pump_readings : (s.pump).readings = s.readings := by
  unfold State.pump; simp
@[simp] theorem pump_ssu : (s.pump).ssu = s.ssu := by
  unfold State.pump; simp
@[simp] theorem pump_psc : (s.pump).psc = s.psc := by
  unfold State.pump; simp
@[simp] theorem pump_dsu : (s.pump).dsu = s.dsu := by
  unfold State.pump; simp
@[simp] theorem pump_peers : (s.pump).peers = s.peers := by
  unfold State.pump; simp
@[simp] theorem pump_lif : (s.pump).lif = s.lif := by
  unfold State.pump; simp
@[simp] theorem pump_cdir : (s.pump).cdir = s.cdir := by
  unfold State.pump; simp
@[simp] theorem pump_pending : (s.pump).pending = s.pending := by
  unfold State.pump; simp
@[simp] theorem pump_rx : (s.pump).rx = s.rx := by
  unfold State.pump; simp

@[simp] theorem clearKitchenPartial_now : (s.clearKitchenPartial).now = s.now := by
  unfold State.clearKitchenPartial; simp
@[simp] theorem clearKitchenPartial_sul : (s.clearKitchenPartial).sul = s.sul := by
  unfold State.clearKitchenPartial; simp
@[simp] theorem clearKitchenPartial_comps : (s.clearKitchenPartial).comps = s.comps := by
  unfold State.clearKitchenPartial; simp
@[simp] theorem clearKitchenPartial_doors : (s.clearKitchenPartial).doors = s.doors := by
  unfold State.clearKitchenPartial; simp
@[simp] theorem clearKitchenPartial_requestSerial : (s.clearKitchenPartial).requestSerial = s.requestSerial := by
  unfold State.clearKitchenPartial; simp
@[simp] theorem clearKitchenPartial_inputs : (s.clearKitchenPartial).inputs = s.inputs := by
  unfold State.clearKitchenPartial; simp
@[simp] theorem clearKitchenPartial_readings : (s.clearKitchenPartial).readings = s.readings := by
  unfold State.clearKitchenPartial; simp
@[simp] theorem clearKitchenPartial_ssu : (s.clearKitchenPartial).ssu = s.ssu := by
  unfold State.clearKitchenPartial; simp
@[simp] theorem clearKitchenPartial_psc : (s.clearKitchenPartial).psc = s.psc := by
  unfold State.clearKitchenPartial; simp
@[simp] theorem clearKitchenPartial_dsu : (s.clearKitchenPartial).dsu = s.dsu := by
  unfold State.clearKitchenPartial; simp
@[simp] theorem clearKitchenPartial_peers : (s.clearKitchenPartial).peers = s.peers := by
  unfold State.clearKitchenPartial; simp
@[simp] theorem clearKitchenPartial_lif : (s.clearKitchenPartial).lif = s.lif := by
  unfold State.clearKitchenPartial; simp
@[simp] theorem clearKitchenPartial_cdir : (s.clearKitchenPartial).cdir = s.cdir := by
  unfold State.clearKitchenPartial; simp
@[simp] theorem clearKitchenPartial_cp : (s.clearKitchenPartial).cp = s.cp := by
  unfold State.clearKitchenPartial; simp
@[simp] theorem clearKitchenPartial_pending : (s.clearKitchenPartial).pending = s.pending := by
  unfold State.clearKitchenPartial; simp
@[simp] theorem clearKitchenPartial_rx : (s.clearKitchenPartial).rx = s.rx := by
  unfold State.clearKitchenPartial; simp

@[simp] theorem clearCounterPartial_now : (s.clearCounterPartial).now = s.now := by
  unfold State.clearCounterPartial; simp
@[simp] theorem clearCounterPartial_sul : (s.clearCounterPartial).sul = s.sul := by
  unfold State.clearCounterPartial; simp
@[simp] theorem clearCounterPartial_comps : (s.clearCounterPartial).comps = s.comps := by
  unfold State.clearCounterPartial; simp
@[simp] theorem clearCounterPartial_doors : (s.clearCounterPartial).doors = s.doors := by
  unfold State.clearCounterPartial; simp
@[simp] theorem clearCounterPartial_requestSerial : (s.clearCounterPartial).requestSerial = s.requestSerial := by
  unfold State.clearCounterPartial; simp
@[simp] theorem clearCounterPartial_inputs : (s.clearCounterPartial).inputs = s.inputs := by
  unfold State.clearCounterPartial; simp
@[simp] theorem clearCounterPartial_readings : (s.clearCounterPartial).readings = s.readings := by
  unfold State.clearCounterPartial; simp
@[simp] theorem clearCounterPartial_ssu : (s.clearCounterPartial).ssu = s.ssu := by
  unfold State.clearCounterPartial; simp
@[simp] theorem clearCounterPartial_psc : (s.clearCounterPartial).psc = s.psc := by
  unfold State.clearCounterPartial; simp
@[simp] theorem clearCounterPartial_dsu : (s.clearCounterPartial).dsu = s.dsu := by
  unfold State.clearCounterPartial; simp
@[simp] theorem clearCounterPartial_peers : (s.clearCounterPartial).peers = s.peers := by
  unfold State.clearCounterPartial; simp
@[simp] theorem clearCounterPartial_lif : (s.clearCounterPartial).lif = s.lif := by
  unfold State.clearCounterPartial; simp
@[simp] theorem clearCounterPartial_cdir : (s.clearCounterPartial).cdir = s.cdir := by
  unfold State.clearCounterPartial; simp
@[simp] theorem clearCounterPartial_kp : (s.clearCounterPartial).kp = s.kp := by
  unfold State.clearCounterPartial; simp
@[simp] theorem clearCounterPartial_pending : (s.clearCounterPartial).pending = s.pending := by
  unfold State.clearCounterPartial; simp
@[simp] theorem clearCounterPartial_rx : (s.clearCounterPartial).rx = s.rx := by
  unfold State.clearCounterPartial; simp

@[simp] theorem queueDraw_now : (s.queueDraw).now = s.now := by
  unfold State.queueDraw; (repeat' split) <;> simp
@[simp] theorem queueDraw_sul : (s.queueDraw).sul = s.sul := by
  unfold State.queueDraw; (repeat' split) <;> simp
@[simp] theorem queueDraw_comps : (s.queueDraw).comps = s.comps := by
  unfold State.queueDraw; (repeat' split) <;> simp
@[simp] theorem queueDraw_doors : (s.queueDraw).doors = s.doors := by
  unfold State.queueDraw; (repeat' split) <;> simp
@[simp] theorem queueDraw_requestSerial : (s.queueDraw).requestSerial = s.requestSerial := by
  unfold State.queueDraw; (repeat' split) <;> simp
@[simp] theorem queueDraw_inputs : (s.queueDraw).inputs = s.inputs := by
  unfold State.queueDraw; (repeat' split) <;> simp
@[simp] theorem queueDraw_readings : (s.queueDraw).readings = s.readings := by
  unfold State.queueDraw; (repeat' split) <;> simp
@[simp] theorem queueDraw_ssu : (s.queueDraw).ssu = s.ssu := by
  unfold State.queueDraw; (repeat' split) <;> simp
@[simp] theorem queueDraw_psc : (s.queueDraw).psc = s.psc := by
  unfold State.queueDraw; (repeat' split) <;> simp
@[simp] theorem queueDraw_dsu : (s.queueDraw).dsu = s.dsu := by
  unfold State.queueDraw; (repeat' split) <;> simp
@[simp] theorem queueDraw_peers : (s.queueDraw).peers = s.peers := by
  unfold State.queueDraw; (repeat' split) <;> simp
@[simp] theorem queueDraw_cdir : (s.queueDraw).cdir = s.cdir := by
  unfold State.queueDraw; (repeat' split) <;> simp
@[simp] theorem queueDraw_kp : (s.queueDraw).kp = s.kp := by
  unfold State.queueDraw; (repeat' split) <;> simp
@[simp] theorem queueDraw_cp : (s.queueDraw).cp = s.cp := by
  unfold State.queueDraw; (repeat' split) <;> simp
@[simp] theorem queueDraw_pending : (s.queueDraw).pending = s.pending := by
  unfold State.queueDraw; (repeat' split) <;> simp
@[simp] theorem queueDraw_rx : (s.queueDraw).rx = s.rx := by
  unfold State.queueDraw; (repeat' split) <;> simp

@[simp] theorem queueFinalDraw_now : (s.queueFinalDraw).now = s.now := by
  unfold State.queueFinalDraw; simp
@[simp] theorem queueFinalDraw_sul : (s.queueFinalDraw).sul = s.sul := by
  unfold State.queueFinalDraw; simp
@[simp] theorem queueFinalDraw_comps : (s.queueFinalDraw).comps = s.comps := by
  unfold State.queueFinalDraw; simp
@[simp] theorem queueFinalDraw_doors : (s.queueFinalDraw).doors = s.doors := by
  unfold State.queueFinalDraw; simp
@[simp] theorem queueFinalDraw_requestSerial : (s.queueFinalDraw).requestSerial = s.requestSerial := by
  unfold State.queueFinalDraw; simp
@[simp] theorem queueFinalDraw_inputs : (s.queueFinalDraw).inputs = s.inputs := by
  unfold State.queueFinalDraw; simp
@[simp] theorem queueFinalDraw_readings : (s.queueFinalDraw).readings = s.readings := by
  unfold State.queueFinalDraw; simp
@[simp] theorem queueFinalDraw_ssu : (s.queueFinalDraw).ssu = s.ssu := by
  unfold State.queueFinalDraw; simp
@[simp] theorem queueFinalDraw_psc : (s.queueFinalDraw).psc = s.psc := by
  unfold State.queueFinalDraw; simp
@[simp] theorem queueFinalDraw_dsu : (s.queueFinalDraw).dsu = s.dsu := by
  unfold State.queueFinalDraw; simp
@[simp] theorem queueFinalDraw_peers : (s.queueFinalDraw).peers = s.peers := by
  unfold State.queueFinalDraw; simp
@[simp] theorem queueFinalDraw_cdir : (s.queueFinalDraw).cdir = s.cdir := by
  unfold State.queueFinalDraw; simp
@[simp] theorem queueFinalDraw_kp : (s.queueFinalDraw).kp = s.kp := by
  unfold State.queueFinalDraw; simp
@[simp] theorem queueFinalDraw_cp : (s.queueFinalDraw).cp = s.cp := by
  unfold State.queueFinalDraw; simp
@[simp] theorem queueFinalDraw_pending : (s.queueFinalDraw).pending = s.pending := by
  unfold State.queueFinalDraw; simp
@[simp] theorem queueFinalDraw_rx : (s.queueFinalDraw).rx = s.rx := by
  unfold State.queueFinalDraw; simp

@[simp] theorem queueClaim_now (a m q : Nat) : (s.queueClaim a m q).now = s.now := by
  unfold State.queueClaim; (repeat' split) <;> simp
@[simp] theorem queueClaim_sul (a m q : Nat) : (s.queueClaim a m q).sul = s.sul := by
  unfold State.queueClaim; (repeat' split) <;> simp
@[simp] theorem queueClaim_comps (a m q : Nat) : (s.queueClaim a m q).comps = s.comps := by
  unfold State.queueClaim; (repeat' split) <;> simp
@[simp] theorem queueClaim_doors (a m q : Nat) : (s.queueClaim a m q).doors = s.doors := by
  unfold State.queueClaim; (repeat' split) <;> simp
@[simp] theorem queueClaim_requestSerial (a m q : Nat) : (s.queueClaim a m q).requestSerial = s.requestSerial := by
  unfold State.queueClaim; (repeat' split) <;> simp
@[simp] theorem queueClaim_inputs (a m q : Nat) : (s.queueClaim a m q).inputs = s.inputs := by
  unfold State.queueClaim; (repeat' split) <;> simp
@[simp] theorem queueClaim_readings (a m q : Nat) : (s.queueClaim a m q).readings = s.readings := by
  unfold State.queueClaim; (repeat' split) <;> simp
@[simp] theorem queueClaim_ssu (a m q : Nat) : (s.queueClaim a m q).ssu = s.ssu := by
  unfold State.queueClaim; (repeat' split) <;> simp
@[simp] theorem queueClaim_psc (a m q : Nat) : (s.queueClaim a m q).psc = s.psc := by
  unfold State.queueClaim; (repeat' split) <;> simp
@[simp] theorem queueClaim_dsu (a m q : Nat) : (s.queueClaim a m q).dsu = s.dsu := by
  unfold State.queueClaim; (repeat' split) <;> simp
@[simp] theorem queueClaim_peers (a m q : Nat) : (s.queueClaim a m q).peers = s.peers := by
  unfold State.queueClaim; (repeat' split) <;> simp
@[simp] theorem queueClaim_cdir (a m q : Nat) : (s.queueClaim a m q).cdir = s.cdir := by
  unfold State.queueClaim; (repeat' split) <;> simp
@[simp] theorem queueClaim_kp (a m q : Nat) : (s.queueClaim a m q).kp = s.kp := by
  unfold State.queueClaim; (repeat' split) <;> simp
@[simp] theorem queueClaim_cp (a m q : Nat) : (s.queueClaim a m q).cp = s.cp := by
  unfold State.queueClaim; (repeat' split) <;> simp
@[simp] theorem queueClaim_pending (a m q : Nat) : (s.queueClaim a m q).pending = s.pending := by
  unfold State.queueClaim; (repeat' split) <;> simp
@[simp] theorem queueClaim_rx (a m q : Nat) : (s.queueClaim a m q).rx = s.rx := by
  unfold State.queueClaim; (repeat' split) <;> simp

@[simp] theorem queueNote_now (f : Frame) : (s.queueNote f).now = s.now := by
  unfold State.queueNote; (repeat' split) <;> simp
@[simp] theorem queueNote_sul (f : Frame) : (s.queueNote f).sul = s.sul := by
  unfold State.queueNote; (repeat' split) <;> simp
@[simp] theorem queueNote_comps (f : Frame) : (s.queueNote f).comps = s.comps := by
  unfold State.queueNote; (repeat' split) <;> simp
@[simp] theorem queueNote_doors (f : Frame) : (s.queueNote f).doors = s.doors := by
  unfold State.queueNote; (repeat' split) <;> simp
@[simp] theorem queueNote_requestSerial (f : Frame) : (s.queueNote f).requestSerial = s.requestSerial := by
  unfold State.queueNote; (repeat' split) <;> simp
@[simp] theorem queueNote_inputs (f : Frame) : (s.queueNote f).inputs = s.inputs := by
  unfold State.queueNote; (repeat' split) <;> simp
@[simp] theorem queueNote_readings (f : Frame) : (s.queueNote f).readings = s.readings := by
  unfold State.queueNote; (repeat' split) <;> simp
@[simp] theorem queueNote_ssu (f : Frame) : (s.queueNote f).ssu = s.ssu := by
  unfold State.queueNote; (repeat' split) <;> simp
@[simp] theorem queueNote_psc (f : Frame) : (s.queueNote f).psc = s.psc := by
  unfold State.queueNote; (repeat' split) <;> simp
@[simp] theorem queueNote_dsu (f : Frame) : (s.queueNote f).dsu = s.dsu := by
  unfold State.queueNote; (repeat' split) <;> simp
@[simp] theorem queueNote_peers (f : Frame) : (s.queueNote f).peers = s.peers := by
  unfold State.queueNote; (repeat' split) <;> simp
@[simp] theorem queueNote_cdir (f : Frame) : (s.queueNote f).cdir = s.cdir := by
  unfold State.queueNote; (repeat' split) <;> simp
@[simp] theorem queueNote_kp (f : Frame) : (s.queueNote f).kp = s.kp := by
  unfold State.queueNote; (repeat' split) <;> simp
@[simp] theorem queueNote_cp (f : Frame) : (s.queueNote f).cp = s.cp := by
  unfold State.queueNote; (repeat' split) <;> simp
@[simp] theorem queueNote_pending (f : Frame) : (s.queueNote f).pending = s.pending := by
  unfold State.queueNote; (repeat' split) <;> simp
@[simp] theorem queueNote_rx (f : Frame) : (s.queueNote f).rx = s.rx := by
  unfold State.queueNote; (repeat' split) <;> simp

@[simp] theorem queueHelloAnswer_now : (s.queueHelloAnswer).now = s.now := by
  unfold State.queueHelloAnswer; (repeat' split) <;> simp
@[simp] theorem queueHelloAnswer_sul : (s.queueHelloAnswer).sul = s.sul := by
  unfold State.queueHelloAnswer; (repeat' split) <;> simp
@[simp] theorem queueHelloAnswer_comps : (s.queueHelloAnswer).comps = s.comps := by
  unfold State.queueHelloAnswer; (repeat' split) <;> simp
@[simp] theorem queueHelloAnswer_doors : (s.queueHelloAnswer).doors = s.doors := by
  unfold State.queueHelloAnswer; (repeat' split) <;> simp
@[simp] theorem queueHelloAnswer_requestSerial : (s.queueHelloAnswer).requestSerial = s.requestSerial := by
  unfold State.queueHelloAnswer; (repeat' split) <;> simp
@[simp] theorem queueHelloAnswer_inputs : (s.queueHelloAnswer).inputs = s.inputs := by
  unfold State.queueHelloAnswer; (repeat' split) <;> simp
@[simp] theorem queueHelloAnswer_readings : (s.queueHelloAnswer).readings = s.readings := by
  unfold State.queueHelloAnswer; (repeat' split) <;> simp
@[simp] theorem queueHelloAnswer_ssu : (s.queueHelloAnswer).ssu = s.ssu := by
  unfold State.queueHelloAnswer; (repeat' split) <;> simp
@[simp] theorem queueHelloAnswer_psc : (s.queueHelloAnswer).psc = s.psc := by
  unfold State.queueHelloAnswer; (repeat' split) <;> simp
@[simp] theorem queueHelloAnswer_dsu : (s.queueHelloAnswer).dsu = s.dsu := by
  unfold State.queueHelloAnswer; (repeat' split) <;> simp
@[simp] theorem queueHelloAnswer_peers : (s.queueHelloAnswer).peers = s.peers := by
  unfold State.queueHelloAnswer; (repeat' split) <;> simp
@[simp] theorem queueHelloAnswer_cdir : (s.queueHelloAnswer).cdir = s.cdir := by
  unfold State.queueHelloAnswer; (repeat' split) <;> simp
@[simp] theorem queueHelloAnswer_kp : (s.queueHelloAnswer).kp = s.kp := by
  unfold State.queueHelloAnswer; (repeat' split) <;> simp
@[simp] theorem queueHelloAnswer_cp : (s.queueHelloAnswer).cp = s.cp := by
  unfold State.queueHelloAnswer; (repeat' split) <;> simp
@[simp] theorem queueHelloAnswer_pending : (s.queueHelloAnswer).pending = s.pending := by
  unfold State.queueHelloAnswer; (repeat' split) <;> simp
@[simp] theorem queueHelloAnswer_rx : (s.queueHelloAnswer).rx = s.rx := by
  unfold State.queueHelloAnswer; (repeat' split) <;> simp

@[simp] theorem startAttempt_now : (s.startAttempt).now = s.now := by
  unfold State.startAttempt; (repeat' split) <;> simp
@[simp] theorem startAttempt_sul : (s.startAttempt).sul = s.sul := by
  unfold State.startAttempt; (repeat' split) <;> simp
@[simp] theorem startAttempt_comps : (s.startAttempt).comps = s.comps := by
  unfold State.startAttempt; (repeat' split) <;> simp
@[simp] theorem startAttempt_doors : (s.startAttempt).doors = s.doors := by
  unfold State.startAttempt; (repeat' split) <;> simp
@[simp] theorem startAttempt_requestSerial : (s.startAttempt).requestSerial = s.requestSerial := by
  unfold State.startAttempt; (repeat' split) <;> simp
@[simp] theorem startAttempt_inputs : (s.startAttempt).inputs = s.inputs := by
  unfold State.startAttempt; (repeat' split) <;> simp
@[simp] theorem startAttempt_readings : (s.startAttempt).readings = s.readings := by
  unfold State.startAttempt; (repeat' split) <;> simp
@[simp] theorem startAttempt_ssu : (s.startAttempt).ssu = s.ssu := by
  unfold State.startAttempt; (repeat' split) <;> simp
@[simp] theorem startAttempt_psc : (s.startAttempt).psc = s.psc := by
  unfold State.startAttempt; (repeat' split) <;> simp
@[simp] theorem startAttempt_dsu : (s.startAttempt).dsu = s.dsu := by
  unfold State.startAttempt; (repeat' split) <;> simp
@[simp] theorem startAttempt_peers : (s.startAttempt).peers = s.peers := by
  unfold State.startAttempt; (repeat' split) <;> simp
@[simp] theorem startAttempt_cdir : (s.startAttempt).cdir = s.cdir := by
  unfold State.startAttempt; (repeat' split) <;> simp
@[simp] theorem startAttempt_kp : (s.startAttempt).kp = s.kp := by
  unfold State.startAttempt; (repeat' split) <;> simp
@[simp] theorem startAttempt_cp : (s.startAttempt).cp = s.cp := by
  unfold State.startAttempt; (repeat' split) <;> simp
@[simp] theorem startAttempt_pending : (s.startAttempt).pending = s.pending := by
  unfold State.startAttempt; (repeat' split) <;> simp
@[simp] theorem startAttempt_rx : (s.startAttempt).rx = s.rx := by
  unfold State.startAttempt; (repeat' split) <;> simp

@[simp] theorem clearSticky_now : (s.clearSticky).now = s.now := by
  unfold State.clearSticky; simp
@[simp] theorem clearSticky_sul : (s.clearSticky).sul = s.sul := by
  unfold State.clearSticky; simp
@[simp] theorem clearSticky_comps : (s.clearSticky).comps = s.comps := by
  unfold State.clearSticky; simp
@[simp] theorem clearSticky_doors : (s.clearSticky).doors = s.doors := by
  unfold State.clearSticky; simp
@[simp] theorem clearSticky_requestSerial : (s.clearSticky).requestSerial = s.requestSerial := by
  unfold State.clearSticky; simp
@[simp] theorem clearSticky_inputs : (s.clearSticky).inputs = s.inputs := by
  unfold State.clearSticky; simp
@[simp] theorem clearSticky_readings : (s.clearSticky).readings = s.readings := by
  unfold State.clearSticky; simp
@[simp] theorem clearSticky_psc : (s.clearSticky).psc = s.psc := by
  unfold State.clearSticky; simp
@[simp] theorem clearSticky_dsu : (s.clearSticky).dsu = s.dsu := by
  unfold State.clearSticky; simp
@[simp] theorem clearSticky_peers : (s.clearSticky).peers = s.peers := by
  unfold State.clearSticky; simp
@[simp] theorem clearSticky_cdir : (s.clearSticky).cdir = s.cdir := by
  unfold State.clearSticky; simp
@[simp] theorem clearSticky_cp : (s.clearSticky).cp = s.cp := by
  unfold State.clearSticky; simp
@[simp] theorem clearSticky_pending : (s.clearSticky).pending = s.pending := by
  unfold State.clearSticky; simp
@[simp] theorem clearSticky_rx : (s.clearSticky).rx = s.rx := by
  unfold State.clearSticky; simp

end Sys2Proof.Machine
end

