-- ==== Sys2Proof/Laws/FrameHeating.lean ====
section
/-! SUPPORT. What the operations of estimates, pulses and channels leave alone: one lemma for each field of the state an operation
does not touch. -/

namespace Sys2Proof.Machine

variable (s : State)

@[simp] theorem setEst_now (c : Nat) (e : Option Estimate) : (s.setEst c e).now = s.now := by
  unfold State.setEst; (repeat' split) <;> simp
@[simp] theorem setEst_sul (c : Nat) (e : Option Estimate) : (s.setEst c e).sul = s.sul := by
  unfold State.setEst; (repeat' split) <;> simp
@[simp] theorem setEst_doors (c : Nat) (e : Option Estimate) : (s.setEst c e).doors = s.doors := by
  unfold State.setEst; (repeat' split) <;> simp
@[simp] theorem setEst_requestSerial (c : Nat) (e : Option Estimate) : (s.setEst c e).requestSerial = s.requestSerial := by
  unfold State.setEst; (repeat' split) <;> simp
@[simp] theorem setEst_inputs (c : Nat) (e : Option Estimate) : (s.setEst c e).inputs = s.inputs := by
  unfold State.setEst; (repeat' split) <;> simp
@[simp] theorem setEst_readings (c : Nat) (e : Option Estimate) : (s.setEst c e).readings = s.readings := by
  unfold State.setEst; (repeat' split) <;> simp
@[simp] theorem setEst_ssu (c : Nat) (e : Option Estimate) : (s.setEst c e).ssu = s.ssu := by
  unfold State.setEst; (repeat' split) <;> simp
@[simp] theorem setEst_dsu (c : Nat) (e : Option Estimate) : (s.setEst c e).dsu = s.dsu := by
  unfold State.setEst; (repeat' split) <;> simp
@[simp] theorem setEst_peers (c : Nat) (e : Option Estimate) : (s.setEst c e).peers = s.peers := by
  unfold State.setEst; (repeat' split) <;> simp
@[simp] theorem setEst_lif (c : Nat) (e : Option Estimate) : (s.setEst c e).lif = s.lif := by
  unfold State.setEst; (repeat' split) <;> simp
@[simp] theorem setEst_cdir (c : Nat) (e : Option Estimate) : (s.setEst c e).cdir = s.cdir := by
  unfold State.setEst; (repeat' split) <;> simp
@[simp] theorem setEst_kp (c : Nat) (e : Option Estimate) : (s.setEst c e).kp = s.kp := by
  unfold State.setEst; (repeat' split) <;> simp
@[simp] theorem setEst_cp (c : Nat) (e : Option Estimate) : (s.setEst c e).cp = s.cp := by
  unfold State.setEst; (repeat' split) <;> simp
@[simp] theorem setEst_pending (c : Nat) (e : Option Estimate) : (s.setEst c e).pending = s.pending := by
  unfold State.setEst; (repeat' split) <;> simp
@[simp] theorem setEst_rx (c : Nat) (e : Option Estimate) : (s.setEst c e).rx = s.rx := by
  unfold State.setEst; (repeat' split) <;> simp

@[simp] theorem creditPoint_now (c : Nat) : (s.creditPoint c).now = s.now := by
  unfold State.creditPoint; (repeat' split) <;> simp
@[simp] theorem creditPoint_sul (c : Nat) : (s.creditPoint c).sul = s.sul := by
  unfold State.creditPoint; (repeat' split) <;> simp
@[simp] theorem creditPoint_doors (c : Nat) : (s.creditPoint c).doors = s.doors := by
  unfold State.creditPoint; (repeat' split) <;> simp
@[simp] theorem creditPoint_requestSerial (c : Nat) : (s.creditPoint c).requestSerial = s.requestSerial := by
  unfold State.creditPoint; (repeat' split) <;> simp
@[simp] theorem creditPoint_inputs (c : Nat) : (s.creditPoint c).inputs = s.inputs := by
  unfold State.creditPoint; (repeat' split) <;> simp
@[simp] theorem creditPoint_readings (c : Nat) : (s.creditPoint c).readings = s.readings := by
  unfold State.creditPoint; (repeat' split) <;> simp
@[simp] theorem creditPoint_ssu (c : Nat) : (s.creditPoint c).ssu = s.ssu := by
  unfold State.creditPoint; (repeat' split) <;> simp
@[simp] theorem creditPoint_dsu (c : Nat) : (s.creditPoint c).dsu = s.dsu := by
  unfold State.creditPoint; (repeat' split) <;> simp
@[simp] theorem creditPoint_peers (c : Nat) : (s.creditPoint c).peers = s.peers := by
  unfold State.creditPoint; (repeat' split) <;> simp
@[simp] theorem creditPoint_lif (c : Nat) : (s.creditPoint c).lif = s.lif := by
  unfold State.creditPoint; (repeat' split) <;> simp
@[simp] theorem creditPoint_cdir (c : Nat) : (s.creditPoint c).cdir = s.cdir := by
  unfold State.creditPoint; (repeat' split) <;> simp
@[simp] theorem creditPoint_kp (c : Nat) : (s.creditPoint c).kp = s.kp := by
  unfold State.creditPoint; (repeat' split) <;> simp
@[simp] theorem creditPoint_cp (c : Nat) : (s.creditPoint c).cp = s.cp := by
  unfold State.creditPoint; (repeat' split) <;> simp
@[simp] theorem creditPoint_pending (c : Nat) : (s.creditPoint c).pending = s.pending := by
  unfold State.creditPoint; (repeat' split) <;> simp
@[simp] theorem creditPoint_rx (c : Nat) : (s.creditPoint c).rx = s.rx := by
  unfold State.creditPoint; (repeat' split) <;> simp

@[simp] theorem release_now (c : Nat) : (s.release c).now = s.now := by
  unfold State.release; (repeat' split) <;> simp
@[simp] theorem release_sul (c : Nat) : (s.release c).sul = s.sul := by
  unfold State.release; (repeat' split) <;> simp
@[simp] theorem release_comps (c : Nat) : (s.release c).comps = s.comps := by
  unfold State.release; (repeat' split) <;> simp
@[simp] theorem release_doors (c : Nat) : (s.release c).doors = s.doors := by
  unfold State.release; (repeat' split) <;> simp
@[simp] theorem release_requestSerial (c : Nat) : (s.release c).requestSerial = s.requestSerial := by
  unfold State.release; (repeat' split) <;> simp
@[simp] theorem release_inputs (c : Nat) : (s.release c).inputs = s.inputs := by
  unfold State.release; (repeat' split) <;> simp
@[simp] theorem release_readings (c : Nat) : (s.release c).readings = s.readings := by
  unfold State.release; (repeat' split) <;> simp
@[simp] theorem release_ssu (c : Nat) : (s.release c).ssu = s.ssu := by
  unfold State.release; (repeat' split) <;> simp
@[simp] theorem release_dsu (c : Nat) : (s.release c).dsu = s.dsu := by
  unfold State.release; (repeat' split) <;> simp
@[simp] theorem release_peers (c : Nat) : (s.release c).peers = s.peers := by
  unfold State.release; (repeat' split) <;> simp
@[simp] theorem release_lif (c : Nat) : (s.release c).lif = s.lif := by
  unfold State.release; (repeat' split) <;> simp
@[simp] theorem release_cdir (c : Nat) : (s.release c).cdir = s.cdir := by
  unfold State.release; (repeat' split) <;> simp
@[simp] theorem release_kp (c : Nat) : (s.release c).kp = s.kp := by
  unfold State.release; (repeat' split) <;> simp
@[simp] theorem release_cp (c : Nat) : (s.release c).cp = s.cp := by
  unfold State.release; (repeat' split) <;> simp
@[simp] theorem release_pending (c : Nat) : (s.release c).pending = s.pending := by
  unfold State.release; (repeat' split) <;> simp
@[simp] theorem release_rx (c : Nat) : (s.release c).rx = s.rx := by
  unfold State.release; (repeat' split) <;> simp

@[simp] theorem setPulse_now (c : Nat) (p : Option Pulse) : (s.setPulse c p).now = s.now := by
  unfold State.setPulse; simp
@[simp] theorem setPulse_sul (c : Nat) (p : Option Pulse) : (s.setPulse c p).sul = s.sul := by
  unfold State.setPulse; simp
@[simp] theorem setPulse_doors (c : Nat) (p : Option Pulse) : (s.setPulse c p).doors = s.doors := by
  unfold State.setPulse; simp
@[simp] theorem setPulse_requestSerial (c : Nat) (p : Option Pulse) : (s.setPulse c p).requestSerial = s.requestSerial := by
  unfold State.setPulse; simp
@[simp] theorem setPulse_inputs (c : Nat) (p : Option Pulse) : (s.setPulse c p).inputs = s.inputs := by
  unfold State.setPulse; simp
@[simp] theorem setPulse_readings (c : Nat) (p : Option Pulse) : (s.setPulse c p).readings = s.readings := by
  unfold State.setPulse; simp
@[simp] theorem setPulse_ssu (c : Nat) (p : Option Pulse) : (s.setPulse c p).ssu = s.ssu := by
  unfold State.setPulse; simp
@[simp] theorem setPulse_psc (c : Nat) (p : Option Pulse) : (s.setPulse c p).psc = s.psc := by
  unfold State.setPulse; simp
@[simp] theorem setPulse_dsu (c : Nat) (p : Option Pulse) : (s.setPulse c p).dsu = s.dsu := by
  unfold State.setPulse; simp
@[simp] theorem setPulse_peers (c : Nat) (p : Option Pulse) : (s.setPulse c p).peers = s.peers := by
  unfold State.setPulse; simp
@[simp] theorem setPulse_lif (c : Nat) (p : Option Pulse) : (s.setPulse c p).lif = s.lif := by
  unfold State.setPulse; simp
@[simp] theorem setPulse_cdir (c : Nat) (p : Option Pulse) : (s.setPulse c p).cdir = s.cdir := by
  unfold State.setPulse; simp
@[simp] theorem setPulse_kp (c : Nat) (p : Option Pulse) : (s.setPulse c p).kp = s.kp := by
  unfold State.setPulse; simp
@[simp] theorem setPulse_cp (c : Nat) (p : Option Pulse) : (s.setPulse c p).cp = s.cp := by
  unfold State.setPulse; simp
@[simp] theorem setPulse_pending (c : Nat) (p : Option Pulse) : (s.setPulse c p).pending = s.pending := by
  unfold State.setPulse; simp
@[simp] theorem setPulse_rx (c : Nat) (p : Option Pulse) : (s.setPulse c p).rx = s.rx := by
  unfold State.setPulse; simp

@[simp] theorem endPulse_now (c : Nat) (p : Pulse) : (s.endPulse c p).now = s.now := by
  unfold State.endPulse; simp
@[simp] theorem endPulse_sul (c : Nat) (p : Pulse) : (s.endPulse c p).sul = s.sul := by
  unfold State.endPulse; simp
@[simp] theorem endPulse_doors (c : Nat) (p : Pulse) : (s.endPulse c p).doors = s.doors := by
  unfold State.endPulse; simp
@[simp] theorem endPulse_requestSerial (c : Nat) (p : Pulse) : (s.endPulse c p).requestSerial = s.requestSerial := by
  unfold State.endPulse; simp
@[simp] theorem endPulse_inputs (c : Nat) (p : Pulse) : (s.endPulse c p).inputs = s.inputs := by
  unfold State.endPulse; simp
@[simp] theorem endPulse_ssu (c : Nat) (p : Pulse) : (s.endPulse c p).ssu = s.ssu := by
  unfold State.endPulse; simp
@[simp] theorem endPulse_dsu (c : Nat) (p : Pulse) : (s.endPulse c p).dsu = s.dsu := by
  unfold State.endPulse; simp
@[simp] theorem endPulse_peers (c : Nat) (p : Pulse) : (s.endPulse c p).peers = s.peers := by
  unfold State.endPulse; simp
@[simp] theorem endPulse_lif (c : Nat) (p : Pulse) : (s.endPulse c p).lif = s.lif := by
  unfold State.endPulse; simp
@[simp] theorem endPulse_cdir (c : Nat) (p : Pulse) : (s.endPulse c p).cdir = s.cdir := by
  unfold State.endPulse; simp
@[simp] theorem endPulse_kp (c : Nat) (p : Pulse) : (s.endPulse c p).kp = s.kp := by
  unfold State.endPulse; simp
@[simp] theorem endPulse_cp (c : Nat) (p : Pulse) : (s.endPulse c p).cp = s.cp := by
  unfold State.endPulse; simp
@[simp] theorem endPulse_pending (c : Nat) (p : Pulse) : (s.endPulse c p).pending = s.pending := by
  unfold State.endPulse; simp
@[simp] theorem endPulse_rx (c : Nat) (p : Pulse) : (s.endPulse c p).rx = s.rx := by
  unfold State.endPulse; simp

@[simp] theorem suspendPulse_now (c : Nat) (p : Pulse) : (s.suspendPulse c p).now = s.now := by
  unfold State.suspendPulse; (repeat' split) <;> simp
@[simp] theorem suspendPulse_sul (c : Nat) (p : Pulse) : (s.suspendPulse c p).sul = s.sul := by
  unfold State.suspendPulse; (repeat' split) <;> simp
@[simp] theorem suspendPulse_doors (c : Nat) (p : Pulse) : (s.suspendPulse c p).doors = s.doors := by
  unfold State.suspendPulse; (repeat' split) <;> simp
@[simp] theorem suspendPulse_requestSerial (c : Nat) (p : Pulse) : (s.suspendPulse c p).requestSerial = s.requestSerial := by
  unfold State.suspendPulse; (repeat' split) <;> simp
@[simp] theorem suspendPulse_inputs (c : Nat) (p : Pulse) : (s.suspendPulse c p).inputs = s.inputs := by
  unfold State.suspendPulse; (repeat' split) <;> simp
@[simp] theorem suspendPulse_ssu (c : Nat) (p : Pulse) : (s.suspendPulse c p).ssu = s.ssu := by
  unfold State.suspendPulse; (repeat' split) <;> simp
@[simp] theorem suspendPulse_dsu (c : Nat) (p : Pulse) : (s.suspendPulse c p).dsu = s.dsu := by
  unfold State.suspendPulse; (repeat' split) <;> simp
@[simp] theorem suspendPulse_peers (c : Nat) (p : Pulse) : (s.suspendPulse c p).peers = s.peers := by
  unfold State.suspendPulse; (repeat' split) <;> simp
@[simp] theorem suspendPulse_lif (c : Nat) (p : Pulse) : (s.suspendPulse c p).lif = s.lif := by
  unfold State.suspendPulse; (repeat' split) <;> simp
@[simp] theorem suspendPulse_cdir (c : Nat) (p : Pulse) : (s.suspendPulse c p).cdir = s.cdir := by
  unfold State.suspendPulse; (repeat' split) <;> simp
@[simp] theorem suspendPulse_kp (c : Nat) (p : Pulse) : (s.suspendPulse c p).kp = s.kp := by
  unfold State.suspendPulse; (repeat' split) <;> simp
@[simp] theorem suspendPulse_cp (c : Nat) (p : Pulse) : (s.suspendPulse c p).cp = s.cp := by
  unfold State.suspendPulse; (repeat' split) <;> simp
@[simp] theorem suspendPulse_pending (c : Nat) (p : Pulse) : (s.suspendPulse c p).pending = s.pending := by
  unfold State.suspendPulse; (repeat' split) <;> simp
@[simp] theorem suspendPulse_rx (c : Nat) (p : Pulse) : (s.suspendPulse c p).rx = s.rx := by
  unfold State.suspendPulse; (repeat' split) <;> simp

@[simp] theorem suspend_now (c : Nat) : (s.suspend c).now = s.now := by
  unfold State.suspend; (repeat' split) <;> simp
@[simp] theorem suspend_sul (c : Nat) : (s.suspend c).sul = s.sul := by
  unfold State.suspend; (repeat' split) <;> simp
@[simp] theorem suspend_doors (c : Nat) : (s.suspend c).doors = s.doors := by
  unfold State.suspend; (repeat' split) <;> simp
@[simp] theorem suspend_requestSerial (c : Nat) : (s.suspend c).requestSerial = s.requestSerial := by
  unfold State.suspend; (repeat' split) <;> simp
@[simp] theorem suspend_inputs (c : Nat) : (s.suspend c).inputs = s.inputs := by
  unfold State.suspend; (repeat' split) <;> simp
@[simp] theorem suspend_ssu (c : Nat) : (s.suspend c).ssu = s.ssu := by
  unfold State.suspend; (repeat' split) <;> simp
@[simp] theorem suspend_dsu (c : Nat) : (s.suspend c).dsu = s.dsu := by
  unfold State.suspend; (repeat' split) <;> simp
@[simp] theorem suspend_peers (c : Nat) : (s.suspend c).peers = s.peers := by
  unfold State.suspend; (repeat' split) <;> simp
@[simp] theorem suspend_lif (c : Nat) : (s.suspend c).lif = s.lif := by
  unfold State.suspend; (repeat' split) <;> simp
@[simp] theorem suspend_cdir (c : Nat) : (s.suspend c).cdir = s.cdir := by
  unfold State.suspend; (repeat' split) <;> simp
@[simp] theorem suspend_kp (c : Nat) : (s.suspend c).kp = s.kp := by
  unfold State.suspend; (repeat' split) <;> simp
@[simp] theorem suspend_cp (c : Nat) : (s.suspend c).cp = s.cp := by
  unfold State.suspend; (repeat' split) <;> simp
@[simp] theorem suspend_pending (c : Nat) : (s.suspend c).pending = s.pending := by
  unfold State.suspend; (repeat' split) <;> simp
@[simp] theorem suspend_rx (c : Nat) : (s.suspend c).rx = s.rx := by
  unfold State.suspend; (repeat' split) <;> simp

@[simp] theorem cutRun_now (c : Nat) : (s.cutRun c).now = s.now := by
  unfold State.cutRun; (repeat' split) <;> simp
@[simp] theorem cutRun_sul (c : Nat) : (s.cutRun c).sul = s.sul := by
  unfold State.cutRun; (repeat' split) <;> simp
@[simp] theorem cutRun_comps (c : Nat) : (s.cutRun c).comps = s.comps := by
  unfold State.cutRun; (repeat' split) <;> simp
@[simp] theorem cutRun_doors (c : Nat) : (s.cutRun c).doors = s.doors := by
  unfold State.cutRun; (repeat' split) <;> simp
@[simp] theorem cutRun_requestSerial (c : Nat) : (s.cutRun c).requestSerial = s.requestSerial := by
  unfold State.cutRun; (repeat' split) <;> simp
@[simp] theorem cutRun_inputs (c : Nat) : (s.cutRun c).inputs = s.inputs := by
  unfold State.cutRun; (repeat' split) <;> simp
@[simp] theorem cutRun_ssu (c : Nat) : (s.cutRun c).ssu = s.ssu := by
  unfold State.cutRun; (repeat' split) <;> simp
@[simp] theorem cutRun_psc (c : Nat) : (s.cutRun c).psc = s.psc := by
  unfold State.cutRun; (repeat' split) <;> simp
@[simp] theorem cutRun_dsu (c : Nat) : (s.cutRun c).dsu = s.dsu := by
  unfold State.cutRun; (repeat' split) <;> simp
@[simp] theorem cutRun_peers (c : Nat) : (s.cutRun c).peers = s.peers := by
  unfold State.cutRun; (repeat' split) <;> simp
@[simp] theorem cutRun_lif (c : Nat) : (s.cutRun c).lif = s.lif := by
  unfold State.cutRun; (repeat' split) <;> simp
@[simp] theorem cutRun_cdir (c : Nat) : (s.cutRun c).cdir = s.cdir := by
  unfold State.cutRun; (repeat' split) <;> simp
@[simp] theorem cutRun_kp (c : Nat) : (s.cutRun c).kp = s.kp := by
  unfold State.cutRun; (repeat' split) <;> simp
@[simp] theorem cutRun_cp (c : Nat) : (s.cutRun c).cp = s.cp := by
  unfold State.cutRun; (repeat' split) <;> simp
@[simp] theorem cutRun_pending (c : Nat) : (s.cutRun c).pending = s.pending := by
  unfold State.cutRun; (repeat' split) <;> simp
@[simp] theorem cutRun_rx (c : Nat) : (s.cutRun c).rx = s.rx := by
  unfold State.cutRun; (repeat' split) <;> simp

@[simp] theorem dropHold_now (c : Nat) : (s.dropHold c).now = s.now := by
  unfold State.dropHold; simp
@[simp] theorem dropHold_sul (c : Nat) : (s.dropHold c).sul = s.sul := by
  unfold State.dropHold; simp
@[simp] theorem dropHold_doors (c : Nat) : (s.dropHold c).doors = s.doors := by
  unfold State.dropHold; simp
@[simp] theorem dropHold_requestSerial (c : Nat) : (s.dropHold c).requestSerial = s.requestSerial := by
  unfold State.dropHold; simp
@[simp] theorem dropHold_inputs (c : Nat) : (s.dropHold c).inputs = s.inputs := by
  unfold State.dropHold; simp
@[simp] theorem dropHold_ssu (c : Nat) : (s.dropHold c).ssu = s.ssu := by
  unfold State.dropHold; simp
@[simp] theorem dropHold_dsu (c : Nat) : (s.dropHold c).dsu = s.dsu := by
  unfold State.dropHold; simp
@[simp] theorem dropHold_peers (c : Nat) : (s.dropHold c).peers = s.peers := by
  unfold State.dropHold; simp
@[simp] theorem dropHold_lif (c : Nat) : (s.dropHold c).lif = s.lif := by
  unfold State.dropHold; simp
@[simp] theorem dropHold_cdir (c : Nat) : (s.dropHold c).cdir = s.cdir := by
  unfold State.dropHold; simp
@[simp] theorem dropHold_kp (c : Nat) : (s.dropHold c).kp = s.kp := by
  unfold State.dropHold; simp
@[simp] theorem dropHold_cp (c : Nat) : (s.dropHold c).cp = s.cp := by
  unfold State.dropHold; simp
@[simp] theorem dropHold_pending (c : Nat) : (s.dropHold c).pending = s.pending := by
  unfold State.dropHold; simp
@[simp] theorem dropHold_rx (c : Nat) : (s.dropHold c).rx = s.rx := by
  unfold State.dropHold; simp

@[simp] theorem activate_now (c ch : Nat) : (s.activate c ch).now = s.now := by
  unfold State.activate; (repeat' split) <;> simp
@[simp] theorem activate_sul (c ch : Nat) : (s.activate c ch).sul = s.sul := by
  unfold State.activate; (repeat' split) <;> simp
@[simp] theorem activate_doors (c ch : Nat) : (s.activate c ch).doors = s.doors := by
  unfold State.activate; (repeat' split) <;> simp
@[simp] theorem activate_requestSerial (c ch : Nat) : (s.activate c ch).requestSerial = s.requestSerial := by
  unfold State.activate; (repeat' split) <;> simp
@[simp] theorem activate_inputs (c ch : Nat) : (s.activate c ch).inputs = s.inputs := by
  unfold State.activate; (repeat' split) <;> simp
@[simp] theorem activate_ssu (c ch : Nat) : (s.activate c ch).ssu = s.ssu := by
  unfold State.activate; (repeat' split) <;> simp
@[simp] theorem activate_dsu (c ch : Nat) : (s.activate c ch).dsu = s.dsu := by
  unfold State.activate; (repeat' split) <;> simp
@[simp] theorem activate_peers (c ch : Nat) : (s.activate c ch).peers = s.peers := by
  unfold State.activate; (repeat' split) <;> simp
@[simp] theorem activate_lif (c ch : Nat) : (s.activate c ch).lif = s.lif := by
  unfold State.activate; (repeat' split) <;> simp
@[simp] theorem activate_cdir (c ch : Nat) : (s.activate c ch).cdir = s.cdir := by
  unfold State.activate; (repeat' split) <;> simp
@[simp] theorem activate_kp (c ch : Nat) : (s.activate c ch).kp = s.kp := by
  unfold State.activate; (repeat' split) <;> simp
@[simp] theorem activate_cp (c ch : Nat) : (s.activate c ch).cp = s.cp := by
  unfold State.activate; (repeat' split) <;> simp
@[simp] theorem activate_pending (c ch : Nat) : (s.activate c ch).pending = s.pending := by
  unfold State.activate; (repeat' split) <;> simp
@[simp] theorem activate_rx (c ch : Nat) : (s.activate c ch).rx = s.rx := by
  unfold State.activate; (repeat' split) <;> simp

end Sys2Proof.Machine
end

