-- ==== Sys2Proof/Laws/FrameSharing.lean ====
section
/-! SUPPORT. What the operations of the Draw Share Unit and the start attempts leave alone: one lemma for each field of the state an operation
does not touch. -/

namespace Sys2Proof.Machine

variable (s : State)

theorem reduce_now (limit n : Nat) : (reduce limit n s).now = s.now := by
  induction n generalizing s with
  | zero => rfl
  | succ n ih => unfold reduce; (repeat' split) <;> simp [ih]

theorem reduce_sul (limit n : Nat) : (reduce limit n s).sul = s.sul := by
  induction n generalizing s with
  | zero => rfl
  | succ n ih => unfold reduce; (repeat' split) <;> simp [ih]

theorem reduce_doors (limit n : Nat) : (reduce limit n s).doors = s.doors := by
  induction n generalizing s with
  | zero => rfl
  | succ n ih => unfold reduce; (repeat' split) <;> simp [ih]

theorem reduce_requestSerial (limit n : Nat) : (reduce limit n s).requestSerial = s.requestSerial := by
  induction n generalizing s with
  | zero => rfl
  | succ n ih => unfold reduce; (repeat' split) <;> simp [ih]

theorem reduce_inputs (limit n : Nat) : (reduce limit n s).inputs = s.inputs := by
  induction n generalizing s with
  | zero => rfl
  | succ n ih => unfold reduce; (repeat' split) <;> simp [ih]

theorem reduce_ssu (limit n : Nat) : (reduce limit n s).ssu = s.ssu := by
  induction n generalizing s with
  | zero => rfl
  | succ n ih => unfold reduce; (repeat' split) <;> simp [ih]

theorem reduce_dsu (limit n : Nat) : (reduce limit n s).dsu = s.dsu := by
  induction n generalizing s with
  | zero => rfl
  | succ n ih => unfold reduce; (repeat' split) <;> simp [ih]

theorem reduce_peers (limit n : Nat) : (reduce limit n s).peers = s.peers := by
  induction n generalizing s with
  | zero => rfl
  | succ n ih => unfold reduce; (repeat' split) <;> simp [ih]

theorem reduce_lif (limit n : Nat) : (reduce limit n s).lif = s.lif := by
  induction n generalizing s with
  | zero => rfl
  | succ n ih => unfold reduce; (repeat' split) <;> simp [ih]

theorem reduce_cdir (limit n : Nat) : (reduce limit n s).cdir = s.cdir := by
  induction n generalizing s with
  | zero => rfl
  | succ n ih => unfold reduce; (repeat' split) <;> simp [ih]

theorem reduce_kp (limit n : Nat) : (reduce limit n s).kp = s.kp := by
  induction n generalizing s with
  | zero => rfl
  | succ n ih => unfold reduce; (repeat' split) <;> simp [ih]

theorem reduce_cp (limit n : Nat) : (reduce limit n s).cp = s.cp := by
  induction n generalizing s with
  | zero => rfl
  | succ n ih => unfold reduce; (repeat' split) <;> simp [ih]

theorem reduce_pending (limit n : Nat) : (reduce limit n s).pending = s.pending := by
  induction n generalizing s with
  | zero => rfl
  | succ n ih => unfold reduce; (repeat' split) <;> simp [ih]
theorem reduce_rx (limit n : Nat) : (reduce limit n s).rx = s.rx := by
  induction n generalizing s with
  | zero => rfl
  | succ n ih => unfold reduce; (repeat' split) <;> simp [ih]

@[simp] theorem reduceTo_now (limit : Nat) : (s.reduceTo limit).now = s.now := by
  unfold State.reduceTo; simp [reduce_now]
@[simp] theorem reduceTo_sul (limit : Nat) : (s.reduceTo limit).sul = s.sul := by
  unfold State.reduceTo; simp [reduce_sul]
@[simp] theorem reduceTo_doors (limit : Nat) : (s.reduceTo limit).doors = s.doors := by
  unfold State.reduceTo; simp [reduce_doors]
@[simp] theorem reduceTo_requestSerial (limit : Nat) : (s.reduceTo limit).requestSerial = s.requestSerial := by
  unfold State.reduceTo; simp [reduce_requestSerial]
@[simp] theorem reduceTo_inputs (limit : Nat) : (s.reduceTo limit).inputs = s.inputs := by
  unfold State.reduceTo; simp [reduce_inputs]
@[simp] theorem reduceTo_ssu (limit : Nat) : (s.reduceTo limit).ssu = s.ssu := by
  unfold State.reduceTo; simp [reduce_ssu]
@[simp] theorem reduceTo_dsu (limit : Nat) : (s.reduceTo limit).dsu = s.dsu := by
  unfold State.reduceTo; simp [reduce_dsu]
@[simp] theorem reduceTo_peers (limit : Nat) : (s.reduceTo limit).peers = s.peers := by
  unfold State.reduceTo; simp [reduce_peers]
@[simp] theorem reduceTo_lif (limit : Nat) : (s.reduceTo limit).lif = s.lif := by
  unfold State.reduceTo; simp [reduce_lif]
@[simp] theorem reduceTo_cdir (limit : Nat) : (s.reduceTo limit).cdir = s.cdir := by
  unfold State.reduceTo; simp [reduce_cdir]
@[simp] theorem reduceTo_kp (limit : Nat) : (s.reduceTo limit).kp = s.kp := by
  unfold State.reduceTo; simp [reduce_kp]
@[simp] theorem reduceTo_cp (limit : Nat) : (s.reduceTo limit).cp = s.cp := by
  unfold State.reduceTo; simp [reduce_cp]
@[simp] theorem reduceTo_pending (limit : Nat) : (s.reduceTo limit).pending = s.pending := by
  unfold State.reduceTo; simp [reduce_pending]
@[simp] theorem reduceTo_rx (limit : Nat) : (s.reduceTo limit).rx = s.rx := by
  unfold State.reduceTo; simp [reduce_rx]

@[simp] theorem dropClaim_now : (s.dropClaim).now = s.now := by
  unfold State.dropClaim; (repeat' split) <;> simp
@[simp] theorem dropClaim_sul : (s.dropClaim).sul = s.sul := by
  unfold State.dropClaim; (repeat' split) <;> simp
@[simp] theorem dropClaim_comps : (s.dropClaim).comps = s.comps := by
  unfold State.dropClaim; (repeat' split) <;> simp
@[simp] theorem dropClaim_doors : (s.dropClaim).doors = s.doors := by
  unfold State.dropClaim; (repeat' split) <;> simp
@[simp] theorem dropClaim_requestSerial : (s.dropClaim).requestSerial = s.requestSerial := by
  unfold State.dropClaim; (repeat' split) <;> simp
@[simp] theorem dropClaim_inputs : (s.dropClaim).inputs = s.inputs := by
  unfold State.dropClaim; (repeat' split) <;> simp
@[simp] theorem dropClaim_readings : (s.dropClaim).readings = s.readings := by
  unfold State.dropClaim; (repeat' split) <;> simp
@[simp] theorem dropClaim_ssu : (s.dropClaim).ssu = s.ssu := by
  unfold State.dropClaim; (repeat' split) <;> simp
@[simp] theorem dropClaim_psc : (s.dropClaim).psc = s.psc := by
  unfold State.dropClaim; (repeat' split) <;> simp
@[simp] theorem dropClaim_peers : (s.dropClaim).peers = s.peers := by
  unfold State.dropClaim; (repeat' split) <;> simp
@[simp] theorem dropClaim_cdir : (s.dropClaim).cdir = s.cdir := by
  unfold State.dropClaim; (repeat' split) <;> simp
@[simp] theorem dropClaim_kp : (s.dropClaim).kp = s.kp := by
  unfold State.dropClaim; (repeat' split) <;> simp
@[simp] theorem dropClaim_cp : (s.dropClaim).cp = s.cp := by
  unfold State.dropClaim; (repeat' split) <;> simp
@[simp] theorem dropClaim_pending : (s.dropClaim).pending = s.pending := by
  unfold State.dropClaim; (repeat' split) <;> simp
@[simp] theorem dropClaim_rx : (s.dropClaim).rx = s.rx := by
  unfold State.dropClaim; (repeat' split) <;> simp

@[simp] theorem makeClaim_now (m : Nat) : (s.makeClaim m).now = s.now := by
  unfold State.makeClaim; simp
@[simp] theorem makeClaim_sul (m : Nat) : (s.makeClaim m).sul = s.sul := by
  unfold State.makeClaim; simp
@[simp] theorem makeClaim_comps (m : Nat) : (s.makeClaim m).comps = s.comps := by
  unfold State.makeClaim; simp
@[simp] theorem makeClaim_doors (m : Nat) : (s.makeClaim m).doors = s.doors := by
  unfold State.makeClaim; simp
@[simp] theorem makeClaim_requestSerial (m : Nat) : (s.makeClaim m).requestSerial = s.requestSerial := by
  unfold State.makeClaim; simp
@[simp] theorem makeClaim_inputs (m : Nat) : (s.makeClaim m).inputs = s.inputs := by
  unfold State.makeClaim; simp
@[simp] theorem makeClaim_readings (m : Nat) : (s.makeClaim m).readings = s.readings := by
  unfold State.makeClaim; simp
@[simp] theorem makeClaim_ssu (m : Nat) : (s.makeClaim m).ssu = s.ssu := by
  unfold State.makeClaim; simp
@[simp] theorem makeClaim_psc (m : Nat) : (s.makeClaim m).psc = s.psc := by
  unfold State.makeClaim; simp
@[simp] theorem makeClaim_peers (m : Nat) : (s.makeClaim m).peers = s.peers := by
  unfold State.makeClaim; simp
@[simp] theorem makeClaim_cdir (m : Nat) : (s.makeClaim m).cdir = s.cdir := by
  unfold State.makeClaim; simp
@[simp] theorem makeClaim_kp (m : Nat) : (s.makeClaim m).kp = s.kp := by
  unfold State.makeClaim; simp
@[simp] theorem makeClaim_cp (m : Nat) : (s.makeClaim m).cp = s.cp := by
  unfold State.makeClaim; simp
@[simp] theorem makeClaim_pending (m : Nat) : (s.makeClaim m).pending = s.pending := by
  unfold State.makeClaim; simp
@[simp] theorem makeClaim_rx (m : Nat) : (s.makeClaim m).rx = s.rx := by
  unfold State.makeClaim; simp

@[simp] theorem drawSettled_now : (s.drawSettled).now = s.now := by
  unfold State.drawSettled; simp
@[simp] theorem drawSettled_sul : (s.drawSettled).sul = s.sul := by
  unfold State.drawSettled; simp
@[simp] theorem drawSettled_comps : (s.drawSettled).comps = s.comps := by
  unfold State.drawSettled; simp
@[simp] theorem drawSettled_doors : (s.drawSettled).doors = s.doors := by
  unfold State.drawSettled; simp
@[simp] theorem drawSettled_requestSerial : (s.drawSettled).requestSerial = s.requestSerial := by
  unfold State.drawSettled; simp
@[simp] theorem drawSettled_inputs : (s.drawSettled).inputs = s.inputs := by
  unfold State.drawSettled; simp
@[simp] theorem drawSettled_readings : (s.drawSettled).readings = s.readings := by
  unfold State.drawSettled; simp
@[simp] theorem drawSettled_ssu : (s.drawSettled).ssu = s.ssu := by
  unfold State.drawSettled; simp
@[simp] theorem drawSettled_dsu : (s.drawSettled).dsu = s.dsu := by
  unfold State.drawSettled; simp
@[simp] theorem drawSettled_peers : (s.drawSettled).peers = s.peers := by
  unfold State.drawSettled; simp
@[simp] theorem drawSettled_lif : (s.drawSettled).lif = s.lif := by
  unfold State.drawSettled; simp
@[simp] theorem drawSettled_cdir : (s.drawSettled).cdir = s.cdir := by
  unfold State.drawSettled; simp
@[simp] theorem drawSettled_kp : (s.drawSettled).kp = s.kp := by
  unfold State.drawSettled; simp
@[simp] theorem drawSettled_cp : (s.drawSettled).cp = s.cp := by
  unfold State.drawSettled; simp
@[simp] theorem drawSettled_pending : (s.drawSettled).pending = s.pending := by
  unfold State.drawSettled; simp
@[simp] theorem drawSettled_rx : (s.drawSettled).rx = s.rx := by
  unfold State.drawSettled; simp

@[simp] theorem asleep_now : (s.asleep).now = s.now := by
  unfold State.asleep; simp
@[simp] theorem asleep_sul : (s.asleep).sul = s.sul := by
  unfold State.asleep; simp
@[simp] theorem asleep_comps : (s.asleep).comps = s.comps := by
  unfold State.asleep; simp
@[simp] theorem asleep_doors : (s.asleep).doors = s.doors := by
  unfold State.asleep; simp
@[simp] theorem asleep_requestSerial : (s.asleep).requestSerial = s.requestSerial := by
  unfold State.asleep; simp
@[simp] theorem asleep_inputs : (s.asleep).inputs = s.inputs := by
  unfold State.asleep; simp
@[simp] theorem asleep_readings : (s.asleep).readings = s.readings := by
  unfold State.asleep; simp
@[simp] theorem asleep_ssu : (s.asleep).ssu = s.ssu := by
  unfold State.asleep; simp
@[simp] theorem asleep_dsu : (s.asleep).dsu = s.dsu := by
  unfold State.asleep; simp
@[simp] theorem asleep_peers : (s.asleep).peers = s.peers := by
  unfold State.asleep; simp
@[simp] theorem asleep_lif : (s.asleep).lif = s.lif := by
  unfold State.asleep; simp
@[simp] theorem asleep_cdir : (s.asleep).cdir = s.cdir := by
  unfold State.asleep; simp
@[simp] theorem asleep_kp : (s.asleep).kp = s.kp := by
  unfold State.asleep; simp
@[simp] theorem asleep_cp : (s.asleep).cp = s.cp := by
  unfold State.asleep; simp
@[simp] theorem asleep_pending : (s.asleep).pending = s.pending := by
  unfold State.asleep; simp
@[simp] theorem asleep_rx : (s.asleep).rx = s.rx := by
  unfold State.asleep; simp

@[simp] theorem overrunTest_now : (s.overrunTest).now = s.now := by
  unfold State.overrunTest; (repeat' split) <;> simp
@[simp] theorem overrunTest_sul : (s.overrunTest).sul = s.sul := by
  unfold State.overrunTest; (repeat' split) <;> simp
@[simp] theorem overrunTest_doors : (s.overrunTest).doors = s.doors := by
  unfold State.overrunTest; (repeat' split) <;> simp
@[simp] theorem overrunTest_requestSerial : (s.overrunTest).requestSerial = s.requestSerial := by
  unfold State.overrunTest; (repeat' split) <;> simp
@[simp] theorem overrunTest_inputs : (s.overrunTest).inputs = s.inputs := by
  unfold State.overrunTest; (repeat' split) <;> simp
@[simp] theorem overrunTest_ssu : (s.overrunTest).ssu = s.ssu := by
  unfold State.overrunTest; (repeat' split) <;> simp
@[simp] theorem overrunTest_peers : (s.overrunTest).peers = s.peers := by
  unfold State.overrunTest; (repeat' split) <;> simp
@[simp] theorem overrunTest_cdir : (s.overrunTest).cdir = s.cdir := by
  unfold State.overrunTest; (repeat' split) <;> simp
@[simp] theorem overrunTest_kp : (s.overrunTest).kp = s.kp := by
  unfold State.overrunTest; (repeat' split) <;> simp
@[simp] theorem overrunTest_cp : (s.overrunTest).cp = s.cp := by
  unfold State.overrunTest; (repeat' split) <;> simp
@[simp] theorem overrunTest_pending : (s.overrunTest).pending = s.pending := by
  unfold State.overrunTest; (repeat' split) <;> simp
@[simp] theorem overrunTest_rx : (s.overrunTest).rx = s.rx := by
  unfold State.overrunTest; (repeat' split) <;> simp

@[simp] theorem settleDraw_now : (s.settleDraw).now = s.now := by
  simp only [State.settleDraw]; (repeat' split) <;> simp
@[simp] theorem settleDraw_sul : (s.settleDraw).sul = s.sul := by
  simp only [State.settleDraw]; (repeat' split) <;> simp
@[simp] theorem settleDraw_doors : (s.settleDraw).doors = s.doors := by
  simp only [State.settleDraw]; (repeat' split) <;> simp
@[simp] theorem settleDraw_requestSerial : (s.settleDraw).requestSerial = s.requestSerial := by
  simp only [State.settleDraw]; (repeat' split) <;> simp
@[simp] theorem settleDraw_inputs : (s.settleDraw).inputs = s.inputs := by
  simp only [State.settleDraw]; (repeat' split) <;> simp
@[simp] theorem settleDraw_ssu : (s.settleDraw).ssu = s.ssu := by
  simp only [State.settleDraw]; (repeat' split) <;> simp
@[simp] theorem settleDraw_peers : (s.settleDraw).peers = s.peers := by
  simp only [State.settleDraw]; (repeat' split) <;> simp
@[simp] theorem settleDraw_cdir : (s.settleDraw).cdir = s.cdir := by
  simp only [State.settleDraw]; (repeat' split) <;> simp
@[simp] theorem settleDraw_kp : (s.settleDraw).kp = s.kp := by
  simp only [State.settleDraw]; (repeat' split) <;> simp
@[simp] theorem settleDraw_cp : (s.settleDraw).cp = s.cp := by
  simp only [State.settleDraw]; (repeat' split) <;> simp
@[simp] theorem settleDraw_pending : (s.settleDraw).pending = s.pending := by
  simp only [State.settleDraw]; (repeat' split) <;> simp
@[simp] theorem settleDraw_rx : (s.settleDraw).rx = s.rx := by
  simp only [State.settleDraw]; (repeat' split) <;> simp

@[simp] theorem peerDrawFell_now : (s.peerDrawFell).now = s.now := by
  unfold State.peerDrawFell; simp
@[simp] theorem peerDrawFell_sul : (s.peerDrawFell).sul = s.sul := by
  unfold State.peerDrawFell; simp
@[simp] theorem peerDrawFell_comps : (s.peerDrawFell).comps = s.comps := by
  unfold State.peerDrawFell; simp
@[simp] theorem peerDrawFell_doors : (s.peerDrawFell).doors = s.doors := by
  unfold State.peerDrawFell; simp
@[simp] theorem peerDrawFell_requestSerial : (s.peerDrawFell).requestSerial = s.requestSerial := by
  unfold State.peerDrawFell; simp
@[simp] theorem peerDrawFell_inputs : (s.peerDrawFell).inputs = s.inputs := by
  unfold State.peerDrawFell; simp
@[simp] theorem peerDrawFell_readings : (s.peerDrawFell).readings = s.readings := by
  unfold State.peerDrawFell; simp
@[simp] theorem peerDrawFell_ssu : (s.peerDrawFell).ssu = s.ssu := by
  unfold State.peerDrawFell; simp
@[simp] theorem peerDrawFell_peers : (s.peerDrawFell).peers = s.peers := by
  unfold State.peerDrawFell; simp
@[simp] theorem peerDrawFell_lif : (s.peerDrawFell).lif = s.lif := by
  unfold State.peerDrawFell; simp
@[simp] theorem peerDrawFell_cdir : (s.peerDrawFell).cdir = s.cdir := by
  unfold State.peerDrawFell; simp
@[simp] theorem peerDrawFell_kp : (s.peerDrawFell).kp = s.kp := by
  unfold State.peerDrawFell; simp
@[simp] theorem peerDrawFell_cp : (s.peerDrawFell).cp = s.cp := by
  unfold State.peerDrawFell; simp
@[simp] theorem peerDrawFell_pending : (s.peerDrawFell).pending = s.pending := by
  unfold State.peerDrawFell; simp
@[simp] theorem peerDrawFell_rx : (s.peerDrawFell).rx = s.rx := by
  unfold State.peerDrawFell; simp

@[simp] theorem preempt_now (c : Nat) : (s.preempt c).now = s.now := by
  unfold State.preempt; (repeat' split) <;> simp
@[simp] theorem preempt_sul (c : Nat) : (s.preempt c).sul = s.sul := by
  unfold State.preempt; (repeat' split) <;> simp
@[simp] theorem preempt_doors (c : Nat) : (s.preempt c).doors = s.doors := by
  unfold State.preempt; (repeat' split) <;> simp
@[simp] theorem preempt_requestSerial (c : Nat) : (s.preempt c).requestSerial = s.requestSerial := by
  unfold State.preempt; (repeat' split) <;> simp
@[simp] theorem preempt_inputs (c : Nat) : (s.preempt c).inputs = s.inputs := by
  unfold State.preempt; (repeat' split) <;> simp
@[simp] theorem preempt_ssu (c : Nat) : (s.preempt c).ssu = s.ssu := by
  unfold State.preempt; (repeat' split) <;> simp
@[simp] theorem preempt_dsu (c : Nat) : (s.preempt c).dsu = s.dsu := by
  unfold State.preempt; (repeat' split) <;> simp
@[simp] theorem preempt_peers (c : Nat) : (s.preempt c).peers = s.peers := by
  unfold State.preempt; (repeat' split) <;> simp
@[simp] theorem preempt_lif (c : Nat) : (s.preempt c).lif = s.lif := by
  unfold State.preempt; (repeat' split) <;> simp
@[simp] theorem preempt_cdir (c : Nat) : (s.preempt c).cdir = s.cdir := by
  unfold State.preempt; (repeat' split) <;> simp
@[simp] theorem preempt_kp (c : Nat) : (s.preempt c).kp = s.kp := by
  unfold State.preempt; (repeat' split) <;> simp
@[simp] theorem preempt_cp (c : Nat) : (s.preempt c).cp = s.cp := by
  unfold State.preempt; (repeat' split) <;> simp
@[simp] theorem preempt_pending (c : Nat) : (s.preempt c).pending = s.pending := by
  unfold State.preempt; (repeat' split) <;> simp
@[simp] theorem preempt_rx (c : Nat) : (s.preempt c).rx = s.rx := by
  unfold State.preempt; (repeat' split) <;> simp

@[simp] theorem actOn_now (c : Nat) (a : Answer) : (s.actOn c a).now = s.now := by
  unfold State.actOn; (repeat' split) <;> simp
@[simp] theorem actOn_sul (c : Nat) (a : Answer) : (s.actOn c a).sul = s.sul := by
  unfold State.actOn; (repeat' split) <;> simp
@[simp] theorem actOn_doors (c : Nat) (a : Answer) : (s.actOn c a).doors = s.doors := by
  unfold State.actOn; (repeat' split) <;> simp
@[simp] theorem actOn_requestSerial (c : Nat) (a : Answer) : (s.actOn c a).requestSerial = s.requestSerial := by
  unfold State.actOn; (repeat' split) <;> simp
@[simp] theorem actOn_inputs (c : Nat) (a : Answer) : (s.actOn c a).inputs = s.inputs := by
  unfold State.actOn; (repeat' split) <;> simp
@[simp] theorem actOn_ssu (c : Nat) (a : Answer) : (s.actOn c a).ssu = s.ssu := by
  unfold State.actOn; (repeat' split) <;> simp
@[simp] theorem actOn_dsu (c : Nat) (a : Answer) : (s.actOn c a).dsu = s.dsu := by
  unfold State.actOn; (repeat' split) <;> simp
@[simp] theorem actOn_peers (c : Nat) (a : Answer) : (s.actOn c a).peers = s.peers := by
  unfold State.actOn; (repeat' split) <;> simp
@[simp] theorem actOn_lif (c : Nat) (a : Answer) : (s.actOn c a).lif = s.lif := by
  unfold State.actOn; (repeat' split) <;> simp
@[simp] theorem actOn_cdir (c : Nat) (a : Answer) : (s.actOn c a).cdir = s.cdir := by
  unfold State.actOn; (repeat' split) <;> simp
@[simp] theorem actOn_kp (c : Nat) (a : Answer) : (s.actOn c a).kp = s.kp := by
  unfold State.actOn; (repeat' split) <;> simp
@[simp] theorem actOn_cp (c : Nat) (a : Answer) : (s.actOn c a).cp = s.cp := by
  unfold State.actOn; (repeat' split) <;> simp
@[simp] theorem actOn_pending (c : Nat) (a : Answer) : (s.actOn c a).pending = s.pending := by
  unfold State.actOn; (repeat' split) <;> simp
@[simp] theorem actOn_rx (c : Nat) (a : Answer) : (s.actOn c a).rx = s.rx := by
  unfold State.actOn; (repeat' split) <;> simp

@[simp] theorem requestDraw_now (m : Nat) : (s.requestDraw m).2.now = s.now := by
  unfold State.requestDraw State.requestClaim; (repeat' split) <;> simp

@[simp] theorem requestDraw_sul (m : Nat) : (s.requestDraw m).2.sul = s.sul := by
  unfold State.requestDraw State.requestClaim; (repeat' split) <;> simp

@[simp] theorem requestDraw_comps (m : Nat) : (s.requestDraw m).2.comps = s.comps := by
  unfold State.requestDraw State.requestClaim; (repeat' split) <;> simp

@[simp] theorem requestDraw_doors (m : Nat) : (s.requestDraw m).2.doors = s.doors := by
  unfold State.requestDraw State.requestClaim; (repeat' split) <;> simp

@[simp] theorem requestDraw_requestSerial (m : Nat) : (s.requestDraw m).2.requestSerial = s.requestSerial := by
  unfold State.requestDraw State.requestClaim; (repeat' split) <;> simp

@[simp] theorem requestDraw_inputs (m : Nat) : (s.requestDraw m).2.inputs = s.inputs := by
  unfold State.requestDraw State.requestClaim; (repeat' split) <;> simp

@[simp] theorem requestDraw_readings (m : Nat) : (s.requestDraw m).2.readings = s.readings := by
  unfold State.requestDraw State.requestClaim; (repeat' split) <;> simp

@[simp] theorem requestDraw_ssu (m : Nat) : (s.requestDraw m).2.ssu = s.ssu := by
  unfold State.requestDraw State.requestClaim; (repeat' split) <;> simp

@[simp] theorem requestDraw_psc (m : Nat) : (s.requestDraw m).2.psc = s.psc := by
  unfold State.requestDraw State.requestClaim; (repeat' split) <;> simp

@[simp] theorem requestDraw_peers (m : Nat) : (s.requestDraw m).2.peers = s.peers := by
  unfold State.requestDraw State.requestClaim; (repeat' split) <;> simp

@[simp] theorem requestDraw_cdir (m : Nat) : (s.requestDraw m).2.cdir = s.cdir := by
  unfold State.requestDraw State.requestClaim; (repeat' split) <;> simp

@[simp] theorem requestDraw_kp (m : Nat) : (s.requestDraw m).2.kp = s.kp := by
  unfold State.requestDraw State.requestClaim; (repeat' split) <;> simp

@[simp] theorem requestDraw_cp (m : Nat) : (s.requestDraw m).2.cp = s.cp := by
  unfold State.requestDraw State.requestClaim; (repeat' split) <;> simp

@[simp] theorem requestDraw_pending (m : Nat) : (s.requestDraw m).2.pending = s.pending := by
  unfold State.requestDraw State.requestClaim; (repeat' split) <;> simp
@[simp] theorem requestDraw_rx (m : Nat) : (s.requestDraw m).2.rx = s.rx := by
  unfold State.requestDraw State.requestClaim; (repeat' split) <;> simp

@[simp] theorem attempt_now : (s.attempt).now = s.now := by
  unfold State.attempt; (repeat' split) <;> simp
@[simp] theorem attempt_sul : (s.attempt).sul = s.sul := by
  unfold State.attempt; (repeat' split) <;> simp
@[simp] theorem attempt_doors : (s.attempt).doors = s.doors := by
  unfold State.attempt; (repeat' split) <;> simp
@[simp] theorem attempt_requestSerial : (s.attempt).requestSerial = s.requestSerial := by
  unfold State.attempt; (repeat' split) <;> simp
@[simp] theorem attempt_inputs : (s.attempt).inputs = s.inputs := by
  unfold State.attempt; (repeat' split) <;> simp
@[simp] theorem attempt_ssu : (s.attempt).ssu = s.ssu := by
  unfold State.attempt; (repeat' split) <;> simp
@[simp] theorem attempt_peers : (s.attempt).peers = s.peers := by
  unfold State.attempt; (repeat' split) <;> simp
@[simp] theorem attempt_cdir : (s.attempt).cdir = s.cdir := by
  unfold State.attempt; (repeat' split) <;> simp
@[simp] theorem attempt_kp : (s.attempt).kp = s.kp := by
  unfold State.attempt; (repeat' split) <;> simp
@[simp] theorem attempt_cp : (s.attempt).cp = s.cp := by
  unfold State.attempt; (repeat' split) <;> simp
@[simp] theorem attempt_pending : (s.attempt).pending = s.pending := by
  unfold State.attempt; (repeat' split) <;> simp
@[simp] theorem attempt_rx : (s.attempt).rx = s.rx := by
  unfold State.attempt; (repeat' split) <;> simp

@[simp] theorem useGrant_now : (s.useGrant).now = s.now := by
  unfold State.useGrant; (repeat' split) <;> simp
@[simp] theorem useGrant_sul : (s.useGrant).sul = s.sul := by
  unfold State.useGrant; (repeat' split) <;> simp
@[simp] theorem useGrant_doors : (s.useGrant).doors = s.doors := by
  unfold State.useGrant; (repeat' split) <;> simp
@[simp] theorem useGrant_requestSerial : (s.useGrant).requestSerial = s.requestSerial := by
  unfold State.useGrant; (repeat' split) <;> simp
@[simp] theorem useGrant_inputs : (s.useGrant).inputs = s.inputs := by
  unfold State.useGrant; (repeat' split) <;> simp
@[simp] theorem useGrant_ssu : (s.useGrant).ssu = s.ssu := by
  unfold State.useGrant; (repeat' split) <;> simp
@[simp] theorem useGrant_peers : (s.useGrant).peers = s.peers := by
  unfold State.useGrant; (repeat' split) <;> simp
@[simp] theorem useGrant_cdir : (s.useGrant).cdir = s.cdir := by
  unfold State.useGrant; (repeat' split) <;> simp
@[simp] theorem useGrant_kp : (s.useGrant).kp = s.kp := by
  unfold State.useGrant; (repeat' split) <;> simp
@[simp] theorem useGrant_cp : (s.useGrant).cp = s.cp := by
  unfold State.useGrant; (repeat' split) <;> simp
@[simp] theorem useGrant_pending : (s.useGrant).pending = s.pending := by
  unfold State.useGrant; (repeat' split) <;> simp
@[simp] theorem useGrant_rx : (s.useGrant).rx = s.rx := by
  unfold State.useGrant; (repeat' split) <;> simp

theorem runAttempts_now (n : Nat) : (runAttempts n s).now = s.now := by
  induction n generalizing s with
  | zero => simp [runAttempts]
  | succ n ih => unfold runAttempts; (repeat' split) <;> simp [ih]

theorem runAttempts_sul (n : Nat) : (runAttempts n s).sul = s.sul := by
  induction n generalizing s with
  | zero => simp [runAttempts]
  | succ n ih => unfold runAttempts; (repeat' split) <;> simp [ih]

theorem runAttempts_doors (n : Nat) : (runAttempts n s).doors = s.doors := by
  induction n generalizing s with
  | zero => simp [runAttempts]
  | succ n ih => unfold runAttempts; (repeat' split) <;> simp [ih]

theorem runAttempts_requestSerial (n : Nat) : (runAttempts n s).requestSerial = s.requestSerial := by
  induction n generalizing s with
  | zero => simp [runAttempts]
  | succ n ih => unfold runAttempts; (repeat' split) <;> simp [ih]

theorem runAttempts_inputs (n : Nat) : (runAttempts n s).inputs = s.inputs := by
  induction n generalizing s with
  | zero => simp [runAttempts]
  | succ n ih => unfold runAttempts; (repeat' split) <;> simp [ih]

theorem runAttempts_ssu (n : Nat) : (runAttempts n s).ssu = s.ssu := by
  induction n generalizing s with
  | zero => simp [runAttempts]
  | succ n ih => unfold runAttempts; (repeat' split) <;> simp [ih]

theorem runAttempts_peers (n : Nat) : (runAttempts n s).peers = s.peers := by
  induction n generalizing s with
  | zero => simp [runAttempts]
  | succ n ih => unfold runAttempts; (repeat' split) <;> simp [ih]

theorem runAttempts_cdir (n : Nat) : (runAttempts n s).cdir = s.cdir := by
  induction n generalizing s with
  | zero => simp [runAttempts]
  | succ n ih => unfold runAttempts; (repeat' split) <;> simp [ih]

theorem runAttempts_kp (n : Nat) : (runAttempts n s).kp = s.kp := by
  induction n generalizing s with
  | zero => simp [runAttempts]
  | succ n ih => unfold runAttempts; (repeat' split) <;> simp [ih]

theorem runAttempts_cp (n : Nat) : (runAttempts n s).cp = s.cp := by
  induction n generalizing s with
  | zero => simp [runAttempts]
  | succ n ih => unfold runAttempts; (repeat' split) <;> simp [ih]

theorem runAttempts_pending (n : Nat) : (runAttempts n s).pending = s.pending := by
  induction n generalizing s with
  | zero => simp [runAttempts]
  | succ n ih => unfold runAttempts; (repeat' split) <;> simp [ih]
theorem runAttempts_rx (n : Nat) : (runAttempts n s).rx = s.rx := by
  induction n generalizing s with
  | zero => simp [runAttempts]
  | succ n ih => unfold runAttempts; (repeat' split) <;> simp [ih]

@[simp] theorem close_now : (s.close).now = s.now := by
  unfold State.close; simp [runAttempts_now]
@[simp] theorem close_sul : (s.close).sul = s.sul := by
  unfold State.close; simp [runAttempts_sul]
@[simp] theorem close_doors : (s.close).doors = s.doors := by
  unfold State.close; simp [runAttempts_doors]
@[simp] theorem close_requestSerial : (s.close).requestSerial = s.requestSerial := by
  unfold State.close; simp [runAttempts_requestSerial]
@[simp] theorem close_inputs : (s.close).inputs = s.inputs := by
  unfold State.close; simp [runAttempts_inputs]
@[simp] theorem close_ssu : (s.close).ssu = s.ssu := by
  unfold State.close; simp [runAttempts_ssu]
@[simp] theorem close_peers : (s.close).peers = s.peers := by
  unfold State.close; simp [runAttempts_peers]
@[simp] theorem close_cdir : (s.close).cdir = s.cdir := by
  unfold State.close; simp [runAttempts_cdir]
@[simp] theorem close_pending : (s.close).pending = s.pending := by
  unfold State.close; simp [runAttempts_pending]
@[simp] theorem close_rx : (s.close).rx = s.rx := by
  unfold State.close; simp [runAttempts_rx]

end Sys2Proof.Machine
end

