-- ==== Sys2Proof/Laws/FrameCourt.lean ====
section
/-! SUPPORT. What the operations of the line modes, received frames and attempts leave alone: one lemma for each field of the state an operation
does not touch. -/

namespace Sys2Proof.Machine

variable (s : State)

@[simp] theorem limitDraw_now (l : Option Nat) : (s.limitDraw l).now = s.now := by
  unfold State.limitDraw; (repeat' split) <;> simp
@[simp] theorem limitDraw_sul (l : Option Nat) : (s.limitDraw l).sul = s.sul := by
  unfold State.limitDraw; (repeat' split) <;> simp
@[simp] theorem limitDraw_doors (l : Option Nat) : (s.limitDraw l).doors = s.doors := by
  unfold State.limitDraw; (repeat' split) <;> simp
@[simp] theorem limitDraw_requestSerial (l : Option Nat) : (s.limitDraw l).requestSerial = s.requestSerial := by
  unfold State.limitDraw; (repeat' split) <;> simp
@[simp] theorem limitDraw_inputs (l : Option Nat) : (s.limitDraw l).inputs = s.inputs := by
  unfold State.limitDraw; (repeat' split) <;> simp
@[simp] theorem limitDraw_ssu (l : Option Nat) : (s.limitDraw l).ssu = s.ssu := by
  unfold State.limitDraw; (repeat' split) <;> simp
@[simp] theorem limitDraw_dsu (l : Option Nat) : (s.limitDraw l).dsu = s.dsu := by
  unfold State.limitDraw; (repeat' split) <;> simp
@[simp] theorem limitDraw_peers (l : Option Nat) : (s.limitDraw l).peers = s.peers := by
  unfold State.limitDraw; (repeat' split) <;> simp
@[simp] theorem limitDraw_lif (l : Option Nat) : (s.limitDraw l).lif = s.lif := by
  unfold State.limitDraw; (repeat' split) <;> simp
@[simp] theorem limitDraw_cdir (l : Option Nat) : (s.limitDraw l).cdir = s.cdir := by
  unfold State.limitDraw; (repeat' split) <;> simp
@[simp] theorem limitDraw_kp (l : Option Nat) : (s.limitDraw l).kp = s.kp := by
  unfold State.limitDraw; (repeat' split) <;> simp
@[simp] theorem limitDraw_cp (l : Option Nat) : (s.limitDraw l).cp = s.cp := by
  unfold State.limitDraw; (repeat' split) <;> simp
@[simp] theorem limitDraw_pending (l : Option Nat) : (s.limitDraw l).pending = s.pending := by
  unfold State.limitDraw; (repeat' split) <;> simp
@[simp] theorem limitDraw_rx (l : Option Nat) : (s.limitDraw l).rx = s.rx := by
  unfold State.limitDraw; (repeat' split) <;> simp

@[simp] theorem changeMode_now (m : LineMode) : (s.changeMode m).now = s.now := by
  unfold State.changeMode; (repeat' split) <;> simp
@[simp] theorem changeMode_sul (m : LineMode) : (s.changeMode m).sul = s.sul := by
  unfold State.changeMode; (repeat' split) <;> simp
@[simp] theorem changeMode_doors (m : LineMode) : (s.changeMode m).doors = s.doors := by
  unfold State.changeMode; (repeat' split) <;> simp
@[simp] theorem changeMode_requestSerial (m : LineMode) : (s.changeMode m).requestSerial = s.requestSerial := by
  unfold State.changeMode; (repeat' split) <;> simp
@[simp] theorem changeMode_inputs (m : LineMode) : (s.changeMode m).inputs = s.inputs := by
  unfold State.changeMode; (repeat' split) <;> simp
@[simp] theorem changeMode_ssu (m : LineMode) : (s.changeMode m).ssu = s.ssu := by
  unfold State.changeMode; (repeat' split) <;> simp
@[simp] theorem changeMode_peers (m : LineMode) : (s.changeMode m).peers = s.peers := by
  unfold State.changeMode; (repeat' split) <;> simp
@[simp] theorem changeMode_cdir (m : LineMode) : (s.changeMode m).cdir = s.cdir := by
  unfold State.changeMode; (repeat' split) <;> simp
@[simp] theorem changeMode_cp (m : LineMode) : (s.changeMode m).cp = s.cp := by
  unfold State.changeMode; (repeat' split) <;> simp
@[simp] theorem changeMode_pending (m : LineMode) : (s.changeMode m).pending = s.pending := by
  unfold State.changeMode; (repeat' split) <;> simp
@[simp] theorem changeMode_rx (m : LineMode) : (s.changeMode m).rx = s.rx := by
  unfold State.changeMode; (repeat' split) <;> simp

@[simp] theorem enterIsolated_now : (s.enterIsolated).now = s.now := by
  unfold State.enterIsolated; simp
@[simp] theorem enterIsolated_sul : (s.enterIsolated).sul = s.sul := by
  unfold State.enterIsolated; simp
@[simp] theorem enterIsolated_doors : (s.enterIsolated).doors = s.doors := by
  unfold State.enterIsolated; simp
@[simp] theorem enterIsolated_requestSerial : (s.enterIsolated).requestSerial = s.requestSerial := by
  unfold State.enterIsolated; simp
@[simp] theorem enterIsolated_inputs : (s.enterIsolated).inputs = s.inputs := by
  unfold State.enterIsolated; simp
@[simp] theorem enterIsolated_ssu : (s.enterIsolated).ssu = s.ssu := by
  unfold State.enterIsolated; simp
@[simp] theorem enterIsolated_peers : (s.enterIsolated).peers = s.peers := by
  unfold State.enterIsolated; simp
@[simp] theorem enterIsolated_cdir : (s.enterIsolated).cdir = s.cdir := by
  unfold State.enterIsolated; simp
@[simp] theorem enterIsolated_cp : (s.enterIsolated).cp = s.cp := by
  unfold State.enterIsolated; simp
@[simp] theorem enterIsolated_pending : (s.enterIsolated).pending = s.pending := by
  unfold State.enterIsolated; simp
@[simp] theorem enterIsolated_rx : (s.enterIsolated).rx = s.rx := by
  unfold State.enterIsolated; simp

@[simp] theorem rejoinCourt_now : (s.rejoinCourt).now = s.now := by
  unfold State.rejoinCourt; simp
@[simp] theorem rejoinCourt_sul : (s.rejoinCourt).sul = s.sul := by
  unfold State.rejoinCourt; simp
@[simp] theorem rejoinCourt_doors : (s.rejoinCourt).doors = s.doors := by
  unfold State.rejoinCourt; simp
@[simp] theorem rejoinCourt_requestSerial : (s.rejoinCourt).requestSerial = s.requestSerial := by
  unfold State.rejoinCourt; simp
@[simp] theorem rejoinCourt_inputs : (s.rejoinCourt).inputs = s.inputs := by
  unfold State.rejoinCourt; simp
@[simp] theorem rejoinCourt_ssu : (s.rejoinCourt).ssu = s.ssu := by
  unfold State.rejoinCourt; simp
@[simp] theorem rejoinCourt_peers : (s.rejoinCourt).peers = s.peers := by
  unfold State.rejoinCourt; simp
@[simp] theorem rejoinCourt_cdir : (s.rejoinCourt).cdir = s.cdir := by
  unfold State.rejoinCourt; simp
@[simp] theorem rejoinCourt_cp : (s.rejoinCourt).cp = s.cp := by
  unfold State.rejoinCourt; simp
@[simp] theorem rejoinCourt_pending : (s.rejoinCourt).pending = s.pending := by
  unfold State.rejoinCourt; simp
@[simp] theorem rejoinCourt_rx : (s.rejoinCourt).rx = s.rx := by
  unfold State.rejoinCourt; simp

@[simp] theorem enterParameters_now : (s.enterParameters).now = s.now := by
  unfold State.enterParameters; simp
@[simp] theorem enterParameters_sul : (s.enterParameters).sul = s.sul := by
  unfold State.enterParameters; simp
@[simp] theorem enterParameters_doors : (s.enterParameters).doors = s.doors := by
  unfold State.enterParameters; simp
@[simp] theorem enterParameters_requestSerial : (s.enterParameters).requestSerial = s.requestSerial := by
  unfold State.enterParameters; simp
@[simp] theorem enterParameters_inputs : (s.enterParameters).inputs = s.inputs := by
  unfold State.enterParameters; simp
@[simp] theorem enterParameters_ssu : (s.enterParameters).ssu = s.ssu := by
  unfold State.enterParameters; simp
@[simp] theorem enterParameters_peers : (s.enterParameters).peers = s.peers := by
  unfold State.enterParameters; simp
@[simp] theorem enterParameters_cdir : (s.enterParameters).cdir = s.cdir := by
  unfold State.enterParameters; simp
@[simp] theorem enterParameters_cp : (s.enterParameters).cp = s.cp := by
  unfold State.enterParameters; simp
@[simp] theorem enterParameters_pending : (s.enterParameters).pending = s.pending := by
  unfold State.enterParameters; simp
@[simp] theorem enterParameters_rx : (s.enterParameters).rx = s.rx := by
  unfold State.enterParameters; simp

@[simp] theorem enterClash_now : (s.enterClash).now = s.now := by
  simp only [State.enterClash]; simp
@[simp] theorem enterClash_sul : (s.enterClash).sul = s.sul := by
  simp only [State.enterClash]; simp
@[simp] theorem enterClash_doors : (s.enterClash).doors = s.doors := by
  simp only [State.enterClash]; simp
@[simp] theorem enterClash_requestSerial : (s.enterClash).requestSerial = s.requestSerial := by
  simp only [State.enterClash]; simp
@[simp] theorem enterClash_inputs : (s.enterClash).inputs = s.inputs := by
  simp only [State.enterClash]; simp
@[simp] theorem enterClash_ssu : (s.enterClash).ssu = s.ssu := by
  simp only [State.enterClash]; simp
@[simp] theorem enterClash_peers : (s.enterClash).peers = s.peers := by
  simp only [State.enterClash]; simp
@[simp] theorem enterClash_cdir : (s.enterClash).cdir = s.cdir := by
  simp only [State.enterClash]; simp
@[simp] theorem enterClash_cp : (s.enterClash).cp = s.cp := by
  simp only [State.enterClash]; simp
@[simp] theorem enterClash_pending : (s.enterClash).pending = s.pending := by
  simp only [State.enterClash]; simp
@[simp] theorem enterClash_rx : (s.enterClash).rx = s.rx := by
  simp only [State.enterClash]; simp

@[simp] theorem clash_now : (s.clash).now = s.now := by
  unfold State.clash; (repeat' split) <;> simp
@[simp] theorem clash_sul : (s.clash).sul = s.sul := by
  unfold State.clash; (repeat' split) <;> simp
@[simp] theorem clash_doors : (s.clash).doors = s.doors := by
  unfold State.clash; (repeat' split) <;> simp
@[simp] theorem clash_requestSerial : (s.clash).requestSerial = s.requestSerial := by
  unfold State.clash; (repeat' split) <;> simp
@[simp] theorem clash_inputs : (s.clash).inputs = s.inputs := by
  unfold State.clash; (repeat' split) <;> simp
@[simp] theorem clash_ssu : (s.clash).ssu = s.ssu := by
  unfold State.clash; (repeat' split) <;> simp
@[simp] theorem clash_peers : (s.clash).peers = s.peers := by
  unfold State.clash; (repeat' split) <;> simp
@[simp] theorem clash_cdir : (s.clash).cdir = s.cdir := by
  unfold State.clash; (repeat' split) <;> simp
@[simp] theorem clash_cp : (s.clash).cp = s.cp := by
  unfold State.clash; (repeat' split) <;> simp
@[simp] theorem clash_pending : (s.clash).pending = s.pending := by
  unfold State.clash; (repeat' split) <;> simp
@[simp] theorem clash_rx : (s.clash).rx = s.rx := by
  unfold State.clash; (repeat' split) <;> simp

@[simp] theorem heardPeer_now : (s.heardPeer).now = s.now := by
  unfold State.heardPeer; simp
@[simp] theorem heardPeer_sul : (s.heardPeer).sul = s.sul := by
  unfold State.heardPeer; simp
@[simp] theorem heardPeer_comps : (s.heardPeer).comps = s.comps := by
  unfold State.heardPeer; simp
@[simp] theorem heardPeer_doors : (s.heardPeer).doors = s.doors := by
  unfold State.heardPeer; simp
@[simp] theorem heardPeer_requestSerial : (s.heardPeer).requestSerial = s.requestSerial := by
  unfold State.heardPeer; simp
@[simp] theorem heardPeer_inputs : (s.heardPeer).inputs = s.inputs := by
  unfold State.heardPeer; simp
@[simp] theorem heardPeer_readings : (s.heardPeer).readings = s.readings := by
  unfold State.heardPeer; simp
@[simp] theorem heardPeer_ssu : (s.heardPeer).ssu = s.ssu := by
  unfold State.heardPeer; simp
@[simp] theorem heardPeer_psc : (s.heardPeer).psc = s.psc := by
  unfold State.heardPeer; simp
@[simp] theorem heardPeer_dsu : (s.heardPeer).dsu = s.dsu := by
  unfold State.heardPeer; simp
@[simp] theorem heardPeer_peers : (s.heardPeer).peers = s.peers := by
  unfold State.heardPeer; simp
@[simp] theorem heardPeer_cdir : (s.heardPeer).cdir = s.cdir := by
  unfold State.heardPeer; simp
@[simp] theorem heardPeer_kp : (s.heardPeer).kp = s.kp := by
  unfold State.heardPeer; simp
@[simp] theorem heardPeer_cp : (s.heardPeer).cp = s.cp := by
  unfold State.heardPeer; simp
@[simp] theorem heardPeer_pending : (s.heardPeer).pending = s.pending := by
  unfold State.heardPeer; simp
@[simp] theorem heardPeer_rx : (s.heardPeer).rx = s.rx := by
  unfold State.heardPeer; simp

@[simp] theorem rxError_now : (s.rxError).now = s.now := by
  unfold State.rxError; simp
@[simp] theorem rxError_sul : (s.rxError).sul = s.sul := by
  unfold State.rxError; simp
@[simp] theorem rxError_comps : (s.rxError).comps = s.comps := by
  unfold State.rxError; simp
@[simp] theorem rxError_doors : (s.rxError).doors = s.doors := by
  unfold State.rxError; simp
@[simp] theorem rxError_requestSerial : (s.rxError).requestSerial = s.requestSerial := by
  unfold State.rxError; simp
@[simp] theorem rxError_inputs : (s.rxError).inputs = s.inputs := by
  unfold State.rxError; simp
@[simp] theorem rxError_readings : (s.rxError).readings = s.readings := by
  unfold State.rxError; simp
@[simp] theorem rxError_ssu : (s.rxError).ssu = s.ssu := by
  unfold State.rxError; simp
@[simp] theorem rxError_psc : (s.rxError).psc = s.psc := by
  unfold State.rxError; simp
@[simp] theorem rxError_dsu : (s.rxError).dsu = s.dsu := by
  unfold State.rxError; simp
@[simp] theorem rxError_peers : (s.rxError).peers = s.peers := by
  unfold State.rxError; simp
@[simp] theorem rxError_cdir : (s.rxError).cdir = s.cdir := by
  unfold State.rxError; simp
@[simp] theorem rxError_kp : (s.rxError).kp = s.kp := by
  unfold State.rxError; simp
@[simp] theorem rxError_cp : (s.rxError).cp = s.cp := by
  unfold State.rxError; simp
@[simp] theorem rxError_pending : (s.rxError).pending = s.pending := by
  unfold State.rxError; simp
@[simp] theorem rxError_rx : (s.rxError).rx = s.rx := by
  unfold State.rxError; simp

@[simp] theorem reportMismatch_now : (s.reportMismatch).now = s.now := by
  unfold State.reportMismatch; simp
@[simp] theorem reportMismatch_sul : (s.reportMismatch).sul = s.sul := by
  unfold State.reportMismatch; simp
@[simp] theorem reportMismatch_comps : (s.reportMismatch).comps = s.comps := by
  unfold State.reportMismatch; simp
@[simp] theorem reportMismatch_doors : (s.reportMismatch).doors = s.doors := by
  unfold State.reportMismatch; simp
@[simp] theorem reportMismatch_requestSerial : (s.reportMismatch).requestSerial = s.requestSerial := by
  unfold State.reportMismatch; simp
@[simp] theorem reportMismatch_inputs : (s.reportMismatch).inputs = s.inputs := by
  unfold State.reportMismatch; simp
@[simp] theorem reportMismatch_readings : (s.reportMismatch).readings = s.readings := by
  unfold State.reportMismatch; simp
@[simp] theorem reportMismatch_ssu : (s.reportMismatch).ssu = s.ssu := by
  unfold State.reportMismatch; simp
@[simp] theorem reportMismatch_psc : (s.reportMismatch).psc = s.psc := by
  unfold State.reportMismatch; simp
@[simp] theorem reportMismatch_dsu : (s.reportMismatch).dsu = s.dsu := by
  unfold State.reportMismatch; simp
@[simp] theorem reportMismatch_peers : (s.reportMismatch).peers = s.peers := by
  unfold State.reportMismatch; simp
@[simp] theorem reportMismatch_cdir : (s.reportMismatch).cdir = s.cdir := by
  unfold State.reportMismatch; simp
@[simp] theorem reportMismatch_cp : (s.reportMismatch).cp = s.cp := by
  unfold State.reportMismatch; simp
@[simp] theorem reportMismatch_pending : (s.reportMismatch).pending = s.pending := by
  unfold State.reportMismatch; simp
@[simp] theorem reportMismatch_rx : (s.reportMismatch).rx = s.rx := by
  unfold State.reportMismatch; simp

@[simp] theorem compareParams_now (wc wr wg n : Nat) : (s.compareParams wc wr wg n).now = s.now := by
  unfold State.compareParams; (repeat' split) <;> simp
@[simp] theorem compareParams_sul (wc wr wg n : Nat) : (s.compareParams wc wr wg n).sul = s.sul := by
  unfold State.compareParams; (repeat' split) <;> simp
@[simp] theorem compareParams_doors (wc wr wg n : Nat) : (s.compareParams wc wr wg n).doors = s.doors := by
  unfold State.compareParams; (repeat' split) <;> simp
@[simp] theorem compareParams_requestSerial (wc wr wg n : Nat) : (s.compareParams wc wr wg n).requestSerial = s.requestSerial := by
  unfold State.compareParams; (repeat' split) <;> simp
@[simp] theorem compareParams_inputs (wc wr wg n : Nat) : (s.compareParams wc wr wg n).inputs = s.inputs := by
  unfold State.compareParams; (repeat' split) <;> simp
@[simp] theorem compareParams_ssu (wc wr wg n : Nat) : (s.compareParams wc wr wg n).ssu = s.ssu := by
  unfold State.compareParams; (repeat' split) <;> simp
@[simp] theorem compareParams_peers (wc wr wg n : Nat) : (s.compareParams wc wr wg n).peers = s.peers := by
  unfold State.compareParams; (repeat' split) <;> simp
@[simp] theorem compareParams_cdir (wc wr wg n : Nat) : (s.compareParams wc wr wg n).cdir = s.cdir := by
  unfold State.compareParams; (repeat' split) <;> simp
@[simp] theorem compareParams_cp (wc wr wg n : Nat) : (s.compareParams wc wr wg n).cp = s.cp := by
  unfold State.compareParams; (repeat' split) <;> simp
@[simp] theorem compareParams_pending (wc wr wg n : Nat) : (s.compareParams wc wr wg n).pending = s.pending := by
  unfold State.compareParams; (repeat' split) <;> simp
@[simp] theorem compareParams_rx (wc wr wg n : Nat) : (s.compareParams wc wr wg n).rx = s.rx := by
  unfold State.compareParams; (repeat' split) <;> simp

@[simp] theorem failAttempt_now : (s.failAttempt).now = s.now := by
  simp only [State.failAttempt]; (repeat' split) <;> simp
@[simp] theorem failAttempt_sul : (s.failAttempt).sul = s.sul := by
  simp only [State.failAttempt]; (repeat' split) <;> simp
@[simp] theorem failAttempt_doors : (s.failAttempt).doors = s.doors := by
  simp only [State.failAttempt]; (repeat' split) <;> simp
@[simp] theorem failAttempt_requestSerial : (s.failAttempt).requestSerial = s.requestSerial := by
  simp only [State.failAttempt]; (repeat' split) <;> simp
@[simp] theorem failAttempt_inputs : (s.failAttempt).inputs = s.inputs := by
  simp only [State.failAttempt]; (repeat' split) <;> simp
@[simp] theorem failAttempt_ssu : (s.failAttempt).ssu = s.ssu := by
  simp only [State.failAttempt]; (repeat' split) <;> simp
@[simp] theorem failAttempt_peers : (s.failAttempt).peers = s.peers := by
  simp only [State.failAttempt]; (repeat' split) <;> simp
@[simp] theorem failAttempt_cdir : (s.failAttempt).cdir = s.cdir := by
  simp only [State.failAttempt]; (repeat' split) <;> simp
@[simp] theorem failAttempt_cp : (s.failAttempt).cp = s.cp := by
  simp only [State.failAttempt]; (repeat' split) <;> simp
@[simp] theorem failAttempt_pending : (s.failAttempt).pending = s.pending := by
  simp only [State.failAttempt]; (repeat' split) <;> simp
@[simp] theorem failAttempt_rx : (s.failAttempt).rx = s.rx := by
  simp only [State.failAttempt]; (repeat' split) <;> simp

@[simp] theorem openWindow_now : (s.openWindow).now = s.now := by
  unfold State.openWindow; (repeat' split) <;> simp
@[simp] theorem openWindow_sul : (s.openWindow).sul = s.sul := by
  unfold State.openWindow; (repeat' split) <;> simp
@[simp] theorem openWindow_comps : (s.openWindow).comps = s.comps := by
  unfold State.openWindow; (repeat' split) <;> simp
@[simp] theorem openWindow_doors : (s.openWindow).doors = s.doors := by
  unfold State.openWindow; (repeat' split) <;> simp
@[simp] theorem openWindow_requestSerial : (s.openWindow).requestSerial = s.requestSerial := by
  unfold State.openWindow; (repeat' split) <;> simp
@[simp] theorem openWindow_inputs : (s.openWindow).inputs = s.inputs := by
  unfold State.openWindow; (repeat' split) <;> simp
@[simp] theorem openWindow_readings : (s.openWindow).readings = s.readings := by
  unfold State.openWindow; (repeat' split) <;> simp
@[simp] theorem openWindow_ssu : (s.openWindow).ssu = s.ssu := by
  unfold State.openWindow; (repeat' split) <;> simp
@[simp] theorem openWindow_psc : (s.openWindow).psc = s.psc := by
  unfold State.openWindow; (repeat' split) <;> simp
@[simp] theorem openWindow_peers : (s.openWindow).peers = s.peers := by
  unfold State.openWindow; (repeat' split) <;> simp
@[simp] theorem openWindow_lif : (s.openWindow).lif = s.lif := by
  unfold State.openWindow; (repeat' split) <;> simp
@[simp] theorem openWindow_cdir : (s.openWindow).cdir = s.cdir := by
  unfold State.openWindow; (repeat' split) <;> simp
@[simp] theorem openWindow_kp : (s.openWindow).kp = s.kp := by
  unfold State.openWindow; (repeat' split) <;> simp
@[simp] theorem openWindow_cp : (s.openWindow).cp = s.cp := by
  unfold State.openWindow; (repeat' split) <;> simp
@[simp] theorem openWindow_pending : (s.openWindow).pending = s.pending := by
  unfold State.openWindow; (repeat' split) <;> simp
@[simp] theorem openWindow_rx : (s.openWindow).rx = s.rx := by
  unfold State.openWindow; (repeat' split) <;> simp

@[simp] theorem silence_now : (s.silence).now = s.now := by
  unfold State.silence; simp
@[simp] theorem silence_sul : (s.silence).sul = s.sul := by
  unfold State.silence; simp
@[simp] theorem silence_comps : (s.silence).comps = s.comps := by
  unfold State.silence; simp
@[simp] theorem silence_doors : (s.silence).doors = s.doors := by
  unfold State.silence; simp
@[simp] theorem silence_requestSerial : (s.silence).requestSerial = s.requestSerial := by
  unfold State.silence; simp
@[simp] theorem silence_inputs : (s.silence).inputs = s.inputs := by
  unfold State.silence; simp
@[simp] theorem silence_readings : (s.silence).readings = s.readings := by
  unfold State.silence; simp
@[simp] theorem silence_ssu : (s.silence).ssu = s.ssu := by
  unfold State.silence; simp
@[simp] theorem silence_psc : (s.silence).psc = s.psc := by
  unfold State.silence; simp
@[simp] theorem silence_dsu : (s.silence).dsu = s.dsu := by
  unfold State.silence; simp
@[simp] theorem silence_peers : (s.silence).peers = s.peers := by
  unfold State.silence; simp
@[simp] theorem silence_cdir : (s.silence).cdir = s.cdir := by
  unfold State.silence; simp
@[simp] theorem silence_kp : (s.silence).kp = s.kp := by
  unfold State.silence; simp
@[simp] theorem silence_cp : (s.silence).cp = s.cp := by
  unfold State.silence; simp
@[simp] theorem silence_pending : (s.silence).pending = s.pending := by
  unfold State.silence; simp
@[simp] theorem silence_rx : (s.silence).rx = s.rx := by
  unfold State.silence; simp

@[simp] theorem reportCompleted_now (b : Buffered) : (s.reportCompleted b).now = s.now := by
  unfold State.reportCompleted; (repeat' split) <;> simp
@[simp] theorem reportCompleted_sul (b : Buffered) : (s.reportCompleted b).sul = s.sul := by
  unfold State.reportCompleted; (repeat' split) <;> simp
@[simp] theorem reportCompleted_comps (b : Buffered) : (s.reportCompleted b).comps = s.comps := by
  unfold State.reportCompleted; (repeat' split) <;> simp
@[simp] theorem reportCompleted_doors (b : Buffered) : (s.reportCompleted b).doors = s.doors := by
  unfold State.reportCompleted; (repeat' split) <;> simp
@[simp] theorem reportCompleted_requestSerial (b : Buffered) : (s.reportCompleted b).requestSerial = s.requestSerial := by
  unfold State.reportCompleted; (repeat' split) <;> simp
@[simp] theorem reportCompleted_inputs (b : Buffered) : (s.reportCompleted b).inputs = s.inputs := by
  unfold State.reportCompleted; (repeat' split) <;> simp
@[simp] theorem reportCompleted_readings (b : Buffered) : (s.reportCompleted b).readings = s.readings := by
  unfold State.reportCompleted; (repeat' split) <;> simp
@[simp] theorem reportCompleted_ssu (b : Buffered) : (s.reportCompleted b).ssu = s.ssu := by
  unfold State.reportCompleted; (repeat' split) <;> simp
@[simp] theorem reportCompleted_psc (b : Buffered) : (s.reportCompleted b).psc = s.psc := by
  unfold State.reportCompleted; (repeat' split) <;> simp
@[simp] theorem reportCompleted_peers (b : Buffered) : (s.reportCompleted b).peers = s.peers := by
  unfold State.reportCompleted; (repeat' split) <;> simp
@[simp] theorem reportCompleted_cdir (b : Buffered) : (s.reportCompleted b).cdir = s.cdir := by
  unfold State.reportCompleted; (repeat' split) <;> simp
@[simp] theorem reportCompleted_kp (b : Buffered) : (s.reportCompleted b).kp = s.kp := by
  unfold State.reportCompleted; (repeat' split) <;> simp
@[simp] theorem reportCompleted_cp (b : Buffered) : (s.reportCompleted b).cp = s.cp := by
  unfold State.reportCompleted; (repeat' split) <;> simp
@[simp] theorem reportCompleted_pending (b : Buffered) : (s.reportCompleted b).pending = s.pending := by
  unfold State.reportCompleted; (repeat' split) <;> simp
@[simp] theorem reportCompleted_rx (b : Buffered) : (s.reportCompleted b).rx = s.rx := by
  unfold State.reportCompleted; (repeat' split) <;> simp

@[simp] theorem completeAttempt_now (b : Buffered) : (s.completeAttempt b).now = s.now := by
  simp only [State.completeAttempt]; (repeat' split) <;> simp
@[simp] theorem completeAttempt_sul (b : Buffered) : (s.completeAttempt b).sul = s.sul := by
  simp only [State.completeAttempt]; (repeat' split) <;> simp
@[simp] theorem completeAttempt_doors (b : Buffered) : (s.completeAttempt b).doors = s.doors := by
  simp only [State.completeAttempt]; (repeat' split) <;> simp
@[simp] theorem completeAttempt_requestSerial (b : Buffered) : (s.completeAttempt b).requestSerial = s.requestSerial := by
  simp only [State.completeAttempt]; (repeat' split) <;> simp
@[simp] theorem completeAttempt_inputs (b : Buffered) : (s.completeAttempt b).inputs = s.inputs := by
  simp only [State.completeAttempt]; (repeat' split) <;> simp
@[simp] theorem completeAttempt_ssu (b : Buffered) : (s.completeAttempt b).ssu = s.ssu := by
  simp only [State.completeAttempt]; (repeat' split) <;> simp
@[simp] theorem completeAttempt_peers (b : Buffered) : (s.completeAttempt b).peers = s.peers := by
  simp only [State.completeAttempt]; (repeat' split) <;> simp
@[simp] theorem completeAttempt_cdir (b : Buffered) : (s.completeAttempt b).cdir = s.cdir := by
  simp only [State.completeAttempt]; (repeat' split) <;> simp
@[simp] theorem completeAttempt_cp (b : Buffered) : (s.completeAttempt b).cp = s.cp := by
  simp only [State.completeAttempt]; (repeat' split) <;> simp
@[simp] theorem completeAttempt_pending (b : Buffered) : (s.completeAttempt b).pending = s.pending := by
  simp only [State.completeAttempt]; (repeat' split) <;> simp
@[simp] theorem completeAttempt_rx (b : Buffered) : (s.completeAttempt b).rx = s.rx := by
  simp only [State.completeAttempt]; (repeat' split) <;> simp

@[simp] theorem afterPeerChange_now (n : Nat) : (s.afterPeerChange n).now = s.now := by
  unfold State.afterPeerChange; (repeat' split) <;> simp
@[simp] theorem afterPeerChange_sul (n : Nat) : (s.afterPeerChange n).sul = s.sul := by
  unfold State.afterPeerChange; (repeat' split) <;> simp
@[simp] theorem afterPeerChange_doors (n : Nat) : (s.afterPeerChange n).doors = s.doors := by
  unfold State.afterPeerChange; (repeat' split) <;> simp
@[simp] theorem afterPeerChange_requestSerial (n : Nat) : (s.afterPeerChange n).requestSerial = s.requestSerial := by
  unfold State.afterPeerChange; (repeat' split) <;> simp
@[simp] theorem afterPeerChange_inputs (n : Nat) : (s.afterPeerChange n).inputs = s.inputs := by
  unfold State.afterPeerChange; (repeat' split) <;> simp
@[simp] theorem afterPeerChange_ssu (n : Nat) : (s.afterPeerChange n).ssu = s.ssu := by
  unfold State.afterPeerChange; (repeat' split) <;> simp
@[simp] theorem afterPeerChange_peers (n : Nat) : (s.afterPeerChange n).peers = s.peers := by
  unfold State.afterPeerChange; (repeat' split) <;> simp
@[simp] theorem afterPeerChange_cdir (n : Nat) : (s.afterPeerChange n).cdir = s.cdir := by
  unfold State.afterPeerChange; (repeat' split) <;> simp
@[simp] theorem afterPeerChange_kp (n : Nat) : (s.afterPeerChange n).kp = s.kp := by
  unfold State.afterPeerChange; (repeat' split) <;> simp
@[simp] theorem afterPeerChange_cp (n : Nat) : (s.afterPeerChange n).cp = s.cp := by
  unfold State.afterPeerChange; (repeat' split) <;> simp
@[simp] theorem afterPeerChange_pending (n : Nat) : (s.afterPeerChange n).pending = s.pending := by
  unfold State.afterPeerChange; (repeat' split) <;> simp
@[simp] theorem afterPeerChange_rx (n : Nat) : (s.afterPeerChange n).rx = s.rx := by
  unfold State.afterPeerChange; (repeat' split) <;> simp

@[simp] theorem endLookup_now (o : COutcome) (a : Option Nat) : (s.endLookup o a).now = s.now := by
  unfold State.endLookup; simp
@[simp] theorem endLookup_sul (o : COutcome) (a : Option Nat) : (s.endLookup o a).sul = s.sul := by
  unfold State.endLookup; simp
@[simp] theorem endLookup_comps (o : COutcome) (a : Option Nat) : (s.endLookup o a).comps = s.comps := by
  unfold State.endLookup; simp
@[simp] theorem endLookup_doors (o : COutcome) (a : Option Nat) : (s.endLookup o a).doors = s.doors := by
  unfold State.endLookup; simp
@[simp] theorem endLookup_requestSerial (o : COutcome) (a : Option Nat) : (s.endLookup o a).requestSerial = s.requestSerial := by
  unfold State.endLookup; simp
@[simp] theorem endLookup_inputs (o : COutcome) (a : Option Nat) : (s.endLookup o a).inputs = s.inputs := by
  unfold State.endLookup; simp
@[simp] theorem endLookup_readings (o : COutcome) (a : Option Nat) : (s.endLookup o a).readings = s.readings := by
  unfold State.endLookup; simp
@[simp] theorem endLookup_ssu (o : COutcome) (a : Option Nat) : (s.endLookup o a).ssu = s.ssu := by
  unfold State.endLookup; simp
@[simp] theorem endLookup_psc (o : COutcome) (a : Option Nat) : (s.endLookup o a).psc = s.psc := by
  unfold State.endLookup; simp
@[simp] theorem endLookup_dsu (o : COutcome) (a : Option Nat) : (s.endLookup o a).dsu = s.dsu := by
  unfold State.endLookup; simp
@[simp] theorem endLookup_peers (o : COutcome) (a : Option Nat) : (s.endLookup o a).peers = s.peers := by
  unfold State.endLookup; simp
@[simp] theorem endLookup_lif (o : COutcome) (a : Option Nat) : (s.endLookup o a).lif = s.lif := by
  unfold State.endLookup; simp
@[simp] theorem endLookup_kp (o : COutcome) (a : Option Nat) : (s.endLookup o a).kp = s.kp := by
  unfold State.endLookup; simp
@[simp] theorem endLookup_pending (o : COutcome) (a : Option Nat) : (s.endLookup o a).pending = s.pending := by
  unfold State.endLookup; simp
@[simp] theorem endLookup_rx (o : COutcome) (a : Option Nat) : (s.endLookup o a).rx = s.rx := by
  unfold State.endLookup; simp

@[simp] theorem stowedHeard_now (sender tag comp cls : Nat) : (s.stowedHeard sender tag comp cls).now = s.now := by
  simp only [State.stowedHeard]; (repeat' split) <;> simp
@[simp] theorem stowedHeard_sul (sender tag comp cls : Nat) : (s.stowedHeard sender tag comp cls).sul = s.sul := by
  simp only [State.stowedHeard]; (repeat' split) <;> simp
@[simp] theorem stowedHeard_comps (sender tag comp cls : Nat) : (s.stowedHeard sender tag comp cls).comps = s.comps := by
  simp only [State.stowedHeard]; (repeat' split) <;> simp
@[simp] theorem stowedHeard_doors (sender tag comp cls : Nat) : (s.stowedHeard sender tag comp cls).doors = s.doors := by
  simp only [State.stowedHeard]; (repeat' split) <;> simp
@[simp] theorem stowedHeard_requestSerial (sender tag comp cls : Nat) : (s.stowedHeard sender tag comp cls).requestSerial = s.requestSerial := by
  simp only [State.stowedHeard]; (repeat' split) <;> simp
@[simp] theorem stowedHeard_inputs (sender tag comp cls : Nat) : (s.stowedHeard sender tag comp cls).inputs = s.inputs := by
  simp only [State.stowedHeard]; (repeat' split) <;> simp
@[simp] theorem stowedHeard_readings (sender tag comp cls : Nat) : (s.stowedHeard sender tag comp cls).readings = s.readings := by
  simp only [State.stowedHeard]; (repeat' split) <;> simp
@[simp] theorem stowedHeard_ssu (sender tag comp cls : Nat) : (s.stowedHeard sender tag comp cls).ssu = s.ssu := by
  simp only [State.stowedHeard]; (repeat' split) <;> simp
@[simp] theorem stowedHeard_psc (sender tag comp cls : Nat) : (s.stowedHeard sender tag comp cls).psc = s.psc := by
  simp only [State.stowedHeard]; (repeat' split) <;> simp
@[simp] theorem stowedHeard_dsu (sender tag comp cls : Nat) : (s.stowedHeard sender tag comp cls).dsu = s.dsu := by
  simp only [State.stowedHeard]; (repeat' split) <;> simp
@[simp] theorem stowedHeard_peers (sender tag comp cls : Nat) : (s.stowedHeard sender tag comp cls).peers = s.peers := by
  simp only [State.stowedHeard]; (repeat' split) <;> simp
@[simp] theorem stowedHeard_lif (sender tag comp cls : Nat) : (s.stowedHeard sender tag comp cls).lif = s.lif := by
  simp only [State.stowedHeard]; (repeat' split) <;> simp
@[simp] theorem stowedHeard_pending (sender tag comp cls : Nat) : (s.stowedHeard sender tag comp cls).pending = s.pending := by
  simp only [State.stowedHeard]; (repeat' split) <;> simp
@[simp] theorem stowedHeard_rx (sender tag comp cls : Nat) : (s.stowedHeard sender tag comp cls).rx = s.rx := by
  simp only [State.stowedHeard]; (repeat' split) <;> simp

@[simp] theorem goneHeard_now (sender tag : Nat) (r : GoneReason) : (s.goneHeard sender tag r).now = s.now := by
  simp only [State.goneHeard]; (repeat' split) <;> simp
@[simp] theorem goneHeard_sul (sender tag : Nat) (r : GoneReason) : (s.goneHeard sender tag r).sul = s.sul := by
  simp only [State.goneHeard]; (repeat' split) <;> simp
@[simp] theorem goneHeard_comps (sender tag : Nat) (r : GoneReason) : (s.goneHeard sender tag r).comps = s.comps := by
  simp only [State.goneHeard]; (repeat' split) <;> simp
@[simp] theorem goneHeard_doors (sender tag : Nat) (r : GoneReason) : (s.goneHeard sender tag r).doors = s.doors := by
  simp only [State.goneHeard]; (repeat' split) <;> simp
@[simp] theorem goneHeard_requestSerial (sender tag : Nat) (r : GoneReason) : (s.goneHeard sender tag r).requestSerial = s.requestSerial := by
  simp only [State.goneHeard]; (repeat' split) <;> simp
@[simp] theorem goneHeard_inputs (sender tag : Nat) (r : GoneReason) : (s.goneHeard sender tag r).inputs = s.inputs := by
  simp only [State.goneHeard]; (repeat' split) <;> simp
@[simp] theorem goneHeard_readings (sender tag : Nat) (r : GoneReason) : (s.goneHeard sender tag r).readings = s.readings := by
  simp only [State.goneHeard]; (repeat' split) <;> simp
@[simp] theorem goneHeard_ssu (sender tag : Nat) (r : GoneReason) : (s.goneHeard sender tag r).ssu = s.ssu := by
  simp only [State.goneHeard]; (repeat' split) <;> simp
@[simp] theorem goneHeard_psc (sender tag : Nat) (r : GoneReason) : (s.goneHeard sender tag r).psc = s.psc := by
  simp only [State.goneHeard]; (repeat' split) <;> simp
@[simp] theorem goneHeard_dsu (sender tag : Nat) (r : GoneReason) : (s.goneHeard sender tag r).dsu = s.dsu := by
  simp only [State.goneHeard]; (repeat' split) <;> simp
@[simp] theorem goneHeard_peers (sender tag : Nat) (r : GoneReason) : (s.goneHeard sender tag r).peers = s.peers := by
  simp only [State.goneHeard]; (repeat' split) <;> simp
@[simp] theorem goneHeard_lif (sender tag : Nat) (r : GoneReason) : (s.goneHeard sender tag r).lif = s.lif := by
  simp only [State.goneHeard]; (repeat' split) <;> simp
@[simp] theorem goneHeard_kp (sender tag : Nat) (r : GoneReason) : (s.goneHeard sender tag r).kp = s.kp := by
  simp only [State.goneHeard]; (repeat' split) <;> simp
@[simp] theorem goneHeard_pending (sender tag : Nat) (r : GoneReason) : (s.goneHeard sender tag r).pending = s.pending := by
  simp only [State.goneHeard]; (repeat' split) <;> simp
@[simp] theorem goneHeard_rx (sender tag : Nat) (r : GoneReason) : (s.goneHeard sender tag r).rx = s.rx := by
  simp only [State.goneHeard]; (repeat' split) <;> simp

@[simp] theorem queryHeard_now (tag : Nat) : (s.queryHeard tag).now = s.now := by
  unfold State.queryHeard; (repeat' split) <;> simp
@[simp] theorem queryHeard_sul (tag : Nat) : (s.queryHeard tag).sul = s.sul := by
  unfold State.queryHeard; (repeat' split) <;> simp
@[simp] theorem queryHeard_comps (tag : Nat) : (s.queryHeard tag).comps = s.comps := by
  unfold State.queryHeard; (repeat' split) <;> simp
@[simp] theorem queryHeard_doors (tag : Nat) : (s.queryHeard tag).doors = s.doors := by
  unfold State.queryHeard; (repeat' split) <;> simp
@[simp] theorem queryHeard_requestSerial (tag : Nat) : (s.queryHeard tag).requestSerial = s.requestSerial := by
  unfold State.queryHeard; (repeat' split) <;> simp
@[simp] theorem queryHeard_inputs (tag : Nat) : (s.queryHeard tag).inputs = s.inputs := by
  unfold State.queryHeard; (repeat' split) <;> simp
@[simp] theorem queryHeard_readings (tag : Nat) : (s.queryHeard tag).readings = s.readings := by
  unfold State.queryHeard; (repeat' split) <;> simp
@[simp] theorem queryHeard_ssu (tag : Nat) : (s.queryHeard tag).ssu = s.ssu := by
  unfold State.queryHeard; (repeat' split) <;> simp
@[simp] theorem queryHeard_psc (tag : Nat) : (s.queryHeard tag).psc = s.psc := by
  unfold State.queryHeard; (repeat' split) <;> simp
@[simp] theorem queryHeard_dsu (tag : Nat) : (s.queryHeard tag).dsu = s.dsu := by
  unfold State.queryHeard; (repeat' split) <;> simp
@[simp] theorem queryHeard_peers (tag : Nat) : (s.queryHeard tag).peers = s.peers := by
  unfold State.queryHeard; (repeat' split) <;> simp
@[simp] theorem queryHeard_cdir (tag : Nat) : (s.queryHeard tag).cdir = s.cdir := by
  unfold State.queryHeard; (repeat' split) <;> simp
@[simp] theorem queryHeard_kp (tag : Nat) : (s.queryHeard tag).kp = s.kp := by
  unfold State.queryHeard; (repeat' split) <;> simp
@[simp] theorem queryHeard_cp (tag : Nat) : (s.queryHeard tag).cp = s.cp := by
  unfold State.queryHeard; (repeat' split) <;> simp
@[simp] theorem queryHeard_pending (tag : Nat) : (s.queryHeard tag).pending = s.pending := by
  unfold State.queryHeard; (repeat' split) <;> simp
@[simp] theorem queryHeard_rx (tag : Nat) : (s.queryHeard tag).rx = s.rx := by
  unfold State.queryHeard; (repeat' split) <;> simp

@[simp] theorem helloFreshHeard_now (sender wc wr wg n : Nat) : (s.helloFreshHeard sender wc wr wg n).now = s.now := by
  unfold State.helloFreshHeard; simp
@[simp] theorem helloFreshHeard_sul (sender wc wr wg n : Nat) : (s.helloFreshHeard sender wc wr wg n).sul = s.sul := by
  unfold State.helloFreshHeard; simp
@[simp] theorem helloFreshHeard_doors (sender wc wr wg n : Nat) : (s.helloFreshHeard sender wc wr wg n).doors = s.doors := by
  unfold State.helloFreshHeard; simp
@[simp] theorem helloFreshHeard_requestSerial (sender wc wr wg n : Nat) : (s.helloFreshHeard sender wc wr wg n).requestSerial = s.requestSerial := by
  unfold State.helloFreshHeard; simp
@[simp] theorem helloFreshHeard_inputs (sender wc wr wg n : Nat) : (s.helloFreshHeard sender wc wr wg n).inputs = s.inputs := by
  unfold State.helloFreshHeard; simp
@[simp] theorem helloFreshHeard_ssu (sender wc wr wg n : Nat) : (s.helloFreshHeard sender wc wr wg n).ssu = s.ssu := by
  unfold State.helloFreshHeard; simp
@[simp] theorem helloFreshHeard_cp (sender wc wr wg n : Nat) : (s.helloFreshHeard sender wc wr wg n).cp = s.cp := by
  unfold State.helloFreshHeard; simp
@[simp] theorem helloFreshHeard_pending (sender wc wr wg n : Nat) : (s.helloFreshHeard sender wc wr wg n).pending = s.pending := by
  unfold State.helloFreshHeard; simp
@[simp] theorem helloFreshHeard_rx (sender wc wr wg n : Nat) : (s.helloFreshHeard sender wc wr wg n).rx = s.rx := by
  unfold State.helloFreshHeard; simp

@[simp] theorem helloAnswerHeard_now (sender wc wr wg n : Nat) : (s.helloAnswerHeard sender wc wr wg n).now = s.now := by
  unfold State.helloAnswerHeard; simp
@[simp] theorem helloAnswerHeard_sul (sender wc wr wg n : Nat) : (s.helloAnswerHeard sender wc wr wg n).sul = s.sul := by
  unfold State.helloAnswerHeard; simp
@[simp] theorem helloAnswerHeard_doors (sender wc wr wg n : Nat) : (s.helloAnswerHeard sender wc wr wg n).doors = s.doors := by
  unfold State.helloAnswerHeard; simp
@[simp] theorem helloAnswerHeard_requestSerial (sender wc wr wg n : Nat) : (s.helloAnswerHeard sender wc wr wg n).requestSerial = s.requestSerial := by
  unfold State.helloAnswerHeard; simp
@[simp] theorem helloAnswerHeard_inputs (sender wc wr wg n : Nat) : (s.helloAnswerHeard sender wc wr wg n).inputs = s.inputs := by
  unfold State.helloAnswerHeard; simp
@[simp] theorem helloAnswerHeard_ssu (sender wc wr wg n : Nat) : (s.helloAnswerHeard sender wc wr wg n).ssu = s.ssu := by
  unfold State.helloAnswerHeard; simp
@[simp] theorem helloAnswerHeard_cdir (sender wc wr wg n : Nat) : (s.helloAnswerHeard sender wc wr wg n).cdir = s.cdir := by
  unfold State.helloAnswerHeard; simp
@[simp] theorem helloAnswerHeard_cp (sender wc wr wg n : Nat) : (s.helloAnswerHeard sender wc wr wg n).cp = s.cp := by
  unfold State.helloAnswerHeard; simp
@[simp] theorem helloAnswerHeard_pending (sender wc wr wg n : Nat) : (s.helloAnswerHeard sender wc wr wg n).pending = s.pending := by
  unfold State.helloAnswerHeard; simp
@[simp] theorem helloAnswerHeard_rx (sender wc wr wg n : Nat) : (s.helloAnswerHeard sender wc wr wg n).rx = s.rx := by
  unfold State.helloAnswerHeard; simp

@[simp] theorem claimResult_now (g : Bool) : (s.claimResult g).now = s.now := by
  unfold State.claimResult; (repeat' split) <;> simp
@[simp] theorem claimResult_sul (g : Bool) : (s.claimResult g).sul = s.sul := by
  unfold State.claimResult; (repeat' split) <;> simp
@[simp] theorem claimResult_doors (g : Bool) : (s.claimResult g).doors = s.doors := by
  unfold State.claimResult; (repeat' split) <;> simp
@[simp] theorem claimResult_requestSerial (g : Bool) : (s.claimResult g).requestSerial = s.requestSerial := by
  unfold State.claimResult; (repeat' split) <;> simp
@[simp] theorem claimResult_inputs (g : Bool) : (s.claimResult g).inputs = s.inputs := by
  unfold State.claimResult; (repeat' split) <;> simp
@[simp] theorem claimResult_ssu (g : Bool) : (s.claimResult g).ssu = s.ssu := by
  unfold State.claimResult; (repeat' split) <;> simp
@[simp] theorem claimResult_peers (g : Bool) : (s.claimResult g).peers = s.peers := by
  unfold State.claimResult; (repeat' split) <;> simp
@[simp] theorem claimResult_cdir (g : Bool) : (s.claimResult g).cdir = s.cdir := by
  unfold State.claimResult; (repeat' split) <;> simp
@[simp] theorem claimResult_kp (g : Bool) : (s.claimResult g).kp = s.kp := by
  unfold State.claimResult; (repeat' split) <;> simp
@[simp] theorem claimResult_cp (g : Bool) : (s.claimResult g).cp = s.cp := by
  unfold State.claimResult; (repeat' split) <;> simp
@[simp] theorem claimResult_pending (g : Bool) : (s.claimResult g).pending = s.pending := by
  unfold State.claimResult; (repeat' split) <;> simp
@[simp] theorem claimResult_rx (g : Bool) : (s.claimResult g).rx = s.rx := by
  unfold State.claimResult; (repeat' split) <;> simp

end Sys2Proof.Machine
end

