-- ==== Sys2Proof/Laws/FrameTable.lean ====
section
/-! SUPPORT. What the operations of the Compartment Table leave alone: one lemma for each field of the state an operation
does not touch. -/

namespace Sys2Proof.Machine

variable (s : State)

@[simp] theorem setService_now (m : ServiceMode) : (s.setService m).now = s.now := by
  unfold State.setService; simp
@[simp] theorem setService_comps (m : ServiceMode) : (s.setService m).comps = s.comps := by
  unfold State.setService; simp
@[simp] theorem setService_doors (m : ServiceMode) : (s.setService m).doors = s.doors := by
  unfold State.setService; simp
@[simp] theorem setService_requestSerial (m : ServiceMode) : (s.setService m).requestSerial = s.requestSerial := by
  unfold State.setService; simp
@[simp] theorem setService_inputs (m : ServiceMode) : (s.setService m).inputs = s.inputs := by
  unfold State.setService; simp
@[simp] theorem setService_readings (m : ServiceMode) : (s.setService m).readings = s.readings := by
  unfold State.setService; simp
@[simp] theorem setService_ssu (m : ServiceMode) : (s.setService m).ssu = s.ssu := by
  unfold State.setService; simp
@[simp] theorem setService_psc (m : ServiceMode) : (s.setService m).psc = s.psc := by
  unfold State.setService; simp
@[simp] theorem setService_dsu (m : ServiceMode) : (s.setService m).dsu = s.dsu := by
  unfold State.setService; simp
@[simp] theorem setService_peers (m : ServiceMode) : (s.setService m).peers = s.peers := by
  unfold State.setService; simp
@[simp] theorem setService_cdir (m : ServiceMode) : (s.setService m).cdir = s.cdir := by
  unfold State.setService; simp
@[simp] theorem setService_kp (m : ServiceMode) : (s.setService m).kp = s.kp := by
  unfold State.setService; simp
@[simp] theorem setService_cp (m : ServiceMode) : (s.setService m).cp = s.cp := by
  unfold State.setService; simp
@[simp] theorem setService_pending (m : ServiceMode) : (s.setService m).pending = s.pending := by
  unfold State.setService; simp
@[simp] theorem setService_rx (m : ServiceMode) : (s.setService m).rx = s.rx := by
  unfold State.setService; simp

@[simp] theorem queueGone_now (c : Nat) (r : GoneReason) : (s.queueGone c r).now = s.now := by
  unfold State.queueGone; (repeat' split) <;> simp
@[simp] theorem queueGone_sul (c : Nat) (r : GoneReason) : (s.queueGone c r).sul = s.sul := by
  unfold State.queueGone; (repeat' split) <;> simp
@[simp] theorem queueGone_comps (c : Nat) (r : GoneReason) : (s.queueGone c r).comps = s.comps := by
  unfold State.queueGone; (repeat' split) <;> simp
@[simp] theorem queueGone_doors (c : Nat) (r : GoneReason) : (s.queueGone c r).doors = s.doors := by
  unfold State.queueGone; (repeat' split) <;> simp
@[simp] theorem queueGone_requestSerial (c : Nat) (r : GoneReason) : (s.queueGone c r).requestSerial = s.requestSerial := by
  unfold State.queueGone; (repeat' split) <;> simp
@[simp] theorem queueGone_inputs (c : Nat) (r : GoneReason) : (s.queueGone c r).inputs = s.inputs := by
  unfold State.queueGone; (repeat' split) <;> simp
@[simp] theorem queueGone_readings (c : Nat) (r : GoneReason) : (s.queueGone c r).readings = s.readings := by
  unfold State.queueGone; (repeat' split) <;> simp
@[simp] theorem queueGone_ssu (c : Nat) (r : GoneReason) : (s.queueGone c r).ssu = s.ssu := by
  unfold State.queueGone; (repeat' split) <;> simp
@[simp] theorem queueGone_psc (c : Nat) (r : GoneReason) : (s.queueGone c r).psc = s.psc := by
  unfold State.queueGone; (repeat' split) <;> simp
@[simp] theorem queueGone_dsu (c : Nat) (r : GoneReason) : (s.queueGone c r).dsu = s.dsu := by
  unfold State.queueGone; (repeat' split) <;> simp
@[simp] theorem queueGone_peers (c : Nat) (r : GoneReason) : (s.queueGone c r).peers = s.peers := by
  unfold State.queueGone; (repeat' split) <;> simp
@[simp] theorem queueGone_cdir (c : Nat) (r : GoneReason) : (s.queueGone c r).cdir = s.cdir := by
  unfold State.queueGone; (repeat' split) <;> simp
@[simp] theorem queueGone_kp (c : Nat) (r : GoneReason) : (s.queueGone c r).kp = s.kp := by
  unfold State.queueGone; (repeat' split) <;> simp
@[simp] theorem queueGone_cp (c : Nat) (r : GoneReason) : (s.queueGone c r).cp = s.cp := by
  unfold State.queueGone; (repeat' split) <;> simp
@[simp] theorem queueGone_pending (c : Nat) (r : GoneReason) : (s.queueGone c r).pending = s.pending := by
  unfold State.queueGone; (repeat' split) <;> simp
@[simp] theorem queueGone_rx (c : Nat) (r : GoneReason) : (s.queueGone c r).rx = s.rx := by
  unfold State.queueGone; (repeat' split) <;> simp

@[simp] theorem condemn_now (c : Nat) (r : CondemnReason) : (s.condemn c r).now = s.now := by
  unfold State.condemn; simp
@[simp] theorem condemn_sul (c : Nat) (r : CondemnReason) : (s.condemn c r).sul = s.sul := by
  unfold State.condemn; simp
@[simp] theorem condemn_doors (c : Nat) (r : CondemnReason) : (s.condemn c r).doors = s.doors := by
  unfold State.condemn; simp
@[simp] theorem condemn_requestSerial (c : Nat) (r : CondemnReason) : (s.condemn c r).requestSerial = s.requestSerial := by
  unfold State.condemn; simp
@[simp] theorem condemn_inputs (c : Nat) (r : CondemnReason) : (s.condemn c r).inputs = s.inputs := by
  unfold State.condemn; simp
@[simp] theorem condemn_ssu (c : Nat) (r : CondemnReason) : (s.condemn c r).ssu = s.ssu := by
  unfold State.condemn; simp
@[simp] theorem condemn_dsu (c : Nat) (r : CondemnReason) : (s.condemn c r).dsu = s.dsu := by
  unfold State.condemn; simp
@[simp] theorem condemn_peers (c : Nat) (r : CondemnReason) : (s.condemn c r).peers = s.peers := by
  unfold State.condemn; simp
@[simp] theorem condemn_cdir (c : Nat) (r : CondemnReason) : (s.condemn c r).cdir = s.cdir := by
  unfold State.condemn; simp
@[simp] theorem condemn_cp (c : Nat) (r : CondemnReason) : (s.condemn c r).cp = s.cp := by
  unfold State.condemn; simp
@[simp] theorem condemn_pending (c : Nat) (r : CondemnReason) : (s.condemn c r).pending = s.pending := by
  unfold State.condemn; simp
@[simp] theorem condemn_rx (c : Nat) (r : CondemnReason) : (s.condemn c r).rx = s.rx := by
  unfold State.condemn; simp

@[simp] theorem condemnReport_now (c : Nat) (r : CondemnReason) : (s.condemnReport c r).now = s.now := by
  unfold State.condemnReport; (repeat' split) <;> simp
@[simp] theorem condemnReport_sul (c : Nat) (r : CondemnReason) : (s.condemnReport c r).sul = s.sul := by
  unfold State.condemnReport; (repeat' split) <;> simp
@[simp] theorem condemnReport_doors (c : Nat) (r : CondemnReason) : (s.condemnReport c r).doors = s.doors := by
  unfold State.condemnReport; (repeat' split) <;> simp
@[simp] theorem condemnReport_requestSerial (c : Nat) (r : CondemnReason) : (s.condemnReport c r).requestSerial = s.requestSerial := by
  unfold State.condemnReport; (repeat' split) <;> simp
@[simp] theorem condemnReport_inputs (c : Nat) (r : CondemnReason) : (s.condemnReport c r).inputs = s.inputs := by
  unfold State.condemnReport; (repeat' split) <;> simp
@[simp] theorem condemnReport_ssu (c : Nat) (r : CondemnReason) : (s.condemnReport c r).ssu = s.ssu := by
  unfold State.condemnReport; (repeat' split) <;> simp
@[simp] theorem condemnReport_dsu (c : Nat) (r : CondemnReason) : (s.condemnReport c r).dsu = s.dsu := by
  unfold State.condemnReport; (repeat' split) <;> simp
@[simp] theorem condemnReport_peers (c : Nat) (r : CondemnReason) : (s.condemnReport c r).peers = s.peers := by
  unfold State.condemnReport; (repeat' split) <;> simp
@[simp] theorem condemnReport_cdir (c : Nat) (r : CondemnReason) : (s.condemnReport c r).cdir = s.cdir := by
  unfold State.condemnReport; (repeat' split) <;> simp
@[simp] theorem condemnReport_cp (c : Nat) (r : CondemnReason) : (s.condemnReport c r).cp = s.cp := by
  unfold State.condemnReport; (repeat' split) <;> simp
@[simp] theorem condemnReport_pending (c : Nat) (r : CondemnReason) : (s.condemnReport c r).pending = s.pending := by
  unfold State.condemnReport; (repeat' split) <;> simp
@[simp] theorem condemnReport_rx (c : Nat) (r : CondemnReason) : (s.condemnReport c r).rx = s.rx := by
  unfold State.condemnReport; (repeat' split) <;> simp

@[simp] theorem forcedReport_now (c : Nat) : (s.forcedReport c).now = s.now := by
  unfold State.forcedReport; (repeat' split) <;> simp
@[simp] theorem forcedReport_sul (c : Nat) : (s.forcedReport c).sul = s.sul := by
  unfold State.forcedReport; (repeat' split) <;> simp
@[simp] theorem forcedReport_doors (c : Nat) : (s.forcedReport c).doors = s.doors := by
  unfold State.forcedReport; (repeat' split) <;> simp
@[simp] theorem forcedReport_requestSerial (c : Nat) : (s.forcedReport c).requestSerial = s.requestSerial := by
  unfold State.forcedReport; (repeat' split) <;> simp
@[simp] theorem forcedReport_inputs (c : Nat) : (s.forcedReport c).inputs = s.inputs := by
  unfold State.forcedReport; (repeat' split) <;> simp
@[simp] theorem forcedReport_ssu (c : Nat) : (s.forcedReport c).ssu = s.ssu := by
  unfold State.forcedReport; (repeat' split) <;> simp
@[simp] theorem forcedReport_dsu (c : Nat) : (s.forcedReport c).dsu = s.dsu := by
  unfold State.forcedReport; (repeat' split) <;> simp
@[simp] theorem forcedReport_peers (c : Nat) : (s.forcedReport c).peers = s.peers := by
  unfold State.forcedReport; (repeat' split) <;> simp
@[simp] theorem forcedReport_cdir (c : Nat) : (s.forcedReport c).cdir = s.cdir := by
  unfold State.forcedReport; (repeat' split) <;> simp
@[simp] theorem forcedReport_cp (c : Nat) : (s.forcedReport c).cp = s.cp := by
  unfold State.forcedReport; (repeat' split) <;> simp
@[simp] theorem forcedReport_pending (c : Nat) : (s.forcedReport c).pending = s.pending := by
  unfold State.forcedReport; (repeat' split) <;> simp
@[simp] theorem forcedReport_rx (c : Nat) : (s.forcedReport c).rx = s.rx := by
  unfold State.forcedReport; (repeat' split) <;> simp

@[simp] theorem faultEntry_now (c : Nat) (r : FaultReason) : (s.faultEntry c r).now = s.now := by
  simp only [State.faultEntry]; (repeat' split) <;> simp
@[simp] theorem faultEntry_sul (c : Nat) (r : FaultReason) : (s.faultEntry c r).sul = s.sul := by
  simp only [State.faultEntry]; (repeat' split) <;> simp
@[simp] theorem faultEntry_doors (c : Nat) (r : FaultReason) : (s.faultEntry c r).doors = s.doors := by
  simp only [State.faultEntry]; (repeat' split) <;> simp
@[simp] theorem faultEntry_requestSerial (c : Nat) (r : FaultReason) : (s.faultEntry c r).requestSerial = s.requestSerial := by
  simp only [State.faultEntry]; (repeat' split) <;> simp
@[simp] theorem faultEntry_inputs (c : Nat) (r : FaultReason) : (s.faultEntry c r).inputs = s.inputs := by
  simp only [State.faultEntry]; (repeat' split) <;> simp
@[simp] theorem faultEntry_ssu (c : Nat) (r : FaultReason) : (s.faultEntry c r).ssu = s.ssu := by
  simp only [State.faultEntry]; (repeat' split) <;> simp
@[simp] theorem faultEntry_dsu (c : Nat) (r : FaultReason) : (s.faultEntry c r).dsu = s.dsu := by
  simp only [State.faultEntry]; (repeat' split) <;> simp
@[simp] theorem faultEntry_peers (c : Nat) (r : FaultReason) : (s.faultEntry c r).peers = s.peers := by
  simp only [State.faultEntry]; (repeat' split) <;> simp
@[simp] theorem faultEntry_cdir (c : Nat) (r : FaultReason) : (s.faultEntry c r).cdir = s.cdir := by
  simp only [State.faultEntry]; (repeat' split) <;> simp
@[simp] theorem faultEntry_cp (c : Nat) (r : FaultReason) : (s.faultEntry c r).cp = s.cp := by
  simp only [State.faultEntry]; (repeat' split) <;> simp
@[simp] theorem faultEntry_pending (c : Nat) (r : FaultReason) : (s.faultEntry c r).pending = s.pending := by
  simp only [State.faultEntry]; (repeat' split) <;> simp
@[simp] theorem faultEntry_rx (c : Nat) (r : FaultReason) : (s.faultEntry c r).rx = s.rx := by
  simp only [State.faultEntry]; (repeat' split) <;> simp

@[simp] theorem faultAttending_now (c : Nat) (r : FaultReason) : (s.faultAttending c r).now = s.now := by
  unfold State.faultAttending; (repeat' split) <;> simp
@[simp] theorem faultAttending_sul (c : Nat) (r : FaultReason) : (s.faultAttending c r).sul = s.sul := by
  unfold State.faultAttending; (repeat' split) <;> simp
@[simp] theorem faultAttending_doors (c : Nat) (r : FaultReason) : (s.faultAttending c r).doors = s.doors := by
  unfold State.faultAttending; (repeat' split) <;> simp
@[simp] theorem faultAttending_requestSerial (c : Nat) (r : FaultReason) : (s.faultAttending c r).requestSerial = s.requestSerial := by
  unfold State.faultAttending; (repeat' split) <;> simp
@[simp] theorem faultAttending_inputs (c : Nat) (r : FaultReason) : (s.faultAttending c r).inputs = s.inputs := by
  unfold State.faultAttending; (repeat' split) <;> simp
@[simp] theorem faultAttending_ssu (c : Nat) (r : FaultReason) : (s.faultAttending c r).ssu = s.ssu := by
  unfold State.faultAttending; (repeat' split) <;> simp
@[simp] theorem faultAttending_dsu (c : Nat) (r : FaultReason) : (s.faultAttending c r).dsu = s.dsu := by
  unfold State.faultAttending; (repeat' split) <;> simp
@[simp] theorem faultAttending_peers (c : Nat) (r : FaultReason) : (s.faultAttending c r).peers = s.peers := by
  unfold State.faultAttending; (repeat' split) <;> simp
@[simp] theorem faultAttending_cdir (c : Nat) (r : FaultReason) : (s.faultAttending c r).cdir = s.cdir := by
  unfold State.faultAttending; (repeat' split) <;> simp
@[simp] theorem faultAttending_cp (c : Nat) (r : FaultReason) : (s.faultAttending c r).cp = s.cp := by
  unfold State.faultAttending; (repeat' split) <;> simp
@[simp] theorem faultAttending_pending (c : Nat) (r : FaultReason) : (s.faultAttending c r).pending = s.pending := by
  unfold State.faultAttending; (repeat' split) <;> simp
@[simp] theorem faultAttending_rx (c : Nat) (r : FaultReason) : (s.faultAttending c r).rx = s.rx := by
  unfold State.faultAttending; (repeat' split) <;> simp

@[simp] theorem shutIfEmptied_now (before : State) : (before.shutIfEmptied s).now = s.now := by
  unfold State.shutIfEmptied; (repeat' split) <;> simp
@[simp] theorem shutIfEmptied_comps (before : State) : (before.shutIfEmptied s).comps = s.comps := by
  unfold State.shutIfEmptied; (repeat' split) <;> simp
@[simp] theorem shutIfEmptied_doors (before : State) : (before.shutIfEmptied s).doors = s.doors := by
  unfold State.shutIfEmptied; (repeat' split) <;> simp
@[simp] theorem shutIfEmptied_requestSerial (before : State) : (before.shutIfEmptied s).requestSerial = s.requestSerial := by
  unfold State.shutIfEmptied; (repeat' split) <;> simp
@[simp] theorem shutIfEmptied_inputs (before : State) : (before.shutIfEmptied s).inputs = s.inputs := by
  unfold State.shutIfEmptied; (repeat' split) <;> simp
@[simp] theorem shutIfEmptied_readings (before : State) : (before.shutIfEmptied s).readings = s.readings := by
  unfold State.shutIfEmptied; (repeat' split) <;> simp
@[simp] theorem shutIfEmptied_ssu (before : State) : (before.shutIfEmptied s).ssu = s.ssu := by
  unfold State.shutIfEmptied; (repeat' split) <;> simp
@[simp] theorem shutIfEmptied_psc (before : State) : (before.shutIfEmptied s).psc = s.psc := by
  unfold State.shutIfEmptied; (repeat' split) <;> simp
@[simp] theorem shutIfEmptied_dsu (before : State) : (before.shutIfEmptied s).dsu = s.dsu := by
  unfold State.shutIfEmptied; (repeat' split) <;> simp
@[simp] theorem shutIfEmptied_peers (before : State) : (before.shutIfEmptied s).peers = s.peers := by
  unfold State.shutIfEmptied; (repeat' split) <;> simp
@[simp] theorem shutIfEmptied_cdir (before : State) : (before.shutIfEmptied s).cdir = s.cdir := by
  unfold State.shutIfEmptied; (repeat' split) <;> simp
@[simp] theorem shutIfEmptied_cp (before : State) : (before.shutIfEmptied s).cp = s.cp := by
  unfold State.shutIfEmptied; (repeat' split) <;> simp
@[simp] theorem shutIfEmptied_pending (before : State) : (before.shutIfEmptied s).pending = s.pending := by
  unfold State.shutIfEmptied; (repeat' split) <;> simp
@[simp] theorem shutIfEmptied_rx (before : State) : (before.shutIfEmptied s).rx = s.rx := by
  unfold State.shutIfEmptied; (repeat' split) <;> simp

@[simp] theorem faultReport_now (c : Nat) (r : FaultReason) : (s.faultReport c r).now = s.now := by
  unfold State.faultReport; (repeat' split) <;> simp
@[simp] theorem faultReport_doors (c : Nat) (r : FaultReason) : (s.faultReport c r).doors = s.doors := by
  unfold State.faultReport; (repeat' split) <;> simp
@[simp] theorem faultReport_requestSerial (c : Nat) (r : FaultReason) : (s.faultReport c r).requestSerial = s.requestSerial := by
  unfold State.faultReport; (repeat' split) <;> simp
@[simp] theorem faultReport_inputs (c : Nat) (r : FaultReason) : (s.faultReport c r).inputs = s.inputs := by
  unfold State.faultReport; (repeat' split) <;> simp
@[simp] theorem faultReport_ssu (c : Nat) (r : FaultReason) : (s.faultReport c r).ssu = s.ssu := by
  unfold State.faultReport; (repeat' split) <;> simp
@[simp] theorem faultReport_dsu (c : Nat) (r : FaultReason) : (s.faultReport c r).dsu = s.dsu := by
  unfold State.faultReport; (repeat' split) <;> simp
@[simp] theorem faultReport_peers (c : Nat) (r : FaultReason) : (s.faultReport c r).peers = s.peers := by
  unfold State.faultReport; (repeat' split) <;> simp
@[simp] theorem faultReport_cdir (c : Nat) (r : FaultReason) : (s.faultReport c r).cdir = s.cdir := by
  unfold State.faultReport; (repeat' split) <;> simp
@[simp] theorem faultReport_cp (c : Nat) (r : FaultReason) : (s.faultReport c r).cp = s.cp := by
  unfold State.faultReport; (repeat' split) <;> simp
@[simp] theorem faultReport_pending (c : Nat) (r : FaultReason) : (s.faultReport c r).pending = s.pending := by
  unfold State.faultReport; (repeat' split) <;> simp
@[simp] theorem faultReport_rx (c : Nat) (r : FaultReason) : (s.faultReport c r).rx = s.rx := by
  unfold State.faultReport; (repeat' split) <;> simp

@[simp] theorem makeFree_now (c : Nat) : (s.makeFree c).now = s.now := by
  unfold State.makeFree; simp
@[simp] theorem makeFree_sul (c : Nat) : (s.makeFree c).sul = s.sul := by
  unfold State.makeFree; simp
@[simp] theorem makeFree_doors (c : Nat) : (s.makeFree c).doors = s.doors := by
  unfold State.makeFree; simp
@[simp] theorem makeFree_requestSerial (c : Nat) : (s.makeFree c).requestSerial = s.requestSerial := by
  unfold State.makeFree; simp
@[simp] theorem makeFree_inputs (c : Nat) : (s.makeFree c).inputs = s.inputs := by
  unfold State.makeFree; simp
@[simp] theorem makeFree_ssu (c : Nat) : (s.makeFree c).ssu = s.ssu := by
  unfold State.makeFree; simp
@[simp] theorem makeFree_dsu (c : Nat) : (s.makeFree c).dsu = s.dsu := by
  unfold State.makeFree; simp
@[simp] theorem makeFree_peers (c : Nat) : (s.makeFree c).peers = s.peers := by
  unfold State.makeFree; simp
@[simp] theorem makeFree_lif (c : Nat) : (s.makeFree c).lif = s.lif := by
  unfold State.makeFree; simp
@[simp] theorem makeFree_cdir (c : Nat) : (s.makeFree c).cdir = s.cdir := by
  unfold State.makeFree; simp
@[simp] theorem makeFree_kp (c : Nat) : (s.makeFree c).kp = s.kp := by
  unfold State.makeFree; simp
@[simp] theorem makeFree_cp (c : Nat) : (s.makeFree c).cp = s.cp := by
  unfold State.makeFree; simp
@[simp] theorem makeFree_pending (c : Nat) : (s.makeFree c).pending = s.pending := by
  unfold State.makeFree; simp
@[simp] theorem makeFree_rx (c : Nat) : (s.makeFree c).rx = s.rx := by
  unfold State.makeFree; simp

@[simp] theorem recheck_now (c : Nat) : (s.recheck c).now = s.now := by
  unfold State.recheck; (repeat' split) <;> simp
@[simp] theorem recheck_sul (c : Nat) : (s.recheck c).sul = s.sul := by
  unfold State.recheck; (repeat' split) <;> simp
@[simp] theorem recheck_doors (c : Nat) : (s.recheck c).doors = s.doors := by
  unfold State.recheck; (repeat' split) <;> simp
@[simp] theorem recheck_requestSerial (c : Nat) : (s.recheck c).requestSerial = s.requestSerial := by
  unfold State.recheck; (repeat' split) <;> simp
@[simp] theorem recheck_inputs (c : Nat) : (s.recheck c).inputs = s.inputs := by
  unfold State.recheck; (repeat' split) <;> simp
@[simp] theorem recheck_ssu (c : Nat) : (s.recheck c).ssu = s.ssu := by
  unfold State.recheck; (repeat' split) <;> simp
@[simp] theorem recheck_dsu (c : Nat) : (s.recheck c).dsu = s.dsu := by
  unfold State.recheck; (repeat' split) <;> simp
@[simp] theorem recheck_peers (c : Nat) : (s.recheck c).peers = s.peers := by
  unfold State.recheck; (repeat' split) <;> simp
@[simp] theorem recheck_cdir (c : Nat) : (s.recheck c).cdir = s.cdir := by
  unfold State.recheck; (repeat' split) <;> simp
@[simp] theorem recheck_cp (c : Nat) : (s.recheck c).cp = s.cp := by
  unfold State.recheck; (repeat' split) <;> simp
@[simp] theorem recheck_pending (c : Nat) : (s.recheck c).pending = s.pending := by
  unfold State.recheck; (repeat' split) <;> simp
@[simp] theorem recheck_rx (c : Nat) : (s.recheck c).rx = s.rx := by
  unfold State.recheck; (repeat' split) <;> simp

@[simp] theorem holdStarts_now (c : Nat) : (s.holdStarts c).now = s.now := by
  simp only [State.holdStarts]; (repeat' split) <;> simp
@[simp] theorem holdStarts_sul (c : Nat) : (s.holdStarts c).sul = s.sul := by
  simp only [State.holdStarts]; (repeat' split) <;> simp
@[simp] theorem holdStarts_doors (c : Nat) : (s.holdStarts c).doors = s.doors := by
  simp only [State.holdStarts]; (repeat' split) <;> simp
@[simp] theorem holdStarts_requestSerial (c : Nat) : (s.holdStarts c).requestSerial = s.requestSerial := by
  simp only [State.holdStarts]; (repeat' split) <;> simp
@[simp] theorem holdStarts_inputs (c : Nat) : (s.holdStarts c).inputs = s.inputs := by
  simp only [State.holdStarts]; (repeat' split) <;> simp
@[simp] theorem holdStarts_ssu (c : Nat) : (s.holdStarts c).ssu = s.ssu := by
  simp only [State.holdStarts]; (repeat' split) <;> simp
@[simp] theorem holdStarts_dsu (c : Nat) : (s.holdStarts c).dsu = s.dsu := by
  simp only [State.holdStarts]; (repeat' split) <;> simp
@[simp] theorem holdStarts_peers (c : Nat) : (s.holdStarts c).peers = s.peers := by
  simp only [State.holdStarts]; (repeat' split) <;> simp
@[simp] theorem holdStarts_cdir (c : Nat) : (s.holdStarts c).cdir = s.cdir := by
  simp only [State.holdStarts]; (repeat' split) <;> simp
@[simp] theorem holdStarts_cp (c : Nat) : (s.holdStarts c).cp = s.cp := by
  simp only [State.holdStarts]; (repeat' split) <;> simp
@[simp] theorem holdStarts_pending (c : Nat) : (s.holdStarts c).pending = s.pending := by
  simp only [State.holdStarts]; (repeat' split) <;> simp
@[simp] theorem holdStarts_rx (c : Nat) : (s.holdStarts c).rx = s.rx := by
  simp only [State.holdStarts]; (repeat' split) <;> simp

@[simp] theorem loadingEnd_now (c : Nat) (k : HoldEnd) : (s.loadingEnd c k).now = s.now := by
  unfold State.loadingEnd; (repeat' split) <;> simp
@[simp] theorem loadingEnd_sul (c : Nat) (k : HoldEnd) : (s.loadingEnd c k).sul = s.sul := by
  unfold State.loadingEnd; (repeat' split) <;> simp
@[simp] theorem loadingEnd_doors (c : Nat) (k : HoldEnd) : (s.loadingEnd c k).doors = s.doors := by
  unfold State.loadingEnd; (repeat' split) <;> simp
@[simp] theorem loadingEnd_requestSerial (c : Nat) (k : HoldEnd) : (s.loadingEnd c k).requestSerial = s.requestSerial := by
  unfold State.loadingEnd; (repeat' split) <;> simp
@[simp] theorem loadingEnd_inputs (c : Nat) (k : HoldEnd) : (s.loadingEnd c k).inputs = s.inputs := by
  unfold State.loadingEnd; (repeat' split) <;> simp
@[simp] theorem loadingEnd_ssu (c : Nat) (k : HoldEnd) : (s.loadingEnd c k).ssu = s.ssu := by
  unfold State.loadingEnd; (repeat' split) <;> simp
@[simp] theorem loadingEnd_dsu (c : Nat) (k : HoldEnd) : (s.loadingEnd c k).dsu = s.dsu := by
  unfold State.loadingEnd; (repeat' split) <;> simp
@[simp] theorem loadingEnd_peers (c : Nat) (k : HoldEnd) : (s.loadingEnd c k).peers = s.peers := by
  unfold State.loadingEnd; (repeat' split) <;> simp
@[simp] theorem loadingEnd_cdir (c : Nat) (k : HoldEnd) : (s.loadingEnd c k).cdir = s.cdir := by
  unfold State.loadingEnd; (repeat' split) <;> simp
@[simp] theorem loadingEnd_cp (c : Nat) (k : HoldEnd) : (s.loadingEnd c k).cp = s.cp := by
  unfold State.loadingEnd; (repeat' split) <;> simp
@[simp] theorem loadingEnd_pending (c : Nat) (k : HoldEnd) : (s.loadingEnd c k).pending = s.pending := by
  unfold State.loadingEnd; (repeat' split) <;> simp
@[simp] theorem loadingEnd_rx (c : Nat) (k : HoldEnd) : (s.loadingEnd c k).rx = s.rx := by
  unfold State.loadingEnd; (repeat' split) <;> simp

@[simp] theorem collectionEnd_now (c : Nat) (k : HoldEnd) : (s.collectionEnd c k).now = s.now := by
  simp only [State.collectionEnd]; (repeat' split) <;> simp
@[simp] theorem collectionEnd_sul (c : Nat) (k : HoldEnd) : (s.collectionEnd c k).sul = s.sul := by
  simp only [State.collectionEnd]; (repeat' split) <;> simp
@[simp] theorem collectionEnd_doors (c : Nat) (k : HoldEnd) : (s.collectionEnd c k).doors = s.doors := by
  simp only [State.collectionEnd]; (repeat' split) <;> simp
@[simp] theorem collectionEnd_requestSerial (c : Nat) (k : HoldEnd) : (s.collectionEnd c k).requestSerial = s.requestSerial := by
  simp only [State.collectionEnd]; (repeat' split) <;> simp
@[simp] theorem collectionEnd_inputs (c : Nat) (k : HoldEnd) : (s.collectionEnd c k).inputs = s.inputs := by
  simp only [State.collectionEnd]; (repeat' split) <;> simp
@[simp] theorem collectionEnd_ssu (c : Nat) (k : HoldEnd) : (s.collectionEnd c k).ssu = s.ssu := by
  simp only [State.collectionEnd]; (repeat' split) <;> simp
@[simp] theorem collectionEnd_dsu (c : Nat) (k : HoldEnd) : (s.collectionEnd c k).dsu = s.dsu := by
  simp only [State.collectionEnd]; (repeat' split) <;> simp
@[simp] theorem collectionEnd_peers (c : Nat) (k : HoldEnd) : (s.collectionEnd c k).peers = s.peers := by
  simp only [State.collectionEnd]; (repeat' split) <;> simp
@[simp] theorem collectionEnd_cdir (c : Nat) (k : HoldEnd) : (s.collectionEnd c k).cdir = s.cdir := by
  simp only [State.collectionEnd]; (repeat' split) <;> simp
@[simp] theorem collectionEnd_cp (c : Nat) (k : HoldEnd) : (s.collectionEnd c k).cp = s.cp := by
  simp only [State.collectionEnd]; (repeat' split) <;> simp
@[simp] theorem collectionEnd_pending (c : Nat) (k : HoldEnd) : (s.collectionEnd c k).pending = s.pending := by
  simp only [State.collectionEnd]; (repeat' split) <;> simp
@[simp] theorem collectionEnd_rx (c : Nat) (k : HoldEnd) : (s.collectionEnd c k).rx = s.rx := by
  simp only [State.collectionEnd]; (repeat' split) <;> simp

@[simp] theorem attendanceEnd_now (c : Nat) (k : HoldEnd) : (s.attendanceEnd c k).now = s.now := by
  unfold State.attendanceEnd; (repeat' split) <;> simp
@[simp] theorem attendanceEnd_sul (c : Nat) (k : HoldEnd) : (s.attendanceEnd c k).sul = s.sul := by
  unfold State.attendanceEnd; (repeat' split) <;> simp
@[simp] theorem attendanceEnd_doors (c : Nat) (k : HoldEnd) : (s.attendanceEnd c k).doors = s.doors := by
  unfold State.attendanceEnd; (repeat' split) <;> simp
@[simp] theorem attendanceEnd_requestSerial (c : Nat) (k : HoldEnd) : (s.attendanceEnd c k).requestSerial = s.requestSerial := by
  unfold State.attendanceEnd; (repeat' split) <;> simp
@[simp] theorem attendanceEnd_inputs (c : Nat) (k : HoldEnd) : (s.attendanceEnd c k).inputs = s.inputs := by
  unfold State.attendanceEnd; (repeat' split) <;> simp
@[simp] theorem attendanceEnd_ssu (c : Nat) (k : HoldEnd) : (s.attendanceEnd c k).ssu = s.ssu := by
  unfold State.attendanceEnd; (repeat' split) <;> simp
@[simp] theorem attendanceEnd_dsu (c : Nat) (k : HoldEnd) : (s.attendanceEnd c k).dsu = s.dsu := by
  unfold State.attendanceEnd; (repeat' split) <;> simp
@[simp] theorem attendanceEnd_peers (c : Nat) (k : HoldEnd) : (s.attendanceEnd c k).peers = s.peers := by
  unfold State.attendanceEnd; (repeat' split) <;> simp
@[simp] theorem attendanceEnd_cdir (c : Nat) (k : HoldEnd) : (s.attendanceEnd c k).cdir = s.cdir := by
  unfold State.attendanceEnd; (repeat' split) <;> simp
@[simp] theorem attendanceEnd_cp (c : Nat) (k : HoldEnd) : (s.attendanceEnd c k).cp = s.cp := by
  unfold State.attendanceEnd; (repeat' split) <;> simp
@[simp] theorem attendanceEnd_pending (c : Nat) (k : HoldEnd) : (s.attendanceEnd c k).pending = s.pending := by
  unfold State.attendanceEnd; (repeat' split) <;> simp
@[simp] theorem attendanceEnd_rx (c : Nat) (k : HoldEnd) : (s.attendanceEnd c k).rx = s.rx := by
  unfold State.attendanceEnd; (repeat' split) <;> simp

@[simp] theorem faultedEnd_now (c : Nat) (k : HoldEnd) : (s.faultedEnd c k).now = s.now := by
  unfold State.faultedEnd; (repeat' split) <;> simp
@[simp] theorem faultedEnd_sul (c : Nat) (k : HoldEnd) : (s.faultedEnd c k).sul = s.sul := by
  unfold State.faultedEnd; (repeat' split) <;> simp
@[simp] theorem faultedEnd_doors (c : Nat) (k : HoldEnd) : (s.faultedEnd c k).doors = s.doors := by
  unfold State.faultedEnd; (repeat' split) <;> simp
@[simp] theorem faultedEnd_requestSerial (c : Nat) (k : HoldEnd) : (s.faultedEnd c k).requestSerial = s.requestSerial := by
  unfold State.faultedEnd; (repeat' split) <;> simp
@[simp] theorem faultedEnd_inputs (c : Nat) (k : HoldEnd) : (s.faultedEnd c k).inputs = s.inputs := by
  unfold State.faultedEnd; (repeat' split) <;> simp
@[simp] theorem faultedEnd_readings (c : Nat) (k : HoldEnd) : (s.faultedEnd c k).readings = s.readings := by
  unfold State.faultedEnd; (repeat' split) <;> simp
@[simp] theorem faultedEnd_ssu (c : Nat) (k : HoldEnd) : (s.faultedEnd c k).ssu = s.ssu := by
  unfold State.faultedEnd; (repeat' split) <;> simp
@[simp] theorem faultedEnd_psc (c : Nat) (k : HoldEnd) : (s.faultedEnd c k).psc = s.psc := by
  unfold State.faultedEnd; (repeat' split) <;> simp
@[simp] theorem faultedEnd_dsu (c : Nat) (k : HoldEnd) : (s.faultedEnd c k).dsu = s.dsu := by
  unfold State.faultedEnd; (repeat' split) <;> simp
@[simp] theorem faultedEnd_peers (c : Nat) (k : HoldEnd) : (s.faultedEnd c k).peers = s.peers := by
  unfold State.faultedEnd; (repeat' split) <;> simp
@[simp] theorem faultedEnd_lif (c : Nat) (k : HoldEnd) : (s.faultedEnd c k).lif = s.lif := by
  unfold State.faultedEnd; (repeat' split) <;> simp
@[simp] theorem faultedEnd_cdir (c : Nat) (k : HoldEnd) : (s.faultedEnd c k).cdir = s.cdir := by
  unfold State.faultedEnd; (repeat' split) <;> simp
@[simp] theorem faultedEnd_kp (c : Nat) (k : HoldEnd) : (s.faultedEnd c k).kp = s.kp := by
  unfold State.faultedEnd; (repeat' split) <;> simp
@[simp] theorem faultedEnd_cp (c : Nat) (k : HoldEnd) : (s.faultedEnd c k).cp = s.cp := by
  unfold State.faultedEnd; (repeat' split) <;> simp
@[simp] theorem faultedEnd_pending (c : Nat) (k : HoldEnd) : (s.faultedEnd c k).pending = s.pending := by
  unfold State.faultedEnd; (repeat' split) <;> simp
@[simp] theorem faultedEnd_rx (c : Nat) (k : HoldEnd) : (s.faultedEnd c k).rx = s.rx := by
  unfold State.faultedEnd; (repeat' split) <;> simp

@[simp] theorem tableHoldEnd_now (c : Nat) (k : HoldEnd) : (s.tableHoldEnd c k).now = s.now := by
  unfold State.tableHoldEnd; (repeat' split) <;> simp
@[simp] theorem tableHoldEnd_sul (c : Nat) (k : HoldEnd) : (s.tableHoldEnd c k).sul = s.sul := by
  unfold State.tableHoldEnd; (repeat' split) <;> simp
@[simp] theorem tableHoldEnd_doors (c : Nat) (k : HoldEnd) : (s.tableHoldEnd c k).doors = s.doors := by
  unfold State.tableHoldEnd; (repeat' split) <;> simp
@[simp] theorem tableHoldEnd_requestSerial (c : Nat) (k : HoldEnd) : (s.tableHoldEnd c k).requestSerial = s.requestSerial := by
  unfold State.tableHoldEnd; (repeat' split) <;> simp
@[simp] theorem tableHoldEnd_inputs (c : Nat) (k : HoldEnd) : (s.tableHoldEnd c k).inputs = s.inputs := by
  unfold State.tableHoldEnd; (repeat' split) <;> simp
@[simp] theorem tableHoldEnd_ssu (c : Nat) (k : HoldEnd) : (s.tableHoldEnd c k).ssu = s.ssu := by
  unfold State.tableHoldEnd; (repeat' split) <;> simp
@[simp] theorem tableHoldEnd_dsu (c : Nat) (k : HoldEnd) : (s.tableHoldEnd c k).dsu = s.dsu := by
  unfold State.tableHoldEnd; (repeat' split) <;> simp
@[simp] theorem tableHoldEnd_peers (c : Nat) (k : HoldEnd) : (s.tableHoldEnd c k).peers = s.peers := by
  unfold State.tableHoldEnd; (repeat' split) <;> simp
@[simp] theorem tableHoldEnd_cdir (c : Nat) (k : HoldEnd) : (s.tableHoldEnd c k).cdir = s.cdir := by
  unfold State.tableHoldEnd; (repeat' split) <;> simp
@[simp] theorem tableHoldEnd_cp (c : Nat) (k : HoldEnd) : (s.tableHoldEnd c k).cp = s.cp := by
  unfold State.tableHoldEnd; (repeat' split) <;> simp
@[simp] theorem tableHoldEnd_pending (c : Nat) (k : HoldEnd) : (s.tableHoldEnd c k).pending = s.pending := by
  unfold State.tableHoldEnd; (repeat' split) <;> simp
@[simp] theorem tableHoldEnd_rx (c : Nat) (k : HoldEnd) : (s.tableHoldEnd c k).rx = s.rx := by
  unfold State.tableHoldEnd; (repeat' split) <;> simp

end Sys2Proof.Machine
end

