-- ==== Sys2Proof/Laws/FrameDoors.lean ====
section
/-! SUPPORT. What the operations of the Door Arbiter leave alone: one lemma for each field of the state an operation
does not touch. -/

namespace Sys2Proof.Machine

variable (s : State)

@[simp] theorem modSide_now (c : Nat) (sd : Side) (f : SideRec → SideRec) : (s.modSide c sd f).now = s.now := by
  unfold State.modSide; simp
@[simp] theorem modSide_sul (c : Nat) (sd : Side) (f : SideRec → SideRec) : (s.modSide c sd f).sul = s.sul := by
  unfold State.modSide; simp
@[simp] theorem modSide_comps (c : Nat) (sd : Side) (f : SideRec → SideRec) : (s.modSide c sd f).comps = s.comps := by
  unfold State.modSide; simp
@[simp] theorem modSide_requestSerial (c : Nat) (sd : Side) (f : SideRec → SideRec) : (s.modSide c sd f).requestSerial = s.requestSerial := by
  unfold State.modSide; simp
@[simp] theorem modSide_inputs (c : Nat) (sd : Side) (f : SideRec → SideRec) : (s.modSide c sd f).inputs = s.inputs := by
  unfold State.modSide; simp
@[simp] theorem modSide_readings (c : Nat) (sd : Side) (f : SideRec → SideRec) : (s.modSide c sd f).readings = s.readings := by
  unfold State.modSide; simp
@[simp] theorem modSide_ssu (c : Nat) (sd : Side) (f : SideRec → SideRec) : (s.modSide c sd f).ssu = s.ssu := by
  unfold State.modSide; simp
@[simp] theorem modSide_psc (c : Nat) (sd : Side) (f : SideRec → SideRec) : (s.modSide c sd f).psc = s.psc := by
  unfold State.modSide; simp
@[simp] theorem modSide_dsu (c : Nat) (sd : Side) (f : SideRec → SideRec) : (s.modSide c sd f).dsu = s.dsu := by
  unfold State.modSide; simp
@[simp] theorem modSide_peers (c : Nat) (sd : Side) (f : SideRec → SideRec) : (s.modSide c sd f).peers = s.peers := by
  unfold State.modSide; simp
@[simp] theorem modSide_lif (c : Nat) (sd : Side) (f : SideRec → SideRec) : (s.modSide c sd f).lif = s.lif := by
  unfold State.modSide; simp
@[simp] theorem modSide_cdir (c : Nat) (sd : Side) (f : SideRec → SideRec) : (s.modSide c sd f).cdir = s.cdir := by
  unfold State.modSide; simp
@[simp] theorem modSide_kp (c : Nat) (sd : Side) (f : SideRec → SideRec) : (s.modSide c sd f).kp = s.kp := by
  unfold State.modSide; simp
@[simp] theorem modSide_cp (c : Nat) (sd : Side) (f : SideRec → SideRec) : (s.modSide c sd f).cp = s.cp := by
  unfold State.modSide; simp
@[simp] theorem modSide_pending (c : Nat) (sd : Side) (f : SideRec → SideRec) : (s.modSide c sd f).pending = s.pending := by
  unfold State.modSide; simp
@[simp] theorem modSide_rx (c : Nat) (sd : Side) (f : SideRec → SideRec) : (s.modSide c sd f).rx = s.rx := by
  unfold State.modSide; simp

@[simp] theorem grantSeize_now (c : Nat) (sd : Side) : (s.grantSeize c sd).now = s.now := by
  unfold State.grantSeize; simp
@[simp] theorem grantSeize_sul (c : Nat) (sd : Side) : (s.grantSeize c sd).sul = s.sul := by
  unfold State.grantSeize; simp
@[simp] theorem grantSeize_requestSerial (c : Nat) (sd : Side) : (s.grantSeize c sd).requestSerial = s.requestSerial := by
  unfold State.grantSeize; simp
@[simp] theorem grantSeize_inputs (c : Nat) (sd : Side) : (s.grantSeize c sd).inputs = s.inputs := by
  unfold State.grantSeize; simp
@[simp] theorem grantSeize_ssu (c : Nat) (sd : Side) : (s.grantSeize c sd).ssu = s.ssu := by
  unfold State.grantSeize; simp
@[simp] theorem grantSeize_dsu (c : Nat) (sd : Side) : (s.grantSeize c sd).dsu = s.dsu := by
  unfold State.grantSeize; simp
@[simp] theorem grantSeize_peers (c : Nat) (sd : Side) : (s.grantSeize c sd).peers = s.peers := by
  unfold State.grantSeize; simp
@[simp] theorem grantSeize_lif (c : Nat) (sd : Side) : (s.grantSeize c sd).lif = s.lif := by
  unfold State.grantSeize; simp
@[simp] theorem grantSeize_cdir (c : Nat) (sd : Side) : (s.grantSeize c sd).cdir = s.cdir := by
  unfold State.grantSeize; simp
@[simp] theorem grantSeize_kp (c : Nat) (sd : Side) : (s.grantSeize c sd).kp = s.kp := by
  unfold State.grantSeize; simp
@[simp] theorem grantSeize_cp (c : Nat) (sd : Side) : (s.grantSeize c sd).cp = s.cp := by
  unfold State.grantSeize; simp
@[simp] theorem grantSeize_pending (c : Nat) (sd : Side) : (s.grantSeize c sd).pending = s.pending := by
  unfold State.grantSeize; simp
@[simp] theorem grantSeize_rx (c : Nat) (sd : Side) : (s.grantSeize c sd).rx = s.rx := by
  unfold State.grantSeize; simp

@[simp] theorem enterAttending_now (c : Nat) : (s.enterAttending c).now = s.now := by
  unfold State.enterAttending; simp
@[simp] theorem enterAttending_sul (c : Nat) : (s.enterAttending c).sul = s.sul := by
  unfold State.enterAttending; simp
@[simp] theorem enterAttending_requestSerial (c : Nat) : (s.enterAttending c).requestSerial = s.requestSerial := by
  unfold State.enterAttending; simp
@[simp] theorem enterAttending_inputs (c : Nat) : (s.enterAttending c).inputs = s.inputs := by
  unfold State.enterAttending; simp
@[simp] theorem enterAttending_ssu (c : Nat) : (s.enterAttending c).ssu = s.ssu := by
  unfold State.enterAttending; simp
@[simp] theorem enterAttending_dsu (c : Nat) : (s.enterAttending c).dsu = s.dsu := by
  unfold State.enterAttending; simp
@[simp] theorem enterAttending_peers (c : Nat) : (s.enterAttending c).peers = s.peers := by
  unfold State.enterAttending; simp
@[simp] theorem enterAttending_lif (c : Nat) : (s.enterAttending c).lif = s.lif := by
  unfold State.enterAttending; simp
@[simp] theorem enterAttending_cdir (c : Nat) : (s.enterAttending c).cdir = s.cdir := by
  unfold State.enterAttending; simp
@[simp] theorem enterAttending_kp (c : Nat) : (s.enterAttending c).kp = s.kp := by
  unfold State.enterAttending; simp
@[simp] theorem enterAttending_cp (c : Nat) : (s.enterAttending c).cp = s.cp := by
  unfold State.enterAttending; simp
@[simp] theorem enterAttending_pending (c : Nat) : (s.enterAttending c).pending = s.pending := by
  unfold State.enterAttending; simp
@[simp] theorem enterAttending_rx (c : Nat) : (s.enterAttending c).rx = s.rx := by
  unfold State.enterAttending; simp

@[simp] theorem grantCollection_now (c : Nat) : (s.grantCollection c).now = s.now := by
  unfold State.grantCollection; simp
@[simp] theorem grantCollection_sul (c : Nat) : (s.grantCollection c).sul = s.sul := by
  unfold State.grantCollection; simp
@[simp] theorem grantCollection_requestSerial (c : Nat) : (s.grantCollection c).requestSerial = s.requestSerial := by
  unfold State.grantCollection; simp
@[simp] theorem grantCollection_inputs (c : Nat) : (s.grantCollection c).inputs = s.inputs := by
  unfold State.grantCollection; simp
@[simp] theorem grantCollection_ssu (c : Nat) : (s.grantCollection c).ssu = s.ssu := by
  unfold State.grantCollection; simp
@[simp] theorem grantCollection_dsu (c : Nat) : (s.grantCollection c).dsu = s.dsu := by
  unfold State.grantCollection; simp
@[simp] theorem grantCollection_peers (c : Nat) : (s.grantCollection c).peers = s.peers := by
  unfold State.grantCollection; simp
@[simp] theorem grantCollection_lif (c : Nat) : (s.grantCollection c).lif = s.lif := by
  unfold State.grantCollection; simp
@[simp] theorem grantCollection_cdir (c : Nat) : (s.grantCollection c).cdir = s.cdir := by
  unfold State.grantCollection; simp
@[simp] theorem grantCollection_kp (c : Nat) : (s.grantCollection c).kp = s.kp := by
  unfold State.grantCollection; simp
@[simp] theorem grantCollection_cp (c : Nat) : (s.grantCollection c).cp = s.cp := by
  unfold State.grantCollection; simp
@[simp] theorem grantCollection_pending (c : Nat) : (s.grantCollection c).pending = s.pending := by
  unfold State.grantCollection; simp
@[simp] theorem grantCollection_rx (c : Nat) : (s.grantCollection c).rx = s.rx := by
  unfold State.grantCollection; simp

@[simp] theorem acceptLoad_now (c tag code cls limit : Nat) (p : Option Nat) : (s.acceptLoad c tag code cls limit p).now = s.now := by
  unfold State.acceptLoad; (repeat' split) <;> simp
@[simp] theorem acceptLoad_sul (c tag code cls limit : Nat) (p : Option Nat) : (s.acceptLoad c tag code cls limit p).sul = s.sul := by
  unfold State.acceptLoad; (repeat' split) <;> simp
@[simp] theorem acceptLoad_requestSerial (c tag code cls limit : Nat) (p : Option Nat) : (s.acceptLoad c tag code cls limit p).requestSerial = s.requestSerial := by
  unfold State.acceptLoad; (repeat' split) <;> simp
@[simp] theorem acceptLoad_inputs (c tag code cls limit : Nat) (p : Option Nat) : (s.acceptLoad c tag code cls limit p).inputs = s.inputs := by
  unfold State.acceptLoad; (repeat' split) <;> simp
@[simp] theorem acceptLoad_ssu (c tag code cls limit : Nat) (p : Option Nat) : (s.acceptLoad c tag code cls limit p).ssu = s.ssu := by
  unfold State.acceptLoad; (repeat' split) <;> simp
@[simp] theorem acceptLoad_dsu (c tag code cls limit : Nat) (p : Option Nat) : (s.acceptLoad c tag code cls limit p).dsu = s.dsu := by
  unfold State.acceptLoad; (repeat' split) <;> simp
@[simp] theorem acceptLoad_peers (c tag code cls limit : Nat) (p : Option Nat) : (s.acceptLoad c tag code cls limit p).peers = s.peers := by
  unfold State.acceptLoad; (repeat' split) <;> simp
@[simp] theorem acceptLoad_lif (c tag code cls limit : Nat) (p : Option Nat) : (s.acceptLoad c tag code cls limit p).lif = s.lif := by
  unfold State.acceptLoad; (repeat' split) <;> simp
@[simp] theorem acceptLoad_cdir (c tag code cls limit : Nat) (p : Option Nat) : (s.acceptLoad c tag code cls limit p).cdir = s.cdir := by
  unfold State.acceptLoad; (repeat' split) <;> simp
@[simp] theorem acceptLoad_kp (c tag code cls limit : Nat) (p : Option Nat) : (s.acceptLoad c tag code cls limit p).kp = s.kp := by
  unfold State.acceptLoad; (repeat' split) <;> simp
@[simp] theorem acceptLoad_cp (c tag code cls limit : Nat) (p : Option Nat) : (s.acceptLoad c tag code cls limit p).cp = s.cp := by
  unfold State.acceptLoad; (repeat' split) <;> simp
@[simp] theorem acceptLoad_pending (c tag code cls limit : Nat) (p : Option Nat) : (s.acceptLoad c tag code cls limit p).pending = s.pending := by
  unfold State.acceptLoad; (repeat' split) <;> simp
@[simp] theorem acceptLoad_rx (c tag code cls limit : Nat) (p : Option Nat) : (s.acceptLoad c tag code cls limit p).rx = s.rx := by
  unfold State.acceptLoad; (repeat' split) <;> simp

@[simp] theorem rememberKitchen_now (c : Nat) (k : KitchenKind) : (s.rememberKitchen c k).now = s.now := by
  unfold State.rememberKitchen; simp
@[simp] theorem rememberKitchen_sul (c : Nat) (k : KitchenKind) : (s.rememberKitchen c k).sul = s.sul := by
  unfold State.rememberKitchen; simp
@[simp] theorem rememberKitchen_comps (c : Nat) (k : KitchenKind) : (s.rememberKitchen c k).comps = s.comps := by
  unfold State.rememberKitchen; simp
@[simp] theorem rememberKitchen_inputs (c : Nat) (k : KitchenKind) : (s.rememberKitchen c k).inputs = s.inputs := by
  unfold State.rememberKitchen; simp
@[simp] theorem rememberKitchen_readings (c : Nat) (k : KitchenKind) : (s.rememberKitchen c k).readings = s.readings := by
  unfold State.rememberKitchen; simp
@[simp] theorem rememberKitchen_ssu (c : Nat) (k : KitchenKind) : (s.rememberKitchen c k).ssu = s.ssu := by
  unfold State.rememberKitchen; simp
@[simp] theorem rememberKitchen_psc (c : Nat) (k : KitchenKind) : (s.rememberKitchen c k).psc = s.psc := by
  unfold State.rememberKitchen; simp
@[simp] theorem rememberKitchen_dsu (c : Nat) (k : KitchenKind) : (s.rememberKitchen c k).dsu = s.dsu := by
  unfold State.rememberKitchen; simp
@[simp] theorem rememberKitchen_peers (c : Nat) (k : KitchenKind) : (s.rememberKitchen c k).peers = s.peers := by
  unfold State.rememberKitchen; simp
@[simp] theorem rememberKitchen_lif (c : Nat) (k : KitchenKind) : (s.rememberKitchen c k).lif = s.lif := by
  unfold State.rememberKitchen; simp
@[simp] theorem rememberKitchen_cdir (c : Nat) (k : KitchenKind) : (s.rememberKitchen c k).cdir = s.cdir := by
  unfold State.rememberKitchen; simp
@[simp] theorem rememberKitchen_kp (c : Nat) (k : KitchenKind) : (s.rememberKitchen c k).kp = s.kp := by
  unfold State.rememberKitchen; simp
@[simp] theorem rememberKitchen_cp (c : Nat) (k : KitchenKind) : (s.rememberKitchen c k).cp = s.cp := by
  unfold State.rememberKitchen; simp
@[simp] theorem rememberKitchen_pending (c : Nat) (k : KitchenKind) : (s.rememberKitchen c k).pending = s.pending := by
  unfold State.rememberKitchen; simp
@[simp] theorem rememberKitchen_rx (c : Nat) (k : KitchenKind) : (s.rememberKitchen c k).rx = s.rx := by
  unfold State.rememberKitchen; simp

@[simp] theorem rememberCounter_now (c tag : Nat) : (s.rememberCounter c tag).now = s.now := by
  unfold State.rememberCounter; simp
@[simp] theorem rememberCounter_sul (c tag : Nat) : (s.rememberCounter c tag).sul = s.sul := by
  unfold State.rememberCounter; simp
@[simp] theorem rememberCounter_comps (c tag : Nat) : (s.rememberCounter c tag).comps = s.comps := by
  unfold State.rememberCounter; simp
@[simp] theorem rememberCounter_inputs (c tag : Nat) : (s.rememberCounter c tag).inputs = s.inputs := by
  unfold State.rememberCounter; simp
@[simp] theorem rememberCounter_readings (c tag : Nat) : (s.rememberCounter c tag).readings = s.readings := by
  unfold State.rememberCounter; simp
@[simp] theorem rememberCounter_ssu (c tag : Nat) : (s.rememberCounter c tag).ssu = s.ssu := by
  unfold State.rememberCounter; simp
@[simp] theorem rememberCounter_psc (c tag : Nat) : (s.rememberCounter c tag).psc = s.psc := by
  unfold State.rememberCounter; simp
@[simp] theorem rememberCounter_dsu (c tag : Nat) : (s.rememberCounter c tag).dsu = s.dsu := by
  unfold State.rememberCounter; simp
@[simp] theorem rememberCounter_peers (c tag : Nat) : (s.rememberCounter c tag).peers = s.peers := by
  unfold State.rememberCounter; simp
@[simp] theorem rememberCounter_lif (c tag : Nat) : (s.rememberCounter c tag).lif = s.lif := by
  unfold State.rememberCounter; simp
@[simp] theorem rememberCounter_cdir (c tag : Nat) : (s.rememberCounter c tag).cdir = s.cdir := by
  unfold State.rememberCounter; simp
@[simp] theorem rememberCounter_kp (c tag : Nat) : (s.rememberCounter c tag).kp = s.kp := by
  unfold State.rememberCounter; simp
@[simp] theorem rememberCounter_cp (c tag : Nat) : (s.rememberCounter c tag).cp = s.cp := by
  unfold State.rememberCounter; simp
@[simp] theorem rememberCounter_pending (c tag : Nat) : (s.rememberCounter c tag).pending = s.pending := by
  unfold State.rememberCounter; simp
@[simp] theorem rememberCounter_rx (c tag : Nat) : (s.rememberCounter c tag).rx = s.rx := by
  unfold State.rememberCounter; simp

@[simp] theorem forget_now (c : Nat) (sd : Side) : (s.forget c sd).now = s.now := by
  unfold State.forget; (repeat' split) <;> simp
@[simp] theorem forget_sul (c : Nat) (sd : Side) : (s.forget c sd).sul = s.sul := by
  unfold State.forget; (repeat' split) <;> simp
@[simp] theorem forget_comps (c : Nat) (sd : Side) : (s.forget c sd).comps = s.comps := by
  unfold State.forget; (repeat' split) <;> simp
@[simp] theorem forget_requestSerial (c : Nat) (sd : Side) : (s.forget c sd).requestSerial = s.requestSerial := by
  unfold State.forget; (repeat' split) <;> simp
@[simp] theorem forget_inputs (c : Nat) (sd : Side) : (s.forget c sd).inputs = s.inputs := by
  unfold State.forget; (repeat' split) <;> simp
@[simp] theorem forget_readings (c : Nat) (sd : Side) : (s.forget c sd).readings = s.readings := by
  unfold State.forget; (repeat' split) <;> simp
@[simp] theorem forget_ssu (c : Nat) (sd : Side) : (s.forget c sd).ssu = s.ssu := by
  unfold State.forget; (repeat' split) <;> simp
@[simp] theorem forget_psc (c : Nat) (sd : Side) : (s.forget c sd).psc = s.psc := by
  unfold State.forget; (repeat' split) <;> simp
@[simp] theorem forget_dsu (c : Nat) (sd : Side) : (s.forget c sd).dsu = s.dsu := by
  unfold State.forget; (repeat' split) <;> simp
@[simp] theorem forget_peers (c : Nat) (sd : Side) : (s.forget c sd).peers = s.peers := by
  unfold State.forget; (repeat' split) <;> simp
@[simp] theorem forget_lif (c : Nat) (sd : Side) : (s.forget c sd).lif = s.lif := by
  unfold State.forget; (repeat' split) <;> simp
@[simp] theorem forget_cdir (c : Nat) (sd : Side) : (s.forget c sd).cdir = s.cdir := by
  unfold State.forget; (repeat' split) <;> simp
@[simp] theorem forget_kp (c : Nat) (sd : Side) : (s.forget c sd).kp = s.kp := by
  unfold State.forget; (repeat' split) <;> simp
@[simp] theorem forget_cp (c : Nat) (sd : Side) : (s.forget c sd).cp = s.cp := by
  unfold State.forget; (repeat' split) <;> simp
@[simp] theorem forget_pending (c : Nat) (sd : Side) : (s.forget c sd).pending = s.pending := by
  unfold State.forget; (repeat' split) <;> simp
@[simp] theorem forget_rx (c : Nat) (sd : Side) : (s.forget c sd).rx = s.rx := by
  unfold State.forget; (repeat' split) <;> simp

@[simp] theorem reevalKitchen_now (c : Nat) : (s.reevalKitchen c).now = s.now := by
  unfold State.reevalKitchen; (repeat' split) <;> simp
@[simp] theorem reevalKitchen_sul (c : Nat) : (s.reevalKitchen c).sul = s.sul := by
  unfold State.reevalKitchen; (repeat' split) <;> simp
@[simp] theorem reevalKitchen_requestSerial (c : Nat) : (s.reevalKitchen c).requestSerial = s.requestSerial := by
  unfold State.reevalKitchen; (repeat' split) <;> simp
@[simp] theorem reevalKitchen_inputs (c : Nat) : (s.reevalKitchen c).inputs = s.inputs := by
  unfold State.reevalKitchen; (repeat' split) <;> simp
@[simp] theorem reevalKitchen_ssu (c : Nat) : (s.reevalKitchen c).ssu = s.ssu := by
  unfold State.reevalKitchen; (repeat' split) <;> simp
@[simp] theorem reevalKitchen_dsu (c : Nat) : (s.reevalKitchen c).dsu = s.dsu := by
  unfold State.reevalKitchen; (repeat' split) <;> simp
@[simp] theorem reevalKitchen_peers (c : Nat) : (s.reevalKitchen c).peers = s.peers := by
  unfold State.reevalKitchen; (repeat' split) <;> simp
@[simp] theorem reevalKitchen_lif (c : Nat) : (s.reevalKitchen c).lif = s.lif := by
  unfold State.reevalKitchen; (repeat' split) <;> simp
@[simp] theorem reevalKitchen_cdir (c : Nat) : (s.reevalKitchen c).cdir = s.cdir := by
  unfold State.reevalKitchen; (repeat' split) <;> simp
@[simp] theorem reevalKitchen_cp (c : Nat) : (s.reevalKitchen c).cp = s.cp := by
  unfold State.reevalKitchen; (repeat' split) <;> simp
@[simp] theorem reevalKitchen_pending (c : Nat) : (s.reevalKitchen c).pending = s.pending := by
  unfold State.reevalKitchen; (repeat' split) <;> simp
@[simp] theorem reevalKitchen_rx (c : Nat) : (s.reevalKitchen c).rx = s.rx := by
  unfold State.reevalKitchen; (repeat' split) <;> simp

@[simp] theorem reevalCounter_now (c : Nat) : (s.reevalCounter c).now = s.now := by
  unfold State.reevalCounter; (repeat' split) <;> simp
@[simp] theorem reevalCounter_sul (c : Nat) : (s.reevalCounter c).sul = s.sul := by
  unfold State.reevalCounter; (repeat' split) <;> simp
@[simp] theorem reevalCounter_requestSerial (c : Nat) : (s.reevalCounter c).requestSerial = s.requestSerial := by
  unfold State.reevalCounter; (repeat' split) <;> simp
@[simp] theorem reevalCounter_inputs (c : Nat) : (s.reevalCounter c).inputs = s.inputs := by
  unfold State.reevalCounter; (repeat' split) <;> simp
@[simp] theorem reevalCounter_ssu (c : Nat) : (s.reevalCounter c).ssu = s.ssu := by
  unfold State.reevalCounter; (repeat' split) <;> simp
@[simp] theorem reevalCounter_dsu (c : Nat) : (s.reevalCounter c).dsu = s.dsu := by
  unfold State.reevalCounter; (repeat' split) <;> simp
@[simp] theorem reevalCounter_peers (c : Nat) : (s.reevalCounter c).peers = s.peers := by
  unfold State.reevalCounter; (repeat' split) <;> simp
@[simp] theorem reevalCounter_lif (c : Nat) : (s.reevalCounter c).lif = s.lif := by
  unfold State.reevalCounter; (repeat' split) <;> simp
@[simp] theorem reevalCounter_cdir (c : Nat) : (s.reevalCounter c).cdir = s.cdir := by
  unfold State.reevalCounter; (repeat' split) <;> simp
@[simp] theorem reevalCounter_pending (c : Nat) : (s.reevalCounter c).pending = s.pending := by
  unfold State.reevalCounter; (repeat' split) <;> simp
@[simp] theorem reevalCounter_rx (c : Nat) : (s.reevalCounter c).rx = s.rx := by
  unfold State.reevalCounter; (repeat' split) <;> simp

@[simp] theorem reeval_now (sd : Side) (c : Nat) : (s.reeval sd c).now = s.now := by
  unfold State.reeval; (repeat' split) <;> simp
@[simp] theorem reeval_sul (sd : Side) (c : Nat) : (s.reeval sd c).sul = s.sul := by
  unfold State.reeval; (repeat' split) <;> simp
@[simp] theorem reeval_requestSerial (sd : Side) (c : Nat) : (s.reeval sd c).requestSerial = s.requestSerial := by
  unfold State.reeval; (repeat' split) <;> simp
@[simp] theorem reeval_inputs (sd : Side) (c : Nat) : (s.reeval sd c).inputs = s.inputs := by
  unfold State.reeval; (repeat' split) <;> simp
@[simp] theorem reeval_ssu (sd : Side) (c : Nat) : (s.reeval sd c).ssu = s.ssu := by
  unfold State.reeval; (repeat' split) <;> simp
@[simp] theorem reeval_dsu (sd : Side) (c : Nat) : (s.reeval sd c).dsu = s.dsu := by
  unfold State.reeval; (repeat' split) <;> simp
@[simp] theorem reeval_peers (sd : Side) (c : Nat) : (s.reeval sd c).peers = s.peers := by
  unfold State.reeval; (repeat' split) <;> simp
@[simp] theorem reeval_lif (sd : Side) (c : Nat) : (s.reeval sd c).lif = s.lif := by
  unfold State.reeval; (repeat' split) <;> simp
@[simp] theorem reeval_cdir (sd : Side) (c : Nat) : (s.reeval sd c).cdir = s.cdir := by
  unfold State.reeval; (repeat' split) <;> simp
@[simp] theorem reeval_pending (sd : Side) (c : Nat) : (s.reeval sd c).pending = s.pending := by
  unfold State.reeval; (repeat' split) <;> simp
@[simp] theorem reeval_rx (sd : Side) (c : Nat) : (s.reeval sd c).rx = s.rx := by
  unfold State.reeval; (repeat' split) <;> simp

theorem foldReeval_now (sd : Side) (cs : List Nat) : (cs.foldl (fun t c => t.reeval sd c) s).now = s.now := by
  induction cs generalizing s with
  | nil => rfl
  | cons c cs ih => simp [ih]

@[simp] theorem reevalSide_now (sd : Side) : (s.reevalSide sd).now = s.now := by
  unfold State.reevalSide; simp [foldReeval_now]
theorem foldReeval_sul (sd : Side) (cs : List Nat) : (cs.foldl (fun t c => t.reeval sd c) s).sul = s.sul := by
  induction cs generalizing s with
  | nil => rfl
  | cons c cs ih => simp [ih]

@[simp] theorem reevalSide_sul (sd : Side) : (s.reevalSide sd).sul = s.sul := by
  unfold State.reevalSide; simp [foldReeval_sul]
theorem foldReeval_requestSerial (sd : Side) (cs : List Nat) : (cs.foldl (fun t c => t.reeval sd c) s).requestSerial = s.requestSerial := by
  induction cs generalizing s with
  | nil => rfl
  | cons c cs ih => simp [ih]

@[simp] theorem reevalSide_requestSerial (sd : Side) : (s.reevalSide sd).requestSerial = s.requestSerial := by
  unfold State.reevalSide; simp [foldReeval_requestSerial]
theorem foldReeval_inputs (sd : Side) (cs : List Nat) : (cs.foldl (fun t c => t.reeval sd c) s).inputs = s.inputs := by
  induction cs generalizing s with
  | nil => rfl
  | cons c cs ih => simp [ih]

@[simp] theorem reevalSide_inputs (sd : Side) : (s.reevalSide sd).inputs = s.inputs := by
  unfold State.reevalSide; simp [foldReeval_inputs]
theorem foldReeval_ssu (sd : Side) (cs : List Nat) : (cs.foldl (fun t c => t.reeval sd c) s).ssu = s.ssu := by
  induction cs generalizing s with
  | nil => rfl
  | cons c cs ih => simp [ih]

@[simp] theorem reevalSide_ssu (sd : Side) : (s.reevalSide sd).ssu = s.ssu := by
  unfold State.reevalSide; simp [foldReeval_ssu]
theorem foldReeval_dsu (sd : Side) (cs : List Nat) : (cs.foldl (fun t c => t.reeval sd c) s).dsu = s.dsu := by
  induction cs generalizing s with
  | nil => rfl
  | cons c cs ih => simp [ih]

@[simp] theorem reevalSide_dsu (sd : Side) : (s.reevalSide sd).dsu = s.dsu := by
  unfold State.reevalSide; simp [foldReeval_dsu]
theorem foldReeval_peers (sd : Side) (cs : List Nat) : (cs.foldl (fun t c => t.reeval sd c) s).peers = s.peers := by
  induction cs generalizing s with
  | nil => rfl
  | cons c cs ih => simp [ih]

@[simp] theorem reevalSide_peers (sd : Side) : (s.reevalSide sd).peers = s.peers := by
  unfold State.reevalSide; simp [foldReeval_peers]
theorem foldReeval_lif (sd : Side) (cs : List Nat) : (cs.foldl (fun t c => t.reeval sd c) s).lif = s.lif := by
  induction cs generalizing s with
  | nil => rfl
  | cons c cs ih => simp [ih]

@[simp] theorem reevalSide_lif (sd : Side) : (s.reevalSide sd).lif = s.lif := by
  unfold State.reevalSide; simp [foldReeval_lif]
theorem foldReeval_cdir (sd : Side) (cs : List Nat) : (cs.foldl (fun t c => t.reeval sd c) s).cdir = s.cdir := by
  induction cs generalizing s with
  | nil => rfl
  | cons c cs ih => simp [ih]

@[simp] theorem reevalSide_cdir (sd : Side) : (s.reevalSide sd).cdir = s.cdir := by
  unfold State.reevalSide; simp [foldReeval_cdir]
theorem foldReeval_pending (sd : Side) (cs : List Nat) : (cs.foldl (fun t c => t.reeval sd c) s).pending = s.pending := by
  induction cs generalizing s with
  | nil => rfl
  | cons c cs ih => simp [ih]
theorem foldReeval_rx (sd : Side) (cs : List Nat) : (cs.foldl (fun t c => t.reeval sd c) s).rx = s.rx := by
  induction cs generalizing s with
  | nil => rfl
  | cons c cs ih => simp [ih]

@[simp] theorem reevalSide_pending (sd : Side) : (s.reevalSide sd).pending = s.pending := by
  unfold State.reevalSide; simp [foldReeval_pending]
@[simp] theorem reevalSide_rx (sd : Side) : (s.reevalSide sd).rx = s.rx := by
  unfold State.reevalSide; simp [foldReeval_rx]

@[simp] theorem reevalBoth_now (c : Nat) : (s.reevalBoth c).now = s.now := by
  unfold State.reevalBoth; (repeat' split) <;> simp
@[simp] theorem reevalBoth_sul (c : Nat) : (s.reevalBoth c).sul = s.sul := by
  unfold State.reevalBoth; (repeat' split) <;> simp
@[simp] theorem reevalBoth_requestSerial (c : Nat) : (s.reevalBoth c).requestSerial = s.requestSerial := by
  unfold State.reevalBoth; (repeat' split) <;> simp
@[simp] theorem reevalBoth_inputs (c : Nat) : (s.reevalBoth c).inputs = s.inputs := by
  unfold State.reevalBoth; (repeat' split) <;> simp
@[simp] theorem reevalBoth_ssu (c : Nat) : (s.reevalBoth c).ssu = s.ssu := by
  unfold State.reevalBoth; (repeat' split) <;> simp
@[simp] theorem reevalBoth_dsu (c : Nat) : (s.reevalBoth c).dsu = s.dsu := by
  unfold State.reevalBoth; (repeat' split) <;> simp
@[simp] theorem reevalBoth_peers (c : Nat) : (s.reevalBoth c).peers = s.peers := by
  unfold State.reevalBoth; (repeat' split) <;> simp
@[simp] theorem reevalBoth_lif (c : Nat) : (s.reevalBoth c).lif = s.lif := by
  unfold State.reevalBoth; (repeat' split) <;> simp
@[simp] theorem reevalBoth_cdir (c : Nat) : (s.reevalBoth c).cdir = s.cdir := by
  unfold State.reevalBoth; (repeat' split) <;> simp
@[simp] theorem reevalBoth_pending (c : Nat) : (s.reevalBoth c).pending = s.pending := by
  unfold State.reevalBoth; (repeat' split) <;> simp
@[simp] theorem reevalBoth_rx (c : Nat) : (s.reevalBoth c).rx = s.rx := by
  unfold State.reevalBoth; (repeat' split) <;> simp

@[simp] theorem holdEnd_now (c : Nat) (sd : Side) (k : HoldEnd) : (s.holdEnd c sd k).now = s.now := by
  unfold State.holdEnd; simp
@[simp] theorem holdEnd_requestSerial (c : Nat) (sd : Side) (k : HoldEnd) : (s.holdEnd c sd k).requestSerial = s.requestSerial := by
  unfold State.holdEnd; simp
@[simp] theorem holdEnd_inputs (c : Nat) (sd : Side) (k : HoldEnd) : (s.holdEnd c sd k).inputs = s.inputs := by
  unfold State.holdEnd; simp
@[simp] theorem holdEnd_ssu (c : Nat) (sd : Side) (k : HoldEnd) : (s.holdEnd c sd k).ssu = s.ssu := by
  unfold State.holdEnd; simp
@[simp] theorem holdEnd_dsu (c : Nat) (sd : Side) (k : HoldEnd) : (s.holdEnd c sd k).dsu = s.dsu := by
  unfold State.holdEnd; simp
@[simp] theorem holdEnd_peers (c : Nat) (sd : Side) (k : HoldEnd) : (s.holdEnd c sd k).peers = s.peers := by
  unfold State.holdEnd; simp
@[simp] theorem holdEnd_cdir (c : Nat) (sd : Side) (k : HoldEnd) : (s.holdEnd c sd k).cdir = s.cdir := by
  unfold State.holdEnd; simp
@[simp] theorem holdEnd_pending (c : Nat) (sd : Side) (k : HoldEnd) : (s.holdEnd c sd k).pending = s.pending := by
  unfold State.holdEnd; simp
@[simp] theorem holdEnd_rx (c : Nat) (sd : Side) (k : HoldEnd) : (s.holdEnd c sd k).rx = s.rx := by
  unfold State.holdEnd; simp

@[simp] theorem noticeAjar_now (c : Nat) (sd : Side) : (s.noticeAjar c sd).now = s.now := by
  unfold State.noticeAjar; (repeat' split) <;> simp
@[simp] theorem noticeAjar_sul (c : Nat) (sd : Side) : (s.noticeAjar c sd).sul = s.sul := by
  unfold State.noticeAjar; (repeat' split) <;> simp
@[simp] theorem noticeAjar_comps (c : Nat) (sd : Side) : (s.noticeAjar c sd).comps = s.comps := by
  unfold State.noticeAjar; (repeat' split) <;> simp
@[simp] theorem noticeAjar_requestSerial (c : Nat) (sd : Side) : (s.noticeAjar c sd).requestSerial = s.requestSerial := by
  unfold State.noticeAjar; (repeat' split) <;> simp
@[simp] theorem noticeAjar_inputs (c : Nat) (sd : Side) : (s.noticeAjar c sd).inputs = s.inputs := by
  unfold State.noticeAjar; (repeat' split) <;> simp
@[simp] theorem noticeAjar_readings (c : Nat) (sd : Side) : (s.noticeAjar c sd).readings = s.readings := by
  unfold State.noticeAjar; (repeat' split) <;> simp
@[simp] theorem noticeAjar_ssu (c : Nat) (sd : Side) : (s.noticeAjar c sd).ssu = s.ssu := by
  unfold State.noticeAjar; (repeat' split) <;> simp
@[simp] theorem noticeAjar_psc (c : Nat) (sd : Side) : (s.noticeAjar c sd).psc = s.psc := by
  unfold State.noticeAjar; (repeat' split) <;> simp
@[simp] theorem noticeAjar_dsu (c : Nat) (sd : Side) : (s.noticeAjar c sd).dsu = s.dsu := by
  unfold State.noticeAjar; (repeat' split) <;> simp
@[simp] theorem noticeAjar_peers (c : Nat) (sd : Side) : (s.noticeAjar c sd).peers = s.peers := by
  unfold State.noticeAjar; (repeat' split) <;> simp
@[simp] theorem noticeAjar_lif (c : Nat) (sd : Side) : (s.noticeAjar c sd).lif = s.lif := by
  unfold State.noticeAjar; (repeat' split) <;> simp
@[simp] theorem noticeAjar_cdir (c : Nat) (sd : Side) : (s.noticeAjar c sd).cdir = s.cdir := by
  unfold State.noticeAjar; (repeat' split) <;> simp
@[simp] theorem noticeAjar_pending (c : Nat) (sd : Side) : (s.noticeAjar c sd).pending = s.pending := by
  unfold State.noticeAjar; (repeat' split) <;> simp
@[simp] theorem noticeAjar_rx (c : Nat) (sd : Side) : (s.noticeAjar c sd).rx = s.rx := by
  unfold State.noticeAjar; (repeat' split) <;> simp

@[simp] theorem forceDoor_now (c : Nat) (sd : Side) : (s.forceDoor c sd).now = s.now := by
  unfold State.forceDoor; simp
@[simp] theorem forceDoor_sul (c : Nat) (sd : Side) : (s.forceDoor c sd).sul = s.sul := by
  unfold State.forceDoor; simp
@[simp] theorem forceDoor_requestSerial (c : Nat) (sd : Side) : (s.forceDoor c sd).requestSerial = s.requestSerial := by
  unfold State.forceDoor; simp
@[simp] theorem forceDoor_inputs (c : Nat) (sd : Side) : (s.forceDoor c sd).inputs = s.inputs := by
  unfold State.forceDoor; simp
@[simp] theorem forceDoor_ssu (c : Nat) (sd : Side) : (s.forceDoor c sd).ssu = s.ssu := by
  unfold State.forceDoor; simp
@[simp] theorem forceDoor_dsu (c : Nat) (sd : Side) : (s.forceDoor c sd).dsu = s.dsu := by
  unfold State.forceDoor; simp
@[simp] theorem forceDoor_peers (c : Nat) (sd : Side) : (s.forceDoor c sd).peers = s.peers := by
  unfold State.forceDoor; simp
@[simp] theorem forceDoor_cdir (c : Nat) (sd : Side) : (s.forceDoor c sd).cdir = s.cdir := by
  unfold State.forceDoor; simp
@[simp] theorem forceDoor_cp (c : Nat) (sd : Side) : (s.forceDoor c sd).cp = s.cp := by
  unfold State.forceDoor; simp
@[simp] theorem forceDoor_pending (c : Nat) (sd : Side) : (s.forceDoor c sd).pending = s.pending := by
  unfold State.forceDoor; simp
@[simp] theorem forceDoor_rx (c : Nat) (sd : Side) : (s.forceDoor c sd).rx = s.rx := by
  unfold State.forceDoor; simp

@[simp] theorem lapseRequest_now (c : Nat) (sd : Side) : (s.lapseRequest c sd).now = s.now := by
  unfold State.lapseRequest; (repeat' split) <;> simp
@[simp] theorem lapseRequest_sul (c : Nat) (sd : Side) : (s.lapseRequest c sd).sul = s.sul := by
  unfold State.lapseRequest; (repeat' split) <;> simp
@[simp] theorem lapseRequest_comps (c : Nat) (sd : Side) : (s.lapseRequest c sd).comps = s.comps := by
  unfold State.lapseRequest; (repeat' split) <;> simp
@[simp] theorem lapseRequest_requestSerial (c : Nat) (sd : Side) : (s.lapseRequest c sd).requestSerial = s.requestSerial := by
  unfold State.lapseRequest; (repeat' split) <;> simp
@[simp] theorem lapseRequest_inputs (c : Nat) (sd : Side) : (s.lapseRequest c sd).inputs = s.inputs := by
  unfold State.lapseRequest; (repeat' split) <;> simp
@[simp] theorem lapseRequest_readings (c : Nat) (sd : Side) : (s.lapseRequest c sd).readings = s.readings := by
  unfold State.lapseRequest; (repeat' split) <;> simp
@[simp] theorem lapseRequest_ssu (c : Nat) (sd : Side) : (s.lapseRequest c sd).ssu = s.ssu := by
  unfold State.lapseRequest; (repeat' split) <;> simp
@[simp] theorem lapseRequest_psc (c : Nat) (sd : Side) : (s.lapseRequest c sd).psc = s.psc := by
  unfold State.lapseRequest; (repeat' split) <;> simp
@[simp] theorem lapseRequest_dsu (c : Nat) (sd : Side) : (s.lapseRequest c sd).dsu = s.dsu := by
  unfold State.lapseRequest; (repeat' split) <;> simp
@[simp] theorem lapseRequest_peers (c : Nat) (sd : Side) : (s.lapseRequest c sd).peers = s.peers := by
  unfold State.lapseRequest; (repeat' split) <;> simp
@[simp] theorem lapseRequest_lif (c : Nat) (sd : Side) : (s.lapseRequest c sd).lif = s.lif := by
  unfold State.lapseRequest; (repeat' split) <;> simp
@[simp] theorem lapseRequest_cdir (c : Nat) (sd : Side) : (s.lapseRequest c sd).cdir = s.cdir := by
  unfold State.lapseRequest; (repeat' split) <;> simp
@[simp] theorem lapseRequest_pending (c : Nat) (sd : Side) : (s.lapseRequest c sd).pending = s.pending := by
  unfold State.lapseRequest; (repeat' split) <;> simp
@[simp] theorem lapseRequest_rx (c : Nat) (sd : Side) : (s.lapseRequest c sd).rx = s.rx := by
  unfold State.lapseRequest; (repeat' split) <;> simp

end Sys2Proof.Machine
end

