-- ==== Sys2Proof/Laws/FrameScan.lean ====
section
/-! SUPPORT. What the operations of the Sensor Scan Unit and the decay step leave alone: one lemma for each field of the state an operation
does not touch. -/

namespace Sys2Proof.Machine

variable (s : State)

@[simp] theorem nextSlot_now : (s.nextSlot).now = s.now := by
  unfold State.nextSlot; simp
@[simp] theorem nextSlot_sul : (s.nextSlot).sul = s.sul := by
  unfold State.nextSlot; simp
@[simp] theorem nextSlot_comps : (s.nextSlot).comps = s.comps := by
  unfold State.nextSlot; simp
@[simp] theorem nextSlot_doors : (s.nextSlot).doors = s.doors := by
  unfold State.nextSlot; simp
@[simp] theorem nextSlot_requestSerial : (s.nextSlot).requestSerial = s.requestSerial := by
  unfold State.nextSlot; simp
@[simp] theorem nextSlot_inputs : (s.nextSlot).inputs = s.inputs := by
  unfold State.nextSlot; simp
@[simp] theorem nextSlot_readings : (s.nextSlot).readings = s.readings := by
  unfold State.nextSlot; simp
@[simp] theorem nextSlot_psc : (s.nextSlot).psc = s.psc := by
  unfold State.nextSlot; simp
@[simp] theorem nextSlot_dsu : (s.nextSlot).dsu = s.dsu := by
  unfold State.nextSlot; simp
@[simp] theorem nextSlot_peers : (s.nextSlot).peers = s.peers := by
  unfold State.nextSlot; simp
@[simp] theorem nextSlot_lif : (s.nextSlot).lif = s.lif := by
  unfold State.nextSlot; simp
@[simp] theorem nextSlot_cdir : (s.nextSlot).cdir = s.cdir := by
  unfold State.nextSlot; simp
@[simp] theorem nextSlot_kp : (s.nextSlot).kp = s.kp := by
  unfold State.nextSlot; simp
@[simp] theorem nextSlot_cp : (s.nextSlot).cp = s.cp := by
  unfold State.nextSlot; simp
@[simp] theorem nextSlot_pending : (s.nextSlot).pending = s.pending := by
  unfold State.nextSlot; simp
@[simp] theorem nextSlot_rx : (s.nextSlot).rx = s.rx := by
  unfold State.nextSlot; simp

@[simp] theorem sensorCheck_now (c : Nat) : (s.sensorCheck c).now = s.now := by
  unfold State.sensorCheck; (repeat' split) <;> simp
@[simp] theorem sensorCheck_doors (c : Nat) : (s.sensorCheck c).doors = s.doors := by
  unfold State.sensorCheck; (repeat' split) <;> simp
@[simp] theorem sensorCheck_requestSerial (c : Nat) : (s.sensorCheck c).requestSerial = s.requestSerial := by
  unfold State.sensorCheck; (repeat' split) <;> simp
@[simp] theorem sensorCheck_inputs (c : Nat) : (s.sensorCheck c).inputs = s.inputs := by
  unfold State.sensorCheck; (repeat' split) <;> simp
@[simp] theorem sensorCheck_ssu (c : Nat) : (s.sensorCheck c).ssu = s.ssu := by
  unfold State.sensorCheck; (repeat' split) <;> simp
@[simp] theorem sensorCheck_dsu (c : Nat) : (s.sensorCheck c).dsu = s.dsu := by
  unfold State.sensorCheck; (repeat' split) <;> simp
@[simp] theorem sensorCheck_peers (c : Nat) : (s.sensorCheck c).peers = s.peers := by
  unfold State.sensorCheck; (repeat' split) <;> simp
@[simp] theorem sensorCheck_cdir (c : Nat) : (s.sensorCheck c).cdir = s.cdir := by
  unfold State.sensorCheck; (repeat' split) <;> simp
@[simp] theorem sensorCheck_cp (c : Nat) : (s.sensorCheck c).cp = s.cp := by
  unfold State.sensorCheck; (repeat' split) <;> simp
@[simp] theorem sensorCheck_pending (c : Nat) : (s.sensorCheck c).pending = s.pending := by
  unfold State.sensorCheck; (repeat' split) <;> simp
@[simp] theorem sensorCheck_rx (c : Nat) : (s.sensorCheck c).rx = s.rx := by
  unfold State.sensorCheck; (repeat' split) <;> simp

@[simp] theorem overheatCheck_now (c t : Nat) : (s.overheatCheck c t).now = s.now := by
  unfold State.overheatCheck; (repeat' split) <;> simp
@[simp] theorem overheatCheck_doors (c t : Nat) : (s.overheatCheck c t).doors = s.doors := by
  unfold State.overheatCheck; (repeat' split) <;> simp
@[simp] theorem overheatCheck_requestSerial (c t : Nat) : (s.overheatCheck c t).requestSerial = s.requestSerial := by
  unfold State.overheatCheck; (repeat' split) <;> simp
@[simp] theorem overheatCheck_inputs (c t : Nat) : (s.overheatCheck c t).inputs = s.inputs := by
  unfold State.overheatCheck; (repeat' split) <;> simp
@[simp] theorem overheatCheck_ssu (c t : Nat) : (s.overheatCheck c t).ssu = s.ssu := by
  unfold State.overheatCheck; (repeat' split) <;> simp
@[simp] theorem overheatCheck_dsu (c t : Nat) : (s.overheatCheck c t).dsu = s.dsu := by
  unfold State.overheatCheck; (repeat' split) <;> simp
@[simp] theorem overheatCheck_peers (c t : Nat) : (s.overheatCheck c t).peers = s.peers := by
  unfold State.overheatCheck; (repeat' split) <;> simp
@[simp] theorem overheatCheck_cdir (c t : Nat) : (s.overheatCheck c t).cdir = s.cdir := by
  unfold State.overheatCheck; (repeat' split) <;> simp
@[simp] theorem overheatCheck_cp (c t : Nat) : (s.overheatCheck c t).cp = s.cp := by
  unfold State.overheatCheck; (repeat' split) <;> simp
@[simp] theorem overheatCheck_pending (c t : Nat) : (s.overheatCheck c t).pending = s.pending := by
  unfold State.overheatCheck; (repeat' split) <;> simp
@[simp] theorem overheatCheck_rx (c t : Nat) : (s.overheatCheck c t).rx = s.rx := by
  unfold State.overheatCheck; (repeat' split) <;> simp

@[simp] theorem elementCheck_now (c t : Nat) : (s.elementCheck c t).now = s.now := by
  simp only [State.elementCheck]; (repeat' split) <;> simp
@[simp] theorem elementCheck_doors (c t : Nat) : (s.elementCheck c t).doors = s.doors := by
  simp only [State.elementCheck]; (repeat' split) <;> simp
@[simp] theorem elementCheck_requestSerial (c t : Nat) : (s.elementCheck c t).requestSerial = s.requestSerial := by
  simp only [State.elementCheck]; (repeat' split) <;> simp
@[simp] theorem elementCheck_inputs (c t : Nat) : (s.elementCheck c t).inputs = s.inputs := by
  simp only [State.elementCheck]; (repeat' split) <;> simp
@[simp] theorem elementCheck_ssu (c t : Nat) : (s.elementCheck c t).ssu = s.ssu := by
  simp only [State.elementCheck]; (repeat' split) <;> simp
@[simp] theorem elementCheck_dsu (c t : Nat) : (s.elementCheck c t).dsu = s.dsu := by
  simp only [State.elementCheck]; (repeat' split) <;> simp
@[simp] theorem elementCheck_peers (c t : Nat) : (s.elementCheck c t).peers = s.peers := by
  simp only [State.elementCheck]; (repeat' split) <;> simp
@[simp] theorem elementCheck_cdir (c t : Nat) : (s.elementCheck c t).cdir = s.cdir := by
  simp only [State.elementCheck]; (repeat' split) <;> simp
@[simp] theorem elementCheck_cp (c t : Nat) : (s.elementCheck c t).cp = s.cp := by
  simp only [State.elementCheck]; (repeat' split) <;> simp
@[simp] theorem elementCheck_pending (c t : Nat) : (s.elementCheck c t).pending = s.pending := by
  simp only [State.elementCheck]; (repeat' split) <;> simp
@[simp] theorem elementCheck_rx (c t : Nat) : (s.elementCheck c t).rx = s.rx := by
  simp only [State.elementCheck]; (repeat' split) <;> simp

@[simp] theorem coldCheck_now (c t : Nat) : (s.coldCheck c t).now = s.now := by
  unfold State.coldCheck; (repeat' split) <;> simp
@[simp] theorem coldCheck_sul (c t : Nat) : (s.coldCheck c t).sul = s.sul := by
  unfold State.coldCheck; (repeat' split) <;> simp
@[simp] theorem coldCheck_doors (c t : Nat) : (s.coldCheck c t).doors = s.doors := by
  unfold State.coldCheck; (repeat' split) <;> simp
@[simp] theorem coldCheck_requestSerial (c t : Nat) : (s.coldCheck c t).requestSerial = s.requestSerial := by
  unfold State.coldCheck; (repeat' split) <;> simp
@[simp] theorem coldCheck_inputs (c t : Nat) : (s.coldCheck c t).inputs = s.inputs := by
  unfold State.coldCheck; (repeat' split) <;> simp
@[simp] theorem coldCheck_ssu (c t : Nat) : (s.coldCheck c t).ssu = s.ssu := by
  unfold State.coldCheck; (repeat' split) <;> simp
@[simp] theorem coldCheck_dsu (c t : Nat) : (s.coldCheck c t).dsu = s.dsu := by
  unfold State.coldCheck; (repeat' split) <;> simp
@[simp] theorem coldCheck_peers (c t : Nat) : (s.coldCheck c t).peers = s.peers := by
  unfold State.coldCheck; (repeat' split) <;> simp
@[simp] theorem coldCheck_cdir (c t : Nat) : (s.coldCheck c t).cdir = s.cdir := by
  unfold State.coldCheck; (repeat' split) <;> simp
@[simp] theorem coldCheck_cp (c t : Nat) : (s.coldCheck c t).cp = s.cp := by
  unfold State.coldCheck; (repeat' split) <;> simp
@[simp] theorem coldCheck_pending (c t : Nat) : (s.coldCheck c t).pending = s.pending := by
  unfold State.coldCheck; (repeat' split) <;> simp
@[simp] theorem coldCheck_rx (c t : Nat) : (s.coldCheck c t).rx = s.rx := by
  unfold State.coldCheck; (repeat' split) <;> simp

@[simp] theorem scan_now (c : Nat) (v : Option Nat) : (s.scan c v).now = s.now := by
  unfold State.scan; (repeat' split) <;> simp
@[simp] theorem scan_doors (c : Nat) (v : Option Nat) : (s.scan c v).doors = s.doors := by
  unfold State.scan; (repeat' split) <;> simp
@[simp] theorem scan_requestSerial (c : Nat) (v : Option Nat) : (s.scan c v).requestSerial = s.requestSerial := by
  unfold State.scan; (repeat' split) <;> simp
@[simp] theorem scan_inputs (c : Nat) (v : Option Nat) : (s.scan c v).inputs = s.inputs := by
  unfold State.scan; (repeat' split) <;> simp
@[simp] theorem scan_ssu (c : Nat) (v : Option Nat) : (s.scan c v).ssu = s.ssu := by
  unfold State.scan; (repeat' split) <;> simp
@[simp] theorem scan_dsu (c : Nat) (v : Option Nat) : (s.scan c v).dsu = s.dsu := by
  unfold State.scan; (repeat' split) <;> simp
@[simp] theorem scan_peers (c : Nat) (v : Option Nat) : (s.scan c v).peers = s.peers := by
  unfold State.scan; (repeat' split) <;> simp
@[simp] theorem scan_cdir (c : Nat) (v : Option Nat) : (s.scan c v).cdir = s.cdir := by
  unfold State.scan; (repeat' split) <;> simp
@[simp] theorem scan_cp (c : Nat) (v : Option Nat) : (s.scan c v).cp = s.cp := by
  unfold State.scan; (repeat' split) <;> simp
@[simp] theorem scan_pending (c : Nat) (v : Option Nat) : (s.scan c v).pending = s.pending := by
  unfold State.scan; (repeat' split) <;> simp
@[simp] theorem scan_rx (c : Nat) (v : Option Nat) : (s.scan c v).rx = s.rx := by
  unfold State.scan; (repeat' split) <;> simp

@[simp] theorem decay_now (c : Nat) (e : Estimate) : (s.decay c e).now = s.now := by
  simp only [State.decay]; (repeat' split) <;> simp
@[simp] theorem decay_sul (c : Nat) (e : Estimate) : (s.decay c e).sul = s.sul := by
  simp only [State.decay]; (repeat' split) <;> simp
@[simp] theorem decay_doors (c : Nat) (e : Estimate) : (s.decay c e).doors = s.doors := by
  simp only [State.decay]; (repeat' split) <;> simp
@[simp] theorem decay_requestSerial (c : Nat) (e : Estimate) : (s.decay c e).requestSerial = s.requestSerial := by
  simp only [State.decay]; (repeat' split) <;> simp
@[simp] theorem decay_inputs (c : Nat) (e : Estimate) : (s.decay c e).inputs = s.inputs := by
  simp only [State.decay]; (repeat' split) <;> simp
@[simp] theorem decay_ssu (c : Nat) (e : Estimate) : (s.decay c e).ssu = s.ssu := by
  simp only [State.decay]; (repeat' split) <;> simp
@[simp] theorem decay_dsu (c : Nat) (e : Estimate) : (s.decay c e).dsu = s.dsu := by
  simp only [State.decay]; (repeat' split) <;> simp
@[simp] theorem decay_peers (c : Nat) (e : Estimate) : (s.decay c e).peers = s.peers := by
  simp only [State.decay]; (repeat' split) <;> simp
@[simp] theorem decay_cdir (c : Nat) (e : Estimate) : (s.decay c e).cdir = s.cdir := by
  simp only [State.decay]; (repeat' split) <;> simp
@[simp] theorem decay_cp (c : Nat) (e : Estimate) : (s.decay c e).cp = s.cp := by
  simp only [State.decay]; (repeat' split) <;> simp
@[simp] theorem decay_pending (c : Nat) (e : Estimate) : (s.decay c e).pending = s.pending := by
  simp only [State.decay]; (repeat' split) <;> simp
@[simp] theorem decay_rx (c : Nat) (e : Estimate) : (s.decay c e).rx = s.rx := by
  simp only [State.decay]; (repeat' split) <;> simp

end Sys2Proof.Machine
end

