-- ==== Sys2Proof/Laws/View.lean ====
section
/-! SUPPORT. What heating operations and start attempts keep of the compartment records and of the Line Interface, and
what the end of an event is. -/

namespace Sys2Proof.Machine

variable (s : State)

/-! ## Lists and records -/

theorem map_modify_of_eq {α β : Type} (g : α → β) (f : α → α) (h : ∀ a, g (f a) = g a) (l : List α) (i : Nat) :
    (l.modify i f).map g = l.map g := by
  apply List.ext_getElem?
  intro n
  simp only [List.getElem?_map, List.getElem?_modify]
  cases l[n]? with
  | none => simp
  | some a => by_cases hn : i = n <;> simp [hn, h]

theorem getD_modify {α : Type} (l : List α) (i n : Nat) (f : α → α) (d : α) :
    (l.modify i f).getD n d = if i = n ∧ n < l.length then f (l.getD n d) else l.getD n d := by
  simp only [List.getD_eq_getElem?_getD, List.getElem?_modify]
  by_cases hn : n < l.length
  · by_cases hi : i = n <;> simp [hn, hi]
  · simp [hn]

theorem getD_map_eq {α β : Type} (g : α → β) (l : List α) (n : Nat) (d : α) :
    g (l.getD n d) = (l.map g).getD n (g d) := by
  simp only [List.getD_eq_getElem?_getD, List.getElem?_map]
  cases l[n]? <;> simp

/-- Compartment record `d` after an update of record `c`. -/
theorem comp_modComp (c d : Nat) (f : CompRec → CompRec) :
    (s.modComp c f).comp d = if c = d ∧ d < s.comps.length then f (s.comp d) else s.comp d := by
  exact getD_modify _ _ _ _ _

/-- Door record `d` after an update of record `c`. -/
theorem door_modDoor (c d : Nat) (f : DoorRec → DoorRec) :
    (s.modDoor c f).door d = if c = d ∧ d < s.doors.length then f (s.door d) else s.door d := by
  exact getD_modify _ _ _ _ _

/-- Reading record `d` after an update of record `c`. -/
theorem reading_modReading (c d : Nat) (f : ReadingRec → ReadingRec) :
    (s.modReading c f).reading d = if c = d ∧ d < s.readings.length then f (s.reading d) else s.reading d := by
  exact getD_modify _ _ _ _ _

@[simp] theorem table_est (r : CompRec) (e : Option Estimate) : CompRec.table { r with est := e } = r.table := rfl
@[simp] theorem table_pulse (r : CompRec) (p : Option Pulse) : CompRec.table { r with pulse := p } = r.table := rfl

/-! ## The compartment records but for estimate and pulse -/

@[simp] theorem setEst_table (c : Nat) (e : Option Estimate) :
    (s.setEst c e).comps.map CompRec.table = s.comps.map CompRec.table := by
  have h := map_modify_of_eq CompRec.table (fun r => { r with est := e }) (fun _ => rfl) s.comps c
  unfold State.setEst
  dsimp only
  split <;> simpa using h

@[simp] theorem setPulse_table (c : Nat) (p : Option Pulse) :
    (s.setPulse c p).comps.map CompRec.table = s.comps.map CompRec.table := by
  exact map_modify_of_eq CompRec.table (fun r => { r with pulse := p }) (fun _ => rfl) s.comps c

@[simp] theorem creditPoint_table (c : Nat) :
    (s.creditPoint c).comps.map CompRec.table = s.comps.map CompRec.table := by
  unfold State.creditPoint
  split <;> simp

@[simp] theorem endPulse_table (c : Nat) (p : Pulse) :
    (s.endPulse c p).comps.map CompRec.table = s.comps.map CompRec.table := by
  simp [State.endPulse]

@[simp] theorem suspendPulse_table (c : Nat) (p : Pulse) :
    (s.suspendPulse c p).comps.map CompRec.table = s.comps.map CompRec.table := by
  unfold State.suspendPulse
  split <;> simp

@[simp] theorem suspend_table (c : Nat) : (s.suspend c).comps.map CompRec.table = s.comps.map CompRec.table := by
  unfold State.suspend
  split <;> simp

@[simp] theorem dropHold_table (c : Nat) : (s.dropHold c).comps.map CompRec.table = s.comps.map CompRec.table := by
  simp [State.dropHold]

@[simp] theorem activate_table (c ch : Nat) :
    (s.activate c ch).comps.map CompRec.table = s.comps.map CompRec.table := by
  unfold State.activate
  split <;> simp

theorem reduce_table (limit n : Nat) : (reduce limit n s).comps.map CompRec.table = s.comps.map CompRec.table := by
  induction n generalizing s with
  | zero => rfl
  | succ n ih => unfold reduce; (repeat' split) <;> simp [ih]

@[simp] theorem reduceTo_table (limit : Nat) :
    (s.reduceTo limit).comps.map CompRec.table = s.comps.map CompRec.table := reduce_table s limit _

@[simp] theorem overrunTest_table : s.overrunTest.comps.map CompRec.table = s.comps.map CompRec.table := by
  unfold State.overrunTest
  split <;> simp

@[simp] theorem settleDraw_table : s.settleDraw.comps.map CompRec.table = s.comps.map CompRec.table := by
  simp only [State.settleDraw]
  (repeat' split) <;> simp

@[simp] theorem preempt_table (c : Nat) : (s.preempt c).comps.map CompRec.table = s.comps.map CompRec.table := by
  unfold State.preempt
  (repeat' split) <;> simp

@[simp] theorem actOn_table (c : Nat) (a : Answer) :
    (s.actOn c a).comps.map CompRec.table = s.comps.map CompRec.table := by
  unfold State.actOn
  (repeat' split) <;> simp

@[simp] theorem requestDraw_table (m : Nat) :
    (s.requestDraw m).2.comps.map CompRec.table = s.comps.map CompRec.table := by
  rw [requestDraw_comps]

@[simp] theorem attempt_table : s.attempt.comps.map CompRec.table = s.comps.map CompRec.table := by
  unfold State.attempt
  split <;> simp

@[simp] theorem useGrant_table : s.useGrant.comps.map CompRec.table = s.comps.map CompRec.table := by
  unfold State.useGrant
  (repeat' split) <;> simp

theorem runAttempts_table (n : Nat) : (runAttempts n s).comps.map CompRec.table = s.comps.map CompRec.table := by
  induction n generalizing s with
  | zero => simp [runAttempts]
  | succ n ih => unfold runAttempts; split <;> simp [ih]

@[simp] theorem close_table : s.close.comps.map CompRec.table = s.comps.map CompRec.table := by
  simp [State.close, runAttempts_table]

/-- A compartment record but for estimate and pulse, read from the list of all of them. -/
theorem comp_table_of_map {s t : State} (h : t.comps.map CompRec.table = s.comps.map CompRec.table) (c : Nat) :
    (t.comp c).table = (s.comp c).table := by
  unfold State.comp
  rw [getD_map_eq CompRec.table, getD_map_eq CompRec.table, h]

theorem length_of_table {s t : State} (h : t.comps.map CompRec.table = s.comps.map CompRec.table) :
    t.comps.length = s.comps.length := by
  have := congrArg List.length h
  simpa using this

/-! ## The Line Interface but for CLAIM and DRAW -/

theorem notes_insertQueued (q : Queued) (l : List Queued) :
    (insertQueued q l).filter (fun x => x.frame.isNote)
      = if q.frame.isNote then insertQueued q (l.filter fun x => x.frame.isNote)
        else l.filter fun x => x.frame.isNote := by
  induction l with
  | nil => cases h : q.frame.isNote <;> simp [insertQueued, h]
  | cons x xs ih =>
    rw [insertQueued]
    by_cases hb : q.before x
    · simp only [hb, if_true]
      cases hq : q.frame.isNote
      · simp [hq]
      · by_cases hx : x.frame.isNote
        · simp [hq, hx, insertQueued, hb]
        · exfalso
          simp only [Frame.isNote, decide_eq_true_eq] at hq hx
          simp only [Queued.before, Bool.or_eq_true, decide_eq_true_eq, Bool.and_eq_true] at hb
          omega
    · simp only [hb, Bool.false_eq_true, if_false, List.filter_cons, ih]
      cases hq : q.frame.isNote
      · simp
      · by_cases hx : x.frame.isNote
        · simp [hx, insertQueued, hb]
        · simp [hx]

theorem standing_push {f : Frame} (h : f.isNote = false) (l : Lif) : (l.push f).standing = l.standing := by
  simp [Lif.push, Lif.standing, Lif.notes, notes_insertQueued, h]

theorem standing_removeDraw (l : Lif) : l.removeDraw.standing = l.standing := by
  simp only [Lif.removeDraw, Lif.standing, Lif.notes, List.filter_filter]
  congr 1
  apply List.filter_congr
  intro q _
  cases hq : q.frame <;> simp [Frame.isNote, Frame.kind]

theorem standing_removeClaim (l : Lif) : l.removeClaim.standing = l.standing := by
  simp only [Lif.removeClaim, Lif.standing, Lif.notes, List.filter_filter]
  congr 1
  · apply List.filter_congr
    intro q _
    cases hq : q.frame <;> simp [Frame.isNote, Frame.kind, Frame.isClaim]
  · cases l.buffer with
    | none => rfl
    | some b => simp only [Option.map_some]; split <;> rfl

@[simp] theorem queueDraw_standing : s.queueDraw.lif.standing = s.lif.standing := by
  unfold State.queueDraw
  split
  · simp [standing_push (f := .draw) (by rfl), standing_removeDraw]
  · rfl

@[simp] theorem queueClaim_standing (a m q : Nat) : (s.queueClaim a m q).lif.standing = s.lif.standing := by
  unfold State.queueClaim
  split
  · simp [standing_push (f := .claim a m q) (by rfl)]
  · rfl

@[simp] theorem dropClaim_standing : s.dropClaim.lif.standing = s.lif.standing := by
  unfold State.dropClaim
  split <;> simp [standing_removeClaim]

@[simp] theorem makeClaim_standing (m : Nat) : (s.makeClaim m).lif.standing = s.lif.standing := by
  simp [State.makeClaim]

@[simp] theorem requestDraw_standing (m : Nat) : (s.requestDraw m).2.lif.standing = s.lif.standing := by
  unfold State.requestDraw State.requestClaim
  (repeat' split) <;> simp

@[simp] theorem overrunTest_standing : s.overrunTest.lif.standing = s.lif.standing := by
  unfold State.overrunTest
  split <;> simp

@[simp] theorem settleDraw_standing : s.settleDraw.lif.standing = s.lif.standing := by
  simp only [State.settleDraw]
  (repeat' split) <;> simp

@[simp] theorem attempt_standing : s.attempt.lif.standing = s.lif.standing := by
  unfold State.attempt
  split <;> simp

@[simp] theorem useGrant_standing : s.useGrant.lif.standing = s.lif.standing := by
  unfold State.useGrant
  (repeat' split) <;> simp

theorem runAttempts_standing (n : Nat) : (runAttempts n s).lif.standing = s.lif.standing := by
  induction n generalizing s with
  | zero => simp [runAttempts]
  | succ n ih => unfold runAttempts; split <;> simp [ih]

@[simp] theorem close_standing : s.close.lif.standing = s.lif.standing := by
  simp [State.close, runAttempts_standing]

/-! ## The end of an event -/

theorem settleDraw_of_still (h : s.psc.drawMoved = false) : s.settleDraw = s := by simp [State.settleDraw, h]

@[simp] theorem settleDraw_drawMoved : s.settleDraw.psc.drawMoved = false := by
  simp only [State.settleDraw]
  (repeat' split) <;> simp_all [State.drawSettled]

/-- With no trigger and no change of D left over, the end of an event only supplies the transmitters. -/
theorem close_of_quiet (h : s.Quiet) : s.close = s.pump := by
  simp [State.close, settleDraw_of_still s h.2, runAttempts, h.1]

theorem runAttempts_quiet (n : Nat) (h : s.psc.drawMoved = false) : (runAttempts n s).Quiet := by
  induction n generalizing s with
  | zero => simp [runAttempts, State.Quiet, State.asleep, h]
  | succ n ih =>
    unfold runAttempts
    split
    · exact ih _ (by simp)
    · rename_i hd
      exact ⟨by simpa using hd, h⟩

/-- An event leaves no trigger and no change of D over. -/
theorem close_quiet : s.close.Quiet := by
  have := runAttempts_quiet s.settleDraw 4 (by simp)
  simpa [State.close, State.Quiet] using this

theorem close_kp : s.close.kp = s.pump.kp := by
  simp [State.close, State.pump, runAttempts_kp]

theorem close_cp : s.close.cp = s.pump.cp := by
  simp [State.close, State.pump, runAttempts_cp, runAttempts_cdir]

/-- The end of an event changes only what start attempts and changes of D bring, and supplies the transmitters. -/
theorem close_sameButHeating : SameButHeating s s.close := by
  refine ⟨?_, ?_, ?_, ?_, ?_, ?_, ?_, ?_, ?_, ?_, ?_, ?_, ?_⟩ <;> simp [close_kp, close_cp]

/-! ## The notes through a failed attempt and an entry to ISOLATED (R90, R97) -/

/-- What `standing` keeps: the notes, NOTE_LOST, and the frame under attempt. -/
theorem standing_parts (l : Lif) :
    l.standing.queue = l.notes ∧ l.standing.noteLost = l.noteLost
      ∧ l.standing.buffer.map (fun b => (b.frame, b.age, b.bytes)) = l.buffer.map fun b => (b.frame, b.age, b.bytes) := by
  refine ⟨rfl, rfl, ?_⟩
  show (l.buffer.map _).map _ = _
  cases l.buffer <;> rfl

/-- The entry to ISOLATED keeps the Line Interface but for what R97 names and its CLAIM and DRAW. -/
theorem enterIsolated_close_standing :
    s.enterIsolated.close.lif.standing
      = { s.lif with failed := 0, rejoin := false, silenceAt := none, joiningAt := none,
                     mode := some .isolated }.standing := by
  simp [State.enterIsolated, State.changeMode, LineMode.apart, State.limitDraw, State.entryLimit]

/-- The frame of a failed attempt takes its place among the notes when it is one. -/
theorem returnFrame_notes (l : Lif) (b : Buffered) (h : l.buffer = some b) :
    l.returnFrame.notes = if b.doomed = true ∨ b.frame.kind < 2 then l.notes
                          else insertQueued { frame := b.frame, age := b.age } l.notes := by
  unfold Lif.returnFrame
  rw [h]
  by_cases hk : b.frame.kind < 2
  · have hf : b.frame.isNote = false := decide_eq_false (Nat.not_le.mpr hk)
    rw [if_pos (Or.inr hk)]
    dsimp only
    split
    · rfl
    · simp [Lif.notes, notes_insertQueued, hf]
  · have hf : b.frame.isNote = true := decide_eq_true (Nat.not_lt.mp hk)
    have hdraw : b.frame ≠ .draw := fun he => hk (by rw [he]; decide)
    by_cases hd : b.doomed = true
    · simp [hd, Lif.notes]
    · simp [hd, hdraw, hk, Lif.notes, notes_insertQueued, hf]

end Sys2Proof.Machine
end

