-- ==== Sys2Proof/Laws/Ports.lean ====
section
/-! SUPPORT. What taking a record does, by the part's phase and the port: the spec lemmas of `takeKitchen` and
`takeCounter`. -/

namespace Sys2Proof.Machine

variable (s : State)

/-- A state without a trigger or a change of D stays so when other blocks change. -/
theorem quiet_of_psc {s t : State} (h : s.Quiet) (ht : t.psc = s.psc) : t.Quiet := by
  unfold State.Quiet
  rw [ht]
  exact h

/-- The end of an event without triggers, written out. -/
theorem close_eq_of_quiet (h : s.Quiet) :
    s.close = { s with kp := s.kp.pump, cp := s.cp.pump s.cdir.lookup.isSome } := by
  rw [close_of_quiet s h]
  rfl

/-! ## The Kitchen Port -/

theorem takeKitchen_taken (k : Nat) (f : State → State) (h : s.takesKitchen) :
    s.takeKitchen k f = (f s.clearKitchenPartial).close := by
  obtain ⟨hr, hb⟩ := h
  have hp : s.sul.phase = .running := by simpa [State.running] using hr
  have hb' : s.clearKitchenPartial.kp.busy = false := hb
  simp [State.takeKitchen, hp, hb']

theorem takeKitchen_busy (k : Nat) (f : State → State) (hr : s.running = true) (hb : s.kp.busy = true) :
    s.takeKitchen k f = (s.clearKitchenPartial.busyKitchen k).close := by
  have hp : s.sul.phase = .running := by simpa [State.running] using hr
  have hb' : s.clearKitchenPartial.kp.busy = true := hb
  simp [State.takeKitchen, hp, hb']

theorem takeKitchen_coldStart (k : Nat) (f : State → State) (hp : s.sul.phase = .coldStart) :
    s.takeKitchen k f = s.clearKitchenPartial := by
  simp [State.takeKitchen, hp]

theorem takeKitchen_configFault (k : Nat) (f : State → State) (c : FaultCause) (hp : s.sul.phase = .configFault c) :
    s.takeKitchen k f = s.kitchenAnswered (.outcome .fault none (some c.code)) := by
  simp [State.takeKitchen, hp]
  rfl

/-- A reply given in an event without triggers is the whole of the event. -/
theorem close_replyKitchen (t : State) (r : KReply) (h : t.Quiet) :
    (t.clearKitchenPartial.replyKitchen r).close = t.kitchenAnswered r := by
  have hq : (t.clearKitchenPartial.replyKitchen r).Quiet := quiet_of_psc h rfl
  rw [close_eq_of_quiet _ hq]
  rfl

/-- The same where the record was cleared before the reply's own change `u` was made. -/
theorem close_reply_of_eq (t u : State) (r : KReply) (h : u.Quiet) (ht : t = u.clearKitchenPartial) :
    (t.replyKitchen r).close = u.kitchenAnswered r := by
  rw [ht, close_replyKitchen u r h]

theorem close_busyKitchen (k : Nat) (h : s.Quiet) :
    (s.clearKitchenPartial.busyKitchen k).close = { s with
      kp := KitchenPort.pump { s.kp with receiver := .empty, busyReply := some (s.kp.busyReply.getD k) },
      cp := s.cp.pump s.cdir.lookup.isSome } := by
  have hq : (s.clearKitchenPartial.busyKitchen k).Quiet := quiet_of_psc h rfl
  have hk : (s.clearKitchenPartial.busyKitchen k).kp
      = { s.kp with receiver := .empty, busyReply := some (s.kp.busyReply.getD k) } := by
    cases hb : s.kp.busyReply <;> simp [State.busyKitchen, State.clearKitchenPartial, State.modKp, hb]
  rw [close_eq_of_quiet _ hq, hk]
  rfl

/-! ## The Counter Port -/

theorem takeCounter_taken (k : Nat) (busy : State → Bool) (f : State → State) (hr : s.running = true)
    (hb : busy s.clearCounterPartial = false) : s.takeCounter k busy f = (f s.clearCounterPartial).close := by
  have hp : s.sul.phase = .running := by simpa [State.running] using hr
  simp [State.takeCounter, hp, hb]

theorem takeCounter_busy (k : Nat) (busy : State → Bool) (f : State → State) (hr : s.running = true)
    (hb : busy s.clearCounterPartial = true) : s.takeCounter k busy f = (s.clearCounterPartial.busyCounter k).close := by
  have hp : s.sul.phase = .running := by simpa [State.running] using hr
  simp [State.takeCounter, hp, hb]

theorem takeCounter_coldStart (k : Nat) (busy : State → Bool) (f : State → State) (hp : s.sul.phase = .coldStart) :
    s.takeCounter k busy f = s.clearCounterPartial := by
  simp [State.takeCounter, hp]

theorem takeCounter_configFault (k : Nat) (busy : State → Bool) (f : State → State) (c : FaultCause)
    (hp : s.sul.phase = .configFault c) :
    s.takeCounter k busy f = s.counterAnswered .fault (some c.code) := by
  simp [State.takeCounter, hp]
  rfl

theorem close_replyCounter (t : State) (o : COutcome) (arg : Option Nat) (h : t.Quiet) :
    (t.clearCounterPartial.replyCounter o arg).close = t.counterAnswered o arg := by
  have hq : (t.clearCounterPartial.replyCounter o arg).Quiet := quiet_of_psc h rfl
  rw [close_eq_of_quiet _ hq]
  rfl

theorem close_busyCounter (k : Nat) (h : s.Quiet) :
    (s.clearCounterPartial.busyCounter k).close = { s with
      kp := s.kp.pump,
      cp := CounterPort.pump s.cdir.lookup.isSome
        { s.cp with receiver := .empty, busyReply := some (s.cp.busyReply.getD k) } } := by
  have hq : (s.clearCounterPartial.busyCounter k).Quiet := quiet_of_psc h rfl
  have hk : (s.clearCounterPartial.busyCounter k).cp
      = { s.cp with receiver := .empty, busyReply := some (s.cp.busyReply.getD k) } := by
    cases hb : s.cp.busyReply <;> simp [State.busyCounter, State.clearCounterPartial, State.modCp, hb]
  rw [close_eq_of_quiet _ hq, hk]
  rfl

end Sys2Proof.Machine
end

