-- ==== Sys2Proof/Laws/Arrival.lean ====
section
/-! SUPPORT. What a byte on a panel's line does: the receiver case by case, the law it keeps, and which step takes a
byte (R144, R158, R175). -/

namespace Sys2Proof.Machine

variable (s : State)

/-! ## The receiver -/

section Receiver

variable (bad : Instr) (row : Nat → Nat → List Byte → Instr) (now : Time) (b : Byte) (r : Receiver)

theorem take_first (hg : r.gathered = []) (h1 : 3 ≤ b.toNat) (h2 : b.toNat ≤ 16) :
    r.take bad row now b = ({ gathered := [b], gapEnd := some (now + 50) }, none) := by
  simp [Receiver.take, hg, h1, h2, Config.gapTime]

theorem take_alone (hg : r.gathered = []) (h : b.toNat < 3 ∨ 16 < b.toNat) :
    r.take bad row now b = (.empty, some bad) := by
  have : ¬(3 ≤ b.toNat ∧ b.toNat ≤ 16) := by omega
  simp [Receiver.take, hg, this]

theorem take_more (len : Byte) (bs : List Byte) (hg : r.gathered = len :: bs) (h : bs.length + 2 < len.toNat) :
    r.take bad row now b = ({ gathered := len :: bs ++ [b], gapEnd := some (now + 50) }, none) := by
  have : (len :: (bs ++ [b])).length < len.toNat := by simpa using h
  simp only [Receiver.take, hg, if_pos this, Config.gapTime, List.cons_append]

theorem take_last (len : Byte) (bs : List Byte) (hg : r.gathered = len :: bs) (h : len.toNat ≤ bs.length + 2) :
    r.take bad row now b = (.empty, some (recordRow bad row (len :: bs ++ [b]))) := by
  have : ¬(len :: (bs ++ [b])).length < len.toNat := by simpa using h
  simp only [Receiver.take, hg, if_neg this, List.cons_append]

/-- A receiver holds fewer bytes than the record begun has, whose length is 3 to 16, and a gap end exactly with them. -/
def Receiver.Law (r : Receiver) : Prop :=
  (r.gathered = [] ↔ r.gapEnd = none)
    ∧ ∀ len bs, r.gathered = len :: bs → 3 ≤ len.toNat ∧ len.toNat ≤ 16 ∧ bs.length + 1 < len.toNat

theorem law_empty : Receiver.empty.Law := by
  refine ⟨by simp [Receiver.empty], ?_⟩
  intro len bs h
  simp [Receiver.empty] at h

/-- A byte keeps the receiver's law. -/
theorem law_take (h : r.Law) : (r.take bad row now b).1.Law := by
  rcases hg : r.gathered with _ | ⟨len, bs⟩
  · by_cases h1 : 3 ≤ b.toNat ∧ b.toNat ≤ 16
    · rw [take_first bad row now b r hg h1.1 h1.2]
      refine ⟨by simp, ?_⟩
      intro len bs he
      simp only [List.cons.injEq] at he
      obtain ⟨rfl, rfl⟩ := he
      exact ⟨h1.1, h1.2, by simp; omega⟩
    · rw [take_alone bad row now b r hg (by omega)]
      exact law_empty
  · obtain ⟨h3, h16, hl⟩ := h.2 len bs hg
    by_cases h1 : bs.length + 2 < len.toNat
    · rw [take_more bad row now b r len bs hg h1]
      refine ⟨by simp, ?_⟩
      intro l cs he
      simp only [List.cons_append, List.cons.injEq] at he
      obtain ⟨rfl, rfl⟩ := he
      exact ⟨h3, h16, by simp; omega⟩
    · rw [take_last bad row now b r len bs hg (by omega)]
      exact law_empty

end Receiver

/-! ## Which step takes a byte -/

theorem arrived_none_of_later (l : List RxByte) (h : ∀ x xs, l = x :: xs → s.now < x.arrives) : arrived s.now l = none := by
  cases l with
  | nil => rfl
  | cons x xs => exact if_neg (Nat.not_le.mpr (h x xs rfl))

theorem nextByte_kitchen {x : RxByte} {xs : List RxByte} (h : s.rx.kitchen = x :: xs) (ha : x.arrives ≤ s.now) :
    s.nextByte = some (.kitchen, x.byte) := by
  simp [State.nextByte, h, arrived, ha]

theorem nextByte_counter {x : RxByte} {xs : List RxByte} (h0 : arrived s.now s.rx.kitchen = none)
    (h : s.rx.counter = x :: xs) (ha : x.arrives ≤ s.now) : s.nextByte = some (.counter, x.byte) := by
  unfold State.nextByte
  rw [h0]
  simp [h, arrived, ha]

theorem nextByte_none (h0 : arrived s.now s.rx.kitchen = none) (h1 : arrived s.now s.rx.counter = none) :
    s.nextByte = none := by
  unfold State.nextByte
  rw [h0, h1]
  rfl

theorem step_byte (hp : s.pending = []) {sd : Side} {b : Byte} (h : s.nextByte = some (sd, b)) :
    step s = s.takeByte sd b := by
  simp [step, hp, h]

theorem step_due (hp : s.pending = []) (h : s.nextByte = none) {e : Instr} (he : s.nextDue = some e) :
    step s = exec e s := by
  simp [step, hp, h, he]

theorem step_tick (hp : s.pending = []) (h : s.nextByte = none) (he : s.nextDue = none) : step s = .next s.tick := by
  simp [step, hp, h, he]

/-- A byte at the Kitchen Port: the receiver takes it and the row it completes runs. -/
theorem takeByte_kitchen (b : Byte) (hp : s.sul.phase ≠ .resetAsserted) :
    s.takeByte .kitchen b =
      State.runRow (s.kp.receiver.take .kitchenBadRecord kitchenRow s.now b).2
        { s with rx := { s.rx with kitchen := s.rx.kitchen.tail },
                 kp := { s.kp with receiver := (s.kp.receiver.take .kitchenBadRecord kitchenRow s.now b).1 } } := by
  simp only [State.takeByte, if_neg hp]; rfl

/-- A byte at the Counter Port. -/
theorem takeByte_counter (b : Byte) (hp : s.sul.phase ≠ .resetAsserted) :
    s.takeByte .counter b =
      State.runRow (s.cp.receiver.take .counterBadRecord counterRow s.now b).2
        { s with rx := { s.rx with counter := s.rx.counter.tail },
                 cp := { s.cp with receiver := (s.cp.receiver.take .counterBadRecord counterRow s.now b).1 } } := by
  simp only [State.takeByte, if_neg hp]; rfl

end Sys2Proof.Machine
end

