-- ==== Sys2Proof/Laws/Effects.lean ====
section
/-! SUPPORT. What ending a pulse, condemning, re-checking a hold and ending a door hold do, each as one equation into the
words of Safety.lean, so that a proof cites the equation and does not unfold the operation. -/

namespace Sys2Proof.Machine

/-! ## Updates of one record -/

theorem modify_modify {α : Type} (l : List α) (c : Nat) (f g : α → α) : (l.modify c f).modify c g = l.modify c (g ∘ f) := by
  apply List.ext_getElem?
  intro i
  simp only [List.getElem?_modify]
  cases l[i]? <;> simp
  split <;> rfl

/-- The updated compartment record, for a compartment that is fitted. -/
theorem comp_modComp_self (s : State) (c : Nat) (f : CompRec → CompRec) (h : c < s.count) :
    (s.modComp c f).comp c = f (s.comp c) := by
  have h' : c < s.comps.length := h
  simp [State.comp, State.modComp, h', List.getD_eq_getElem?_getD]

/-- A compartment that is not FREE is fitted. -/
theorem lt_count_of_not_free (s : State) (c : Nat) (h : (s.comp c).state ≠ .free) : c < s.count := by
  by_contra hn
  apply h
  have hle : s.comps.length ≤ c := Nat.le_of_not_lt hn
  simp [State.comp, List.getD_eq_getElem?_getD, hle, CompRec.free]

/-! ## Channels and pulses (R54, R55) -/

theorem connected_of_on (s : State) {c ch : Nat} (h : s.psc.channels[ch]? = some (Channel.on c)) :
    s.connected c = true := by
  simp only [State.connected, List.contains_iff_mem]
  exact List.mem_of_getElem? h

/-- R46: the channel of `c` rests, and a change of D and a start attempt are handed on. -/
theorem release_eq (s : State) (c : Nat) (h : s.connected c = true) :
    s.release c = { s with psc := { s.psc with
      channels := releasedChannels c s.now s.psc.channels, attemptDue := true, drawMoved := true } } := by
  unfold State.release; rw [if_pos h]; rfl

theorem setEst_of_attemptDue (s : State) (c : Nat) (e : Option Estimate) (h : s.psc.attemptDue = true) :
    s.setEst c e = s.modComp c fun r => { r with est := e } := by
  unfold State.setEst; dsimp only
  split
  · rfl
  · obtain ⟨n, sul, comps, doors, rs, inp, rd, ssu, psc, dsu, peers, lif, cdir, kp, cp, pend⟩ := s
    obtain ⟨a, b, cc, d, e'⟩ := psc
    simp only at h; subst h; rfl

/-- The channel of `c` rests and the run's on-time is credited (R33, R46). -/
theorem creditPoint_release (s : State) (c : Nat) (e : Estimate) (h : s.connected c = true)
    (he : (s.comp c).est = some e) :
    (s.release c).creditPoint c = { s with
      comps := s.comps.modify c fun r =>
        { r with est := some ((e.credit (s.mealClass (s.comp c))).mark (s.mealClass (s.comp c))) },
      psc := { s.psc with
        channels := releasedChannels c s.now s.psc.channels, attemptDue := true, drawMoved := true } } := by
  have h1 : (s.release c).comp c = s.comp c := by rw [release_eq s c h]; rfl
  have h2 : (s.release c).psc.attemptDue = true := by rw [release_eq s c h]
  unfold State.creditPoint
  rw [h1, he]
  refine (setEst_of_attemptDue _ c _ h2).trans ?_
  rw [release_eq s c h]; rfl

/-- R55: the end of a pulse, in the words of Safety.lean. -/
theorem endPulse_eq (s : State) (c ch : Nat) (p : Pulse) (e : Estimate) (h : s.Heated c ch p e) :
    s.endPulse c p
      = s.runEnded c p.run (some ((e.credit (s.mealClass (s.comp c))).mark (s.mealClass (s.comp c)))) none := by
  obtain ⟨hc, hp, hs, he, hch⟩ := h
  unfold State.endPulse
  rw [creditPoint_release s c e (connected_of_on s hch) he]
  unfold State.runEnded State.setPulse State.modReading State.modComp
  simp only [modify_modify]
  unfold ReadingRec.runEnd
  simp only [Option.isSome_iff_ne_none]
  rfl

theorem runningPulse_eq (s : State) {c ch : Nat} {p : Pulse} (h : (s.comp c).pulse = some p)
    (hs : p.state = .running ch) : s.runningPulse c = some p := by
  simp [State.runningPulse, h, Pulse.isRunning, hs]

/-! ## Condemnation, the re-check, the end of a door hold (R13, R16, R24, R122) -/

theorem meal_of_table {s t : State} (h : t.comps.map CompRec.table = s.comps.map CompRec.table) (c : Nat) :
    (t.comp c).meal = (s.comp c).meal := by
  have h1 := comp_table_of_map h c
  exact congrArg (fun r => r.meal) h1

/-- Condemning, in the words of Safety.lean. -/
theorem condemn_eq (s : State) (c : Nat) (r : CondemnReason) : s.condemn c r = s.condemnedFor c r := by
  unfold State.condemn State.condemnedFor State.queueGone
  have hm : (((s.dropHold c).modComp c fun q => { q with state := .condemned, condemn := some r, prior := none }).comp c).meal
      = (s.comp c).meal := by
    rw [comp_modComp]
    have h0 := meal_of_table (dropHold_table s c) c
    split
    · exact h0
    · exact h0
  rw [hm]
  cases (s.comp c).meal <;> rfl

/-- A condemned compartment is CONDEMNED. -/
theorem condemnedFor_state (s : State) (c : Nat) (r : CondemnReason) (h : c < s.count) :
    ((s.condemnedFor c r).comp c).state = .condemned := by
  have hl : (s.dropHold c).comps.length = s.comps.length := by
    have := congrArg List.length (dropHold_table s c)
    simpa only [List.length_map] using this
  have hc : c < (s.dropHold c).count := by
    show c < (s.dropHold c).comps.length
    rw [hl]; exact h
  rw [← condemn_eq]
  unfold State.condemn State.queueGone
  have hk := comp_modComp_self (s.dropHold c) c
    (fun q => { q with state := .condemned, condemn := some r, prior := none }) hc
  have hs : ((((s.dropHold c).modComp c fun q =>
      { q with state := .condemned, condemn := some r, prior := none })).comp c).state = .condemned := by rw [hk]
  cases ((((s.dropHold c).modComp c fun q =>
      { q with state := .condemned, condemn := some r, prior := none })).comp c).meal <;>
    simpa only [State.comp, notifyKitchen_comps, queueNote_comps] using hs

/-- The verdict of the re-check is the one Safety.lean reads off the record. -/
theorem recheckVerdict_eq (s : State) (c : Nat) (v : Option CondemnReason) (h : s.Verdict c v) :
    s.recheckVerdict c = v := by
  obtain ⟨m, h0, e, hm, hh, he, rfl⟩ := h
  unfold State.recheckVerdict holdAge State.mealClass
  simp [hm, hh, he]

/-- A hold that ends keeps the latch and drops the holder. -/
theorem holdOver_eq (s : State) (c : Nat) (sd : Side) :
    (s.modDoor c fun d => { (d.modSide sd SideRec.latch) with holder := none }) = s.holdOver c sd := by
  cases sd <;> rfl

/-- The Compartment Table at the end of a door hold does what R7, R8, R11, R13 and R17 say (`HoldOutcome`). -/
theorem tableHoldEnd_eq (s : State) (c k v) (h : HoldOutcome s c k v) : s.tableHoldEnd c k = v := by
  unfold HoldOutcome at h
  unfold State.tableHoldEnd
  cases hs : (s.comp c).state <;> simp only [hs] at h ⊢
  · -- loading
    cases k with
    | settled p =>
      cases p with
      | true =>
        simp only at h
        obtain ⟨m, hm, ⟨hf, rfl⟩ | ⟨hf, rfl⟩⟩ := h
        · simp only [State.loadingEnd, State.holdStarts, hm, hf, if_false]
          unfold State.modComp; simp only [modify_modify]; rfl
        · simp only [State.loadingEnd, State.holdStarts, hf, if_true, condemn_eq]; rfl
      | false => simp only at h; subst h; rfl
    | lapse => simp only at h; subst h; rfl
    | released => simp only at h; subst h; rfl
  · -- collecting
    have rc : ∀ x, s.Verdict c x → s.collectionEnd c k = (match x with
        | some reason => s.condemnedFor c reason
        | none => { s with comps := s.comps.modify c (fun q => { q with state := .holding, prior := none, wrongCount := 0 }) }) ∨ k = .settled false := by
      intro x hx
      by_cases hk : k = .settled false
      · exact Or.inr hk
      left
      have : s.collectionEnd c k = (let s1 := s.recheck c
          if (s1.comp c).state = .holding then s1.modComp c fun r => { r with wrongCount := 0 } else s1) := by
        unfold State.collectionEnd
        cases k with
        | settled p => cases p with
          | true => rfl
          | false => exact absurd rfl hk
        | lapse => rfl
        | released => rfl
      rw [this]; unfold State.recheck; rw [recheckVerdict_eq s c x hx]
      have hc := lt_count_of_not_free s c (by simp [hs])
      cases x with
      | none =>
        dsimp only
        rw [if_pos (by rw [comp_modComp_self _ _ _ hc])]
        unfold State.modComp; simp only [modify_modify]; rfl
      | some r =>
        dsimp only
        rw [if_neg, condemn_eq]
        rw [condemn_eq, condemnedFor_state s c r hc]
        simp
    cases k with
    | settled p =>
      cases p with
      | true =>
        simp only at h
        obtain ⟨x, hx, rfl⟩ := h
        rcases rc x hx with h1 | h1
        · exact h1
        · cases h1
      | false =>
        simp only at h
        obtain ⟨m, hm, rfl⟩ := h
        simp only [State.collectionEnd, State.queueGone, hm]; rfl
    | lapse =>
        simp only at h
        obtain ⟨x, hx, rfl⟩ := h
        rcases rc x hx with h1 | h1
        · exact h1
        · cases h1
    | released =>
        simp only at h
        obtain ⟨x, hx, rfl⟩ := h
        rcases rc x hx with h1 | h1
        · exact h1
        · cases h1
  · -- attending
    have hcond : ∀ x, s.Verdict c x → s.recheck c = (match x with
        | some reason => s.condemnedFor c reason
        | none => { s with comps := s.comps.modify c (fun q => { q with state := .holding, prior := none, wrongCount := id q.wrongCount }) }) := by
      intro x hx; unfold State.recheck; rw [recheckVerdict_eq s c x hx]
      cases x with
      | none => rfl
      | some r => simp only [condemn_eq]
    cases k with
    | settled p =>
      cases p with
      | true =>
        simp only at h
        unfold State.attendanceEnd
        rcases h with ⟨hp, x, hx, rfl⟩ | ⟨hp, rfl⟩ | ⟨hp, rfl⟩
        · simp only [hp]; exact hcond x hx
        · simp only [hp]; rfl
        · simp only [hp]; rfl
      | false =>
        simp only at h
        obtain ⟨w, ⟨hp, m, hm, rfl⟩ | ⟨hp, rfl⟩, rfl⟩ := h
        · simp only [State.attendanceEnd, hp, if_true, State.queueGone, hm]; rfl
        · simp only [State.attendanceEnd, hp, if_false]; rfl
    | lapse =>
        simp only at h
        unfold State.attendanceEnd
        rcases h with ⟨hp, x, hx, rfl⟩ | ⟨hp, rfl⟩ | ⟨hp, rfl⟩
        · simp only [hp]; exact hcond x hx
        · simp only [hp]; rfl
        · simp only [hp]; rfl
    | released =>
        simp only at h
        unfold State.attendanceEnd
        rcases h with ⟨hp, x, hx, rfl⟩ | ⟨hp, rfl⟩ | ⟨hp, rfl⟩
        · simp only [hp]; exact hcond x hx
        · simp only [hp]; rfl
        · simp only [hp]; rfl
  · cases k <;> simp only at h <;> subst h <;> rfl

end Sys2Proof.Machine
end

