-- ==== Sys2Proof/Laws/Choice.lean ====
section
/-! SUPPORT. Which compartment the Pulse Scheduler takes by its margin (R58, R61), and what a reduction order does, one
suspension at a time (R58). -/

namespace Sys2Proof.Machine

variable (s : State)

/-! ## The largest margin -/

/-- Two compartments cannot both be the one with the largest margin. -/
theorem LargestOf.unique {s : State} {p : Nat → Prop} {v w : Nat} (hv : s.LargestOf p v) (hw : s.LargestOf p w) :
    v = w := by
  by_contra hne
  have h1 := hv.2 w hw.1 (fun h => hne h.symm)
  have h2 := hw.2 v hv.1 hne
  omega

theorem foldl_largerMargin (l : List Nat) (h : l.Pairwise (· < ·)) :
    (l.foldl s.largerMargin none = none ∧ l = [])
      ∨ ∃ v, l.foldl s.largerMargin none = some v ∧ s.LargestOf (fun u => u ∈ l) v := by
  induction l using List.reverseRecOn with
  | nil => exact .inl ⟨rfl, rfl⟩
  | append_singleton l c ih =>
    right
    obtain ⟨hl, -, hc⟩ := List.pairwise_append.mp h
    rw [List.foldl_append]
    rcases ih hl with ⟨h0, rfl⟩ | ⟨v, h0, hv, hmax⟩
    · exact ⟨c, by simp [h0, State.largerMargin], by simp, fun u hu hne => absurd (by simpa using hu) hne⟩
    · have hlt : ∀ u ∈ l, u < c := fun u hu => hc u hu c (by simp)
      by_cases hm : s.margin v ≤ s.margin c
      · refine ⟨c, by simp [h0, State.largerMargin, hm], by simp, ?_⟩
        intro u hu hne
        have hu : u ∈ l := by simpa [hne] using hu
        have := hlt u hu
        by_cases huv : u = v
        · subst huv; omega
        · have := hmax u hu huv; omega
      · refine ⟨v, by simp [h0, State.largerMargin, hm], by simp [hv], ?_⟩
        intro u hu hne
        rcases (by simpa using hu : u ∈ l ∨ u = c) with hu | rfl
        · exact hmax u hu hne
        · left; omega

/-- `largest` takes the largest margin, and among equal margins the highest index. -/
theorem largest_eq_some_iff (ok : Nat → Bool) (v : Nat) :
    s.largest ok = some v ↔ s.LargestOf (fun c => c < s.count ∧ ok c = true) v := by
  have hmem : ∀ u, u ∈ (List.range s.count).filter ok ↔ u < s.count ∧ ok u = true := by simp
  have hp : ((List.range s.count).filter ok).Pairwise (· < ·) := List.pairwise_lt_range.filter _
  have hf := foldl_largerMargin s _ hp
  simp only [hmem] at hf
  unfold State.largest
  constructor
  · intro h
    rcases hf with ⟨h0, -⟩ | ⟨w, h0, hw⟩
    · rw [h] at h0; cases h0
    · rw [h] at h0; injection h0 with h0; rwa [h0]
  · intro h
    rcases hf with ⟨-, h0⟩ | ⟨w, h0, hw⟩
    · have := (hmem v).mpr h.1
      rw [h0] at this; cases this
    · rw [h0, LargestOf.unique h hw]

/-- `largest` takes none exactly where none qualifies. -/
theorem largest_eq_none_iff (ok : Nat → Bool) : s.largest ok = none ↔ ∀ c, c < s.count → ok c = false := by
  have hp : ((List.range s.count).filter ok).Pairwise (· < ·) := List.pairwise_lt_range.filter _
  unfold State.largest
  rcases foldl_largerMargin s _ hp with ⟨h0, hl⟩ | ⟨w, h0, hw, -⟩
  · simp only [h0, true_iff]
    intro c hc
    by_contra h
    have : c ∈ (List.range s.count).filter ok := by simpa [hc] using h
    rw [hl] at this; cases this
  · have hw : w < s.count ∧ ok w = true := by simpa using hw
    simp only [h0, reduceCtorEq, false_iff]
    intro h
    have := h w hw.1
    rw [hw.2] at this; cases this

/-! ## The due queue (R47, R48) -/

theorem place_congr {s t : State} (hc : t.comps = s.comps) : t.place = s.place := by
  have hm : t.before = s.before := by
    unfold State.before State.margin State.comp
    rw [hc]
  funext c l
  induction l with
  | nil => rfl
  | cons d ds ih =>
    unfold State.place
    rw [hm, ih]

/-- The due queue is read off the compartment records. -/
theorem dueQueue_congr {s t : State} (hc : t.comps = s.comps) : t.dueQueue = s.dueQueue := by
  unfold State.dueQueue
  rw [place_congr hc]
  simp only [State.count, State.due, State.comp, hc]

/-- The first eligible entry is read off the compartments, the doors and the channels. -/
theorem firstEligible_congr {s t : State} (hc : t.comps = s.comps) (hd : t.doors = s.doors)
    (hp : t.psc.channels = s.psc.channels) : t.firstEligible = s.firstEligible := by
  have he : t.eligible = s.eligible := by
    unfold State.eligible State.comp State.door State.connected
    rw [hc, hd, hp]
  unfold State.firstEligible
  rw [dueQueue_congr hc, he]

/-! ## Preemption (R61) -/

theorem isVictim_iff (c v : Nat) : (v < s.count ∧ s.isVictim c v = true) ↔ s.Victim c v := by
  unfold State.isVictim State.runningPulse State.Victim
  rcases h : (s.comp v).pulse with _ | p
  · simp
  · rcases hp : p.state with ch | _
    · have hr : p.isRunning = true := by simp [Pulse.isRunning, hp]
      have hd : decide (Config.minOnTime ≤ p.run) = true ↔ 4000 ≤ p.run := decide_eq_true_iff
      simp only [Option.filter, hr, if_true, Bool.and_eq_true, hd, decide_eq_true_eq, Option.some.injEq]
      constructor
      · rintro ⟨h1, h2, h3⟩
        exact ⟨h1, h3, p, ch, rfl, hp, h2⟩
      · rintro ⟨h1, h3, q, _, rfl, -, h2⟩
        exact ⟨h1, h2, h3⟩
    · have hr : p.isRunning = false := by simp [Pulse.isRunning, hp]
      simp [Option.filter, hr, hp]

/-- The pulse that `preempt` suspends. -/
theorem preempt_of_preempts {c v : Nat} (h : s.Preempts c v) : s.preempt c = s.suspend v := by
  obtain ⟨-, hr, hv⟩ := h
  have hany : s.psc.channels.any Channel.isRest = false := by
    rw [List.any_eq_false]
    intro x hx
    cases x with
    | rest t => exact absurd hx (hr t)
    | _ => simp [Channel.isRest]
  have hl : s.largest (s.isVictim c) = some v := by
    rw [largest_eq_some_iff]
    simpa only [isVictim_iff] using hv
  simp [State.preempt, hany, hl]

/-! ## Reduction orders (R58) -/

theorem runs_iff (v : Nat) : (v < s.count ∧ (s.runningPulse v).isSome = true) ↔ s.Runs v := by
  unfold State.Runs State.runningPulse
  rcases h : (s.comp v).pulse with _ | p
  · simp
  · rcases hp : p.state with ch | _ <;> simp [Option.filter, Pulse.isRunning, hp]

theorem setEst_channels (c : Nat) (e : Option Estimate) : (s.setEst c e).psc.channels = s.psc.channels := by
  unfold State.setEst; dsimp only; split <;> rfl

theorem creditPoint_channels (c : Nat) : (s.creditPoint c).psc.channels = s.psc.channels := by
  unfold State.creditPoint; split
  · rfl
  · exact setEst_channels _ _ _

theorem release_channels (c : Nat) : (s.release c).psc.channels = releasedChannels c s.now s.psc.channels := by
  by_cases h : s.connected c = true
  · rw [release_eq s c h]
  · unfold State.release
    rw [if_neg h]
    unfold releasedChannels
    symm
    conv_rhs => rw [← List.map_id s.psc.channels]
    refine List.map_congr_left fun x hx => if_neg ?_
    rintro rfl
    exact h (by simpa [State.connected, List.contains_iff_mem] using hx)

/-- A suspension releases the channel of its pulse. -/
theorem suspend_channels (c : Nat) (h : (s.runningPulse c).isSome = true) :
    (s.suspend c).psc.channels = releasedChannels c s.now s.psc.channels := by
  obtain ⟨p, hp⟩ := Option.isSome_iff_exists.mp h
  unfold State.suspend State.suspendPulse State.endPulse
  rw [hp]
  dsimp only
  split <;> exact (creditPoint_channels _ _).trans (release_channels _ _)

theorem countP_released (c : Nat) (now : Time) (l : List Channel) :
    l.countP Channel.isOn = (releasedChannels c now l).countP Channel.isOn + l.count (.on c) := by
  unfold releasedChannels
  induction l with
  | nil => rfl
  | cons x xs ih =>
    by_cases hx : x = .on c
    · subst hx
      simp only [List.map_cons, if_pos, List.countP_cons, List.count_cons, Channel.isOn, beq_self_eq_true, ih]
      simp
      omega
    · have hb : (x == Channel.on c) = false := by simpa using hx
      simp only [List.map_cons, if_neg hx, List.countP_cons, List.count_cons, hb, ih]
      simp
      omega

theorem count_eq_one {α : Type} [BEq α] [LawfulBEq α] (l : List α) (a : α) (i : Nat) (h : l[i]? = some a)
    (hu : ∀ j, l[j]? = some a → j = i) : l.count a = 1 := by
  induction l generalizing i with
  | nil => simp at h
  | cons x xs ih =>
    rw [List.count_cons]
    cases i with
    | zero =>
      have hx : x = a := by simpa using h
      have h0 : xs.count a = 0 := by
        rw [List.count_eq_zero]
        intro hm
        obtain ⟨j, hj⟩ := List.mem_iff_getElem?.mp hm
        have := hu (j + 1) (by simpa using hj)
        omega
      simp [h0, hx]
    | succ i =>
      have hx : x ≠ a := by
        rintro rfl
        have := hu 0 (by simp)
        omega
      have := ih i (by simpa using h) (fun j hj => by have := hu (j + 1) (by simpa using hj); omega)
      simp [this, hx]

/-- A pulse's suspension leaves one ON channel less. -/
theorem suspend_countP (c : Nat) (hl : s.HeaterLaw) (h : s.Runs c) :
    s.psc.channels.countP Channel.isOn = (s.suspend c).psc.channels.countP Channel.isOn + 1 := by
  have hr := (runs_iff s c).mpr h
  obtain ⟨-, p, ch, hp, hs⟩ := h
  have h1 : s.psc.channels[ch]? = some (.on c) := hl.2.1 ch c (by simp [hp, hs])
  have h2 : ∀ j, s.psc.channels[j]? = some (.on c) → j = ch := by
    intro j hj
    have := (hl.1 j c hj).2.2.2
    simp [hp, hs] at this
    exact this.symm
  rw [suspend_channels s c hr.2, countP_released c s.now, count_eq_one _ _ _ h1 h2]

/-- R58: while D stands above the limit, the RUNNING pulse of largest margin is suspended and the order goes on. -/
theorem reduceTo_above (limit v : Nat) (hl : s.HeaterLaw) (hd : limit < s.draw) (hv : s.LargestOf s.Runs v) :
    s.reduceTo limit = (s.suspend v).reduceTo limit := by
  have hlarge : s.largest (fun c => (s.runningPulse c).isSome) = some v := by
    rw [largest_eq_some_iff]
    simpa only [runs_iff] using hv
  unfold State.reduceTo
  rw [suspend_countP s v hl hv.1]
  conv_lhs => unfold reduce
  rw [if_neg (by omega), hlarge]

theorem reduceTo_within (limit : Nat) (hd : s.draw ≤ limit) : s.reduceTo limit = s := by
  unfold State.reduceTo
  cases s.psc.channels.countP Channel.isOn with
  | zero => rfl
  | succ n => unfold reduce; rw [if_pos hd]

end Sys2Proof.Machine
end

