-- ==== Sys2Proof/WellFormed.lean ====
section
/-! DEFINITION. Which commands can reach the part: every operand within the width its wire field has
(R174, R175), every index within the bank's largest size. A command that is not well-formed is no command
of the spec; `exec` answers it all the same, since every function of the model is total. -/

namespace Sys2Proof

/-- A value that fits one byte. -/
def fits8 (v : Nat) : Bool := v < 256
/-- A value that fits two bytes. -/
def fits16 (v : Nat) : Bool := v < 65536
/-- A value that fits three bytes. -/
def fits24 (v : Nat) : Bool := v < 16777216
/-- The length byte of a record a port gathers: 3 to 16 (R175). -/
def recordLen (len : Nat) : Bool := 3 ≤ len && len ≤ 16
/-- An address in the five lower bits of a lead (R88). -/
def address (a : Nat) : Bool := a < 32
/-- A compartment index of the largest bank (R1). -/
def bankIndex (c : Nat) : Bool := c < 32

/-- The well-formed commands. -/
def Instr.wf : Instr → Bool
  | .coldStart | .resetAsserted | .configReadDone _ _ => true
  | .load len tag code cls reach limit probe =>
    recordLen len && fits24 tag && fits16 code && fits8 cls && fits8 reach && fits16 limit && fits16 probe
  | .attend len c | .compartmentReset len c | .release len c => recordLen len && fits8 c
  | .serviceOut len c dir => recordLen len && fits8 c && fits8 dir && dir != 1
  | .serviceIn len c dir => recordLen len && fits8 c && fits8 dir && dir != 0
  | .bankClose len | .bankOpen len | .statusStation len | .clearFaults len | .cancel len => recordLen len
  | .statusCompartment len c => recordLen len && c < 255
  | .whereTag len tag => recordLen len && fits24 tag
  | .collect len tag code => recordLen len && fits24 tag && fits16 code
  | .kitchenBadRecord | .kitchenGapExpiry | .kitchenTxDone => true
  | .counterBadRecord | .counterGapExpiry | .counterTxDone | .lookupWaitEnd => true
  | .attemptStart | .attemptLost | .attemptFailed | .attemptCompleted => true
  | .frameDiscarded _ | .ownAddressFrame => true
  | .unknownKindFrame sender => address sender
  | .claimFrame sender amount margin sequence =>
    address sender && fits16 amount && fits16 margin && fits8 sequence
  | .drawFrame sender service line draw power margin due holding =>
    address sender && fits8 service && fits8 line && fits16 draw && fits8 power && fits16 margin
      && fits8 due && fits8 holding
  | .goneFrame sender tag comp reason => address sender && fits24 tag && fits8 comp && fits8 reason
  | .stowedFrame sender tag comp cls => address sender && fits24 tag && fits8 comp && fits8 cls
  | .queryFrame sender tag => address sender && fits24 tag
  | .helloFresh sender wc wr wg n count | .helloAnswer sender wc wr wg n count =>
    address sender && fits16 wc && fits16 wr && fits16 wg && fits8 n && fits8 count
  | .drawTimerExpiry | .silenceTimerExpiry | .joiningTimerExpiry => true
  | .entryLapse addr => address addr
  | .claimWindowEnd | .lostBackoffEnd | .overrunHoldEnd | .staggerEnd => true
  | .lockoutEnd c | .decayStep c | .holdLimitExpiry c | .pulseEnd c => bankIndex c
  | .channelRestEnd ch => ch < 4
  | .doorOpened c _ | .doorReopened c _ | .doorClosed c _ | .doorForced c _ | .forcedDoorClosed c _ => bankIndex c
  | .releaseWindowLapse c _ | .ajarTime c _ | .settleEnd c _ | .waitLapse c _ => bankIndex c
  | .sensorReading _ | .ambientReading _ => true
  | .inputChainSample samples => 8 ≤ samples.length && samples.length ≤ 32
  | .kitchenUnknownKind kind => fits8 kind && !(1 ≤ kind && kind ≤ 10)
  | .counterUnknownKind kind => fits8 kind && !(1 ≤ kind && kind ≤ 2)

end Sys2Proof
end

