-- ==== Sys2Proof/Tests/Slice0.lean ====
section
/-! SUPPORT. Own tests: well-formedness, the spec's worked figures, one step of each command on a small state, and for
every statement with hypotheses a state that meets them. -/

open Sys2Proof Sys2Proof.Machine

namespace Sys2Proof.Tests

/-! ## Small states -/

/-- The example classes 0 to 3 of chapter 2. -/
def hotMain : ClassRec :=
  { load := 750, floor := 630, threshold := 680, ceiling := 850, urgentBand := 20, cooling := 4, gain := 1, pulseLen := 30,
    maxHold := 2700, duty := 120 }
def soup : ClassRec :=
  { load := 800, floor := 650, threshold := 700, ceiling := 900, urgentBand := 25, cooling := 3, gain := 2, pulseLen := 20,
    maxHold := 3600, duty := 200 }
def warmSide : ClassRec :=
  { load := 650, floor := 560, threshold := 600, ceiling := 750, urgentBand := 15, cooling := 5, gain := 1, pulseLen := 45,
    maxHold := 1800, duty := 80 }
def baked : ClassRec :=
  { load := 600, floor := 500, threshold := 560, ceiling := 580, urgentBand := 30, cooling := 2, gain := 10, pulseLen := 60,
    maxHold := 5400, duty := 60 }

/-- Station 7 of a court of six, four compartments, W_avail 800, F 133, Wi 60. -/
def cfg : ConfigRec :=
  { address := 7, courtSize := 6, count := 4, reach := 2, power := 35, allowance := 900, reserve := 70, guardW := 30,
    isolated := 60, ambient := 220, startShut := false, classes := [hotMain, soup, warmSide, baked] }

def meal : Meal := { tag := 11, code := 1234, cls := 0, limit := 600 }

/-- A due estimate of class 0. -/
def due : Estimate :=
  { temp := 670, steps := 4, uncredited := 5000, margin := 40, due := true, urgent := false, decayAt := 100000,
    limitAt := some 650000 }

/-- An urgent estimate of class 0. -/
def urgent : Estimate := { due with temp := 640, margin := 10, urgent := true }

def held (e : Estimate) (tag : Nat) : CompRec :=
  { CompRec.free with state := .holding, meal := some { meal with tag := tag }, holdStart := some 50000, est := some e }

def running (ch : Nat) (run : Time) : Pulse := { state := .running ch, planned := 30000, run := run, start := 0 }

def closed : InputRec :=
  { kitchen := { value := false, run := 0 }, counter := { value := false, run := 0 },
    presence := { value := false, run := 0 } }

def peer (a : Nat) : PeerEntry := { PeerEntry.empty a with draw := some 70, power := some 35, heard := some 97000, live := true }

/-- In service and in COURT, every compartment FREE. -/
def serving : State :=
  { State.reset with
    now := 100000,
    sul := { phase := .running, config := some cfg, classOn := [true, true, true, false], service := some .serving },
    comps := [.free, .free, .free, .free], doors := [.closed, .closed, .closed, .closed],
    readings := [.blank, .blank, .blank, .blank], inputs := { recs := [closed, closed, closed, closed], next := 100000 },
    ssu := { slot := 1, start := 0, ambient := 220, ambientHeld := false }, peers := [peer 1, peer 2],
    lif := { Lif.cold with mode := some .court } }

/-- The same with compartment `c` as given. -/
def withComp (c : Nat) (r : CompRec) (s : State) : State := s.modComp c fun _ => r

/-- A side of compartment `c` in a state, with every time of that state reached. -/
def withDoor (c : Nat) (sd : Side) (st : SideState) (holder : Option Side) (s : State) : State :=
  s.modDoor c fun d => { (d.modSide sd fun _ =>
    { state := st, latchReleased := st = .released, windowEnd := if st = .released then some 100000 else none,
      ajarAt := if st = .opened then some 100000 else none, ajarNoticed := false,
      settleEnd := if st = .settling then some 100000 else none }) with holder := holder }

def withMode (m : LineMode) (s : State) : State := s.modLif fun l => { l with mode := some m }

def withBuffer (f : Frame) (s : State) : State :=
  s.modLif fun l => { l with buffer := some { frame := f, age := 0, bytes := [], doomed := false } }

/-- Compartment 0 held and due. -/
def holding : State := withComp 0 (held due 11) serving

/-- Compartment 0 heated on channel 0. -/
def heated (run : Time) : State :=
  { (withComp 0 { held due 11 with pulse := some (running 0 run) } serving) with
    psc := { Psc.cold with channels := [.on 0, .idle, .idle, .idle], lastActivation := some 99500, staggerOn := true } }

/-- A door of compartment `c` whose change is due: `value` is what it showed before. -/
def doorMoves (c : Nat) (sd : Side) (value : Bool) (s : State) : State :=
  { s with inputs := { s.inputs with recs := s.inputs.recs.modify c fun r =>
      match sd with
      | .kitchen => { r with kitchen := { value := value, run := 3 } }
      | .counter => { r with counter := { value := value, run := 3 } } } }

/-- The state a command answers. -/
def after (i : Instr) (s : State) : State :=
  match exec i s with
  | .next t => t
  | .fault _ => s
  | .refused _ => s

/-! ## Well-formedness -/

theorem test_wf_load : Instr.wf (.load 14 11 1234 0 1 600 65535) = true := by decide
theorem test_wf_port_records :
    [Instr.load 14 16777216 0 0 0 0 0, .load 14 1 65536 0 0 0 0, .load 14 1 0 256 0 0 0, .load 14 1 0 0 256 0 0,
      .load 14 1 0 0 0 65536 0, .load 14 1 0 0 0 0 65536, .load 17 1 0 0 0 0 0, .attend 2 0, .attend 4 256,
      .compartmentReset 17 0, .release 4 256, .serviceOut 5 0 1, .serviceOut 5 0 256, .serviceIn 5 0 0, .bankClose 2,
      .bankOpen 17, .statusCompartment 4 255, .statusStation 2, .clearFaults 17, .whereTag 6 16777216, .collect 8 16777216 0,
      .collect 8 1 65536, .cancel 2, .kitchenUnknownKind 10, .kitchenUnknownKind 256, .counterUnknownKind 2,
      .counterUnknownKind 256].any Instr.wf = false := by decide
theorem test_wf_frames :
    [Instr.unknownKindFrame 32, .claimFrame 32 0 0 0, .claimFrame 0 65536 0 0, .claimFrame 0 0 65536 0, .claimFrame 0 0 0 256,
      .drawFrame 0 256 0 0 0 0 0 0, .drawFrame 0 0 256 0 0 0 0 0, .drawFrame 0 0 0 65536 0 0 0 0,
      .drawFrame 0 0 0 0 256 0 0 0, .drawFrame 0 0 0 0 0 65536 0 0, .drawFrame 0 0 0 0 0 0 256 0,
      .drawFrame 0 0 0 0 0 0 0 256, .goneFrame 0 16777216 0 0, .goneFrame 0 1 256 0, .goneFrame 0 1 0 256,
      .stowedFrame 0 16777216 0 0, .stowedFrame 0 1 256 0, .stowedFrame 0 1 0 256, .queryFrame 0 16777216,
      .helloFresh 0 65536 0 0 0 0, .helloFresh 0 0 65536 0 0 0, .helloFresh 0 0 0 65536 0 0, .helloAnswer 0 0 0 0 256 0,
      .helloAnswer 0 0 0 0 0 256, .entryLapse 32].any Instr.wf = false := by decide
theorem test_wf_indices :
    [Instr.lockoutEnd 32, .decayStep 32, .holdLimitExpiry 32, .pulseEnd 32, .channelRestEnd 4, .doorOpened 32 .kitchen,
      .doorReopened 32 .counter, .doorClosed 32 .kitchen, .doorForced 32 .counter, .forcedDoorClosed 32 .kitchen,
      .releaseWindowLapse 32 .counter, .ajarTime 32 .kitchen, .settleEnd 32 .counter, .waitLapse 32 .kitchen,
      .inputChainSample (List.replicate 7 default), .inputChainSample (List.replicate 33 default)].any Instr.wf
        = false := by decide

/-! ## The spec's worked figures -/

/-- The four example classes (R23). -/
theorem test_example_classes :
    [hotMain, soup, warmSide, baked].map ClassRec.enabled = [true, true, true, false] := by decide

/-- The starting estimates of class 0 (R25). -/
theorem test_starting_estimates :
    [none, some 900, some 700, some 680, some 645, some 630].map (fun p =>
        let e := Estimate.start hotMain p 0 600
        (e.temp, e.due, e.urgent, e.margin))
      = [(750, false, false, 120), (850, false, false, 220), (700, false, false, 70), (680, true, false, 50),
        (645, true, true, 15), (630, true, true, 0)] := by decide

/-- The table of drops at ambient 220 (R30). -/
theorem test_cooling_drops :
    [750, 732, 731, 475, 221, 220, 200].map (coolingDrop hotMain 220) = [2, 2, 1, 1, 1, 0, 0]
      ∧ [750, 221].map (coolingDrop { hotMain with cooling := 255 } 220) = [131, 1] := by decide

/-- The table of planned lengths (R35). -/
theorem test_planned_lengths :
    (hotMain.plannedLength 680, hotMain.plannedLength 640, soup.plannedLength 700, soup.plannedLength 690,
      warmSide.plannedLength 600) = (30, 30, 20, 20, 45) := by decide

/-- Decay steps 61 to 63 of the worked hold: 680 with a running pulse, 10 s credited at each (chapter 2.11). -/
theorem test_worked_hold :
    (Estimate.cool hotMain 220 { due with temp := 680, uncredited := 10000 }).temp = 689
      ∧ (Estimate.cool hotMain 220 { due with temp := 689, uncredited := 10000 }).temp = 698
      ∧ (Estimate.cool hotMain 220 { due with temp := 698, uncredited := 10000 }).temp = 707
      ∧ Estimate.cool hotMain 220 { due with temp := 680, uncredited := 9500 }
          = { due with temp := 688, uncredited := 500 } := by decide

/-- The two leads of chapter 12: a DRAW of station 7 and a CLAIM of station 7 open with bytes 39 and 7; and the check of
a frame closes it to be read back. -/
theorem test_leads :
    (Frame.bytes 7 (serving.drawReport) .draw).head? = some 39#8
      ∧ (Frame.bytes 7 (serving.drawReport) (.claim 35 10 0)).head? = some 7#8
      ∧ frameCommand 6 (Frame.bytes 7 (serving.drawReport) (.claim 35 10 0)) = .claimFrame 7 35 10 0 := by decide +kernel

/-- R90: two leads contend bit by bit. Station 7's CLAIM loses to station 3's, which goes on; a bit of the start bit or
after the lead that reads back otherwise fails the attempt. -/
theorem test_attempt_ends :
    attemptCommand [7, 0] (frameBits [3]) = some .attemptLost ∧ attemptCommand [3, 0] (frameBits [3]) = none
      ∧ attemptCommand [3, 0] (frameBits [3, 0]) = some .attemptCompleted
      ∧ attemptCommand [3, 5] (frameBits [3, 4]) = some .attemptFailed
      ∧ attemptCommand [3, 0] [true] = some .attemptFailed := by decide +kernel

/-- The configuration record as bytes, with its sum byte (R176). -/
def recordBytes (r : ConfigRec) : List Byte :=
  let body := be8 r.address ++ be8 r.courtSize ++ be8 r.count ++ be8 r.reach ++ be8 r.power ++ be16 r.allowance
    ++ be16 r.reserve ++ be16 r.guardW ++ be16 r.isolated ++ be16 r.ambient ++ flag8 r.startShut
    ++ r.classes.flatMap fun k => be16 k.load ++ be16 k.floor ++ be16 k.threshold ++ be16 k.ceiling ++ be16 k.urgentBand
        ++ be8 k.cooling ++ be8 k.gain ++ be8 k.pulseLen ++ be16 k.maxHold ++ be16 k.duty
  body ++ [sumByte body]

/-- The record of a bank of eight. -/
def bankOfEight : ConfigRec := { cfg with count := 8 }

theorem test_record_round_trip :
    (recordBytes bankOfEight).length = 85 ∧ configOf (recordBytes bankOfEight) = bankOfEight := by decide +kernel

/-! ## States that meet the hypotheses of each statement, one for each of its clauses -/

theorem witness_StepRunsFrontCommand :
    ({ serving with pending := [.staggerEnd, .coldStart] } : State).pending = .staggerEnd :: [.coldStart] := rfl

theorem witness_EmptyQueueTakesDueEventOrTicks :
    (holding.pending = [] ∧ holding.nextDue = some (.decayStep 0))
      ∧ ((heated 3000).pending = [] ∧ State.nextDue { heated 3000 with now := 99900 } = none ∧ (heated 3000).running = true
        ∧ ((heated 3000).comp 0).pulse = some (running 0 3000) ∧ (running 0 3000).state = .running 0)
      ∧ (State.reset.nextDue = none ∧ State.reset.running = false) ∧ (serving.comp 0).pulse = none
      ∧ holding.rx = { kitchen := [], counter := [] } ∧ (heated 3000).rx = { kitchen := [], counter := [] }
      ∧ (let s : State := { serving with rx := { kitchen := [⟨100000, 3#8⟩], counter := [⟨100000, 3#8⟩] } };
        s.pending = [] ∧ s.rx.kitchen = ⟨100000, 3#8⟩ :: [] ∧ (100000 : Time) ≤ s.now)
      ∧ (let s : State := { serving with rx := { kitchen := [⟨100010, 3#8⟩], counter := [⟨100000, 3#8⟩] } };
        s.rx.kitchen = ⟨100010, 3#8⟩ :: [] ∧ s.now < 100010 ∧ s.rx.counter = ⟨100000, 3#8⟩ :: []) := by
  refine ⟨⟨?_, ?_⟩, ⟨?_, ?_, ?_, ?_, ?_⟩, ⟨?_, ?_⟩, ?_, ?_, ?_, ?_, ?_⟩ <;> decide

/-- 85 bytes of sum 0 whose fields are all 0, and 85 bytes of sum 1. -/
def zeros : List Byte := List.replicate 85 0#8
def ones : List Byte := 1#8 :: List.replicate 84 0#8

theorem witness_ConfigFaultCause :
    State.reset.sul.phase = .coldStart
      ∧ ReadSilent .noAnswer ∧ ReadSilent (.data [0#8]) ∧ ReadBadSum (.data ones)
      ∧ (RecordRead (.data zeros) .noAnswer zeros ∧ ¬(configOf zeros).InRanges)
      ∧ (RecordRead .noAnswer (.data (recordBytes { bankOfEight with reserve := 900 }))
            (recordBytes { bankOfEight with reserve := 900 })
        ∧ (configOf (recordBytes { bankOfEight with reserve := 900 })).InRanges
        ∧ ¬(configOf (recordBytes { bankOfEight with reserve := 900 })).FitsCourt) := by
  refine ⟨rfl, Or.inl rfl, Or.inr ⟨_, rfl, by decide⟩, ⟨_, rfl, by decide +kernel, by decide +kernel⟩,
    ⟨Or.inl ⟨rfl, by decide +kernel, by decide +kernel⟩, ?_⟩,
    Or.inr ⟨Or.inl (Or.inl rfl), rfl, by decide +kernel, by decide +kernel⟩, ?_, ?_⟩ <;>
    (first | unfold ConfigRec.InRanges | unfold ConfigRec.FitsCourt) <;> decide +kernel

theorem witness_ConfigRecordLayout :
    85 ≤ (recordBytes bankOfEight).length ∧ 1200 < ({ hotMain with load := 1201 } : ClassRec).load := by decide +kernel

theorem witness_EndOfStartUp :
    State.reset.ColdStarting
      ∧ RecordRead (.data (recordBytes bankOfEight)) .noAnswer (recordBytes bankOfEight)
      ∧ (configOf (recordBytes bankOfEight)).InRanges ∧ (configOf (recordBytes bankOfEight)).FitsCourt
      ∧ (configOf (recordBytes { bankOfEight with courtSize := 1 })).InRanges
      ∧ (configOf (recordBytes { bankOfEight with courtSize := 1 })).FitsCourt := by
  refine ⟨⟨rfl, rfl, rfl, rfl, rfl, rfl, rfl⟩, Or.inl ⟨rfl, by decide +kernel, by decide +kernel⟩, ?_, ?_, ?_, ?_⟩ <;>
    (first | unfold ConfigRec.InRanges | unfold ConfigRec.FitsCourt) <;> decide +kernel

/-- A kitchen and a counter port that are sending a reply. -/
def replying : State :=
  { serving with kp := { KitchenPort.cold with tx := some { role := .reply, bytes := [] } },
                 cp := { CounterPort.cold with tx := some { role := .reply, bytes := [] } } }

/-- The Kitchen Port has gathered the bytes of a record begun. -/
def gathering (bs : List Byte) : State := serving.modKp fun k => { k with receiver := ⟨bs, some 100050⟩ }

/-- A byte arrives at a port now. -/
def sends (sd : Side) (b : Byte) (s : State) : State :=
  match sd with
  | .kitchen => { s with rx := { s.rx with kitchen := [⟨s.now, b⟩] } }
  | .counter => { s with rx := { s.rx with counter := [⟨s.now, b⟩] } }

/-- The state after one step. -/
def stepped (s : State) : State :=
  match step s with
  | .next t => t
  | _ => s

/-- A lookup wait runs. -/
def waiting : State := { serving with cdir := { entries := [], lookup := some { tag := 99, waitEnd := 100000 } } }

theorem witness_PortsThatTakeNoRequest :
    kitchenKind (.attend 4 0) = some 2 ∧ counterKind (.collect 8 1 1) = some 1 ∧ counterKind (.cancel 3) = some 2
      ∧ State.reset.sul.phase = .coldStart
      ∧ ({ State.reset with sul := { Sul.cold with phase := .configFault .sum } } : State).sul.phase = .configFault .sum
      ∧ (replying.running = true ∧ replying.Quiet ∧ replying.kp.busy = true ∧ replying.cp.replying = true
        ∧ replying.cdir.lookup = none)
      ∧ (waiting.running = true ∧ waiting.Quiet ∧ waiting.cdir.lookup.isSome = true) := by
  refine ⟨?_, ?_, ?_, ?_, ?_, ⟨?_, ⟨?_, ?_⟩, ?_, ?_, ?_⟩, ?_, ⟨?_, ?_⟩, ?_⟩ <;> decide

theorem witness_ReceiversAndTransmitters :
    serving.sul.phase ≠ .resetAsserted
      ∧ ({ KitchenPort.cold with replies := [.outcome .wait none none] } : KitchenPort).replies = .outcome .wait none none :: []
      ∧ ({ KitchenPort.cold with busyReply := some 2 } : KitchenPort).busyReply = some 2
      ∧ ({ KitchenPort.cold with notices := [.bankShut] } : KitchenPort).notices = .bankShut :: []
      ∧ ({ CounterPort.cold with replies := [⟨.wait, none⟩] } : CounterPort).replies = ⟨.wait, none⟩ :: []
      ∧ (({ serving with cp := { CounterPort.cold with busyReply := some 1 } } : State).cdir.lookup = none)
      ∧ (waiting.cp.replies = [] ∧ waiting.cdir.lookup ≠ none)
      ∧ ((gathering [4#8]).kp.receiver.gapEnd = some 100050 ∧ (gathering [4#8]).now < 100050)
      ∧ ((sends .kitchen 3#8 serving).rx.kitchen = ⟨100000, 3#8⟩ :: [] ∧ serving.kp.receiver.gathered = [])
      ∧ ((3#8 : Byte).toNat = 3 ∧ (16#8 : Byte).toNat = 16 ∧ (2#8 : Byte).toNat < 3 ∧ 16 < (17#8 : Byte).toNat)
      ∧ ((gathering [4#8, 2#8]).kp.receiver.gathered = 4#8 :: [2#8] ∧ [2#8].length + 2 < (4#8 : Byte).toNat
        ∧ (3#8 : Byte).toNat ≤ [6#8].length + 2)
      ∧ ([3#8, 6#8, 247#8].foldl (· + ·) 0#8 = 0#8 ∧ [3#8, 6#8, 246#8].foldl (· + ·) 0#8 ≠ 0#8) := by decide

theorem witness_CommonChecks :
    serving.takesKitchen ∧ serving.Quiet ∧ serving.takesCounter
      ∧ kitchenFormOk 2 (.attend 5 0) = false ∧ kitchenFormOk 1 (.load 14 0 0 0 0 0 0) = false
      ∧ kitchenFormOk 77 (.kitchenUnknownKind 77) = false
      ∧ (kitchenFormOk 2 (.attend 4 4) = true ∧ compartmentField (.attend 4 4) = some (4, 4) ∧ serving.count ≤ 4)
      ∧ (let s := withComp 3 { CompRec.free with state := .faulted } serving;
        3 < s.count ∧ (s.comp 3).state = .faulted ∧ s.running = true)
      ∧ ¬(8 = 8 ∧ 1 ≤ 0 ∧ 0 ≤ 999999 ∧ 1 ≤ 9999) := by
  refine ⟨⟨?_, ?_⟩, ⟨?_, ?_⟩, ⟨?_, ?_⟩, ?_, ?_, ?_, ⟨?_, ?_, ?_⟩, ⟨?_, ?_, ?_⟩, ?_⟩ <;> decide

/-- The refusals of R3 in their order, each with all earlier checks passed; a LOAD that none refuses. -/
theorem witness_LoadRefusedByFirstFailingCheck :
    (serving.takesKitchen ∧ serving.Quiet ∧ serving.lif.mode = some .court)
      ∧ serving.loadRefusal .court 14 11 1234 4 0 0 65535 = some .badField
      ∧ State.loadRefusal { serving with sul := { serving.sul with service := some .shut } } .court 14 11 1234 0 0 0 65535
          = some .bankShut
      ∧ serving.loadRefusal .court 14 11 1234 3 0 0 65535 = some .classOff
      ∧ holding.loadRefusal .court 14 11 1234 0 0 0 65535 = some .duplicate
      ∧ serving.loadRefusal .court 14 12 1234 0 0 0 629 = some .tooCool
      ∧ serving.loadRefusal .mismatchedClash 14 12 1234 0 0 0 630 = some .courtFault
      ∧ State.loadRefusal { serving with sul := { serving.sul with config := some { cfg with isolated := 4 } } } .isolated
          14 12 1234 0 0 0 630 = some .heatFull
      ∧ State.loadRefusal { serving with doors := List.replicate 4 { DoorRec.closed with holder := some .kitchen } } .court
          14 12 1234 0 0 0 630 = some .busy
      ∧ (let s := withComp 0 (held due 1) (withComp 1 (held due 2) (withComp 2 (held due 3) (withComp 3 (held due 4) serving)));
        s.loadRefusal .court 14 12 1234 0 0 0 630 = none ∧ s.allocate false = none) := by
  refine ⟨⟨⟨?_, ?_⟩, ⟨?_, ?_⟩, ?_⟩, ?_, ?_, ?_, ?_, ?_, ?_, ?_, ?_, ?_⟩ <;> decide

theorem witness_LoadAccepted :
    serving.takesKitchen ∧ serving.Quiet ∧ serving.lif.mode = some .court
      ∧ serving.loadRefusal .court 14 11 1234 0 1 0 65535 = none
      ∧ serving.allocate (decide (1 = 1)) = some 0 ∧ serving.allocate false = some 3 ∧ serving.runningPulse 0 = none := by
  refine ⟨⟨?_, ?_⟩, ⟨?_, ?_⟩, ?_, ?_, ?_, ?_, ?_⟩ <;> decide

/-- The reach count at both ends of its range. -/
theorem witness_Allocation :
    serving.cfg.reach ≤ serving.count
      ∧ State.allocate { serving with sul := { serving.sul with config := some { cfg with reach := 0 } } } true = some 0
      ∧ State.allocate { serving with sul := { serving.sul with config := some { cfg with reach := 4 } } } false = some 3 := by
  decide

theorem witness_AdmissionTest :
    serving.lif.mode = some .court ∧ (withMode .joining serving).lif.mode = some .joining
      ∧ (withMode .isolated serving).lif.mode = some .isolated
      ∧ (withMode .mismatchedClash serving).admission 0 = some .courtFault
      ∧ serving.requiredShare 0 = 5 ∧ holding.requiredShare 1 = 12
      ∧ serving.sul.service = some .serving ∧ serving.classEnabled 0 = true ∧ serving.findTag 11 = none := by decide

/-- Compartment 3 as given, all others FREE. -/
def third (r : CompRec) : State := withComp 3 r serving

def condemned : CompRec := { held due 11 with state := .condemned, est := none, condemn := some .expired }
def faulted : CompRec :=
  { held due 11 with state := .faulted, est := none, condemn := some .fault, fault := some .sensor, mealPresent := some true }
def attending : CompRec := { held due 11 with state := .attending, prior := some .holding }
def collecting : CompRec := { held due 11 with state := .collecting }
def loading : CompRec := { CompRec.free with state := .loading, meal := some meal, probe := some 700 }

theorem witness_AttendanceGranted :
    (∀ s ∈ [third (held due 11), third condemned, third faulted],
        s.running = true ∧ s.kp.busy = false ∧ s.psc.attemptDue = false ∧ s.psc.drawMoved = false ∧ 3 < s.count
          ∧ (s.door 3).holder = none ∧ (s.door 3).bothLatched = true ∧ s.sideCount .kitchen < 4
          ∧ (s.door 3).kitchenReq = none)
      ∧ ((third (held due 11)).comp 3).state = .holding ∧ ((third condemned).comp 3).state = .condemned
      ∧ ((third faulted).comp 3).state = .faulted := by decide

/-- The counter holds compartment 3; the same with a kitchen request stored; the side limit reached; the kitchen holds a
FAULTED compartment. -/
theorem witness_AttendanceNotGranted :
    (let s := withDoor 3 .counter .released (some .counter) (third collecting);
      s.running = true ∧ s.kp.busy = false ∧ 3 < s.count ∧ (s.comp 3).state = .collecting ∧ (s.door 3).kitchenReq = none)
      ∧ (let s := withDoor 3 .counter .released (some .counter) (third faulted);
        (s.comp 3).state = .faulted ∧ (s.door 3).holder = some .counter)
      ∧ (let s := { third (held due 11) with
                    doors := List.replicate 3 { DoorRec.closed with holder := some .kitchen } ++ [
                      { DoorRec.closed with kitchenReq := some { kind := .attend, remembered := 0, lapse := 0, serial := 0 } }] };
        (s.comp 3).state = .holding ∧ (s.door 3).kitchenReq ≠ none)
      ∧ (let s := withDoor 3 .kitchen .opened none (third condemned);
        (s.comp 3).state = .condemned ∧ (s.door 3).holder = none ∧ (s.door 3).kitchen.state ≠ .latched)
      ∧ (∀ r ∈ [CompRec.free, loading, attending, { CompRec.free with state := .outOfService }],
        ((third r).comp 3).state ≠ .holding ∧ ((third r).door 3).holder ≠ some .counter)
      ∧ (let s := withDoor 3 .kitchen .released (some .kitchen) (third faulted);
        (s.comp 3).state = .faulted ∧ (s.door 3).holder = some .kitchen) := by decide

theorem witness_ServiceRequests :
    serving.takesKitchen ∧ serving.Quiet ∧ 3 < serving.count ∧ (serving.comp 3).state = .free
      ∧ ((third { CompRec.free with state := .outOfService }).comp 3).state = .outOfService := by
  refine ⟨⟨?_, ?_⟩, ⟨?_, ?_⟩, ?_, ?_, ?_⟩ <;> decide

/-- Also of ClearFaultsClearsStickyFlags, StatusOfCompartment and StatusOfStation. -/
theorem witness_BankCloseAndOpen :
    serving.takesKitchen ∧ serving.Quiet ∧ serving.sul.service = some .serving ∧ serving.occupiedCount = 0
      ∧ holding.occupiedCount = 1 ∧ 0 < serving.count := by
  refine ⟨⟨?_, ?_⟩, ⟨?_, ?_⟩, ?_, ?_, ?_, ?_⟩ <;> decide

/-- Own part and directory part present and absent. -/
theorem witness_WhereReply :
    holding.takesKitchen ∧ holding.Quiet ∧ holding.whereOwn 11 = some { comp := 0, state := .holding }
      ∧ holding.whereOwn 12 = none ∧ holding.whereDir 11 = none
      ∧ State.whereDir { holding with cdir := { entries := [⟨12, 1, 0, 0, 99000⟩], lookup := none } } 12
          = some { station := 1, comp := 0, cls := 0, seconds := 1 } := by
  refine ⟨⟨?_, ?_⟩, ⟨?_, ?_⟩, ?_, ?_, ?_, ?_⟩ <;> decide

/-- A held meal after two wrong codes, and one locked out. -/
def wrongTwice : CompRec := { held due 11 with wrongCount := 2 }
def lockedOut : CompRec := { held due 11 with lockoutEnd := some 100000 }

theorem witness_CollectAnsweredByRecordAndCode :
    (∀ r ∈ [loading, condemned, faulted, { attending with prior := some .condemned }, collecting, held due 11, attending,
        wrongTwice, lockedOut],
      let s := third r
      s.running = true ∧ s.counterBusy = false ∧ s.psc.attemptDue = false ∧ s.psc.drawMoved = false ∧ 3 < s.count
        ∧ (s.comp 3).meal.map Meal.tag = some 11
        ∧ ∀ d, d < s.count → d ≠ 3 → (s.comp d).meal.map Meal.tag ≠ some 11)
      ∧ 1 ≤ 11 ∧ 11 ≤ 999999 ∧ 9999 ≠ meal.code ∧ ((third (held due 11)).comp 3).wrongCount < 2
      ∧ 2 ≤ ((third wrongTwice).comp 3).wrongCount ∧ ((third lockedOut).comp 3).lockoutEnd = some 100000
      ∧ (State.modDoor 3 (fun d => { d with counterReq := some ⟨11, 0, 100000, 0⟩ }) (third attending)).door 3
          = { DoorRec.closed with counterReq := some ⟨11, 0, 100000, 0⟩ } := by decide

theorem witness_RightCode :
    (let s := third (held due 11);
      s.running = true ∧ s.counterBusy = false ∧ (s.comp 3).meal = some meal ∧ meal.code = 1234
        ∧ (s.door 3).counterReq = none ∧ (s.comp 3).lockoutEnd = none ∧ (s.comp 3).state = .holding
        ∧ (s.door 3).holder = none ∧ (s.door 3).bothLatched = true ∧ s.sideCount .counter < 4)
      ∧ (let s := withDoor 3 .kitchen .opened none (third (held due 11));
        (s.comp 3).state = .holding ∧ (s.door 3).holder = none ∧ (s.door 3).kitchen.state ≠ .latched)
      ∧ (let s := withDoor 3 .kitchen .released (some .kitchen) (third attending);
        (s.comp 3).state = .attending ∧ (s.comp 3).prior = some .holding ∧ (s.door 3).holder = some .kitchen) := by decide

theorem witness_CounterLookup :
    serving.takesCounter ∧ serving.Quiet ∧ (∀ r ∈ serving.comps, r.meal.map Meal.tag ≠ some 12)
      ∧ ([(⟨12, 1, 0, 0, 99000⟩ : DirEntry)].find? (fun e => e.tag = 12) = some ⟨12, 1, 0, 0, 99000⟩)
      ∧ serving.takesFrames = true ∧ (withMode .mismatchedClash serving).takesFrames = false
      ∧ (waiting.running = true ∧ waiting.Quiet ∧ waiting.cdir.lookup = some { tag := 99, waitEnd := 100000 }
        ∧ 100000 ≤ waiting.now) := by
  refine ⟨⟨?_, ?_⟩, ⟨?_, ?_⟩, ?_, ?_, ?_, ?_, ⟨?_, ⟨?_, ?_⟩, ?_, ?_⟩⟩ <;> decide

/-- Counter requests stored for compartments 0 and 3, the one of 3 last. -/
def twoRequests : State :=
  State.modDoor 3 (fun d => { d with counterReq := some ⟨12, 0, 100000, 5⟩, kitchenReq := some ⟨.attend, 0, 100000, 4⟩ })
    (State.modDoor 0 (fun d => { d with counterReq := some ⟨11, 0, 100000, 2⟩ }) serving)

theorem door_beyond (n : Nat) : twoRequests.door (n + 4) = .closed := rfl

theorem witness_Cancel :
    (waiting.running = true ∧ waiting.Quiet ∧ waiting.cdir.lookup ≠ none)
      ∧ (twoRequests.running = true ∧ twoRequests.cdir.lookup = none ∧ twoRequests.cp.replying = false
        ∧ (twoRequests.door 3).counterReq = some ⟨12, 0, 100000, 5⟩)
      ∧ (∀ d q', d ≠ 3 → (twoRequests.door d).counterReq = some q' → q'.serial < 5)
      ∧ (∀ d, (serving.door d).counterReq = none) := by
  refine ⟨by refine ⟨?_, ⟨?_, ?_⟩, ?_⟩ <;> decide, by decide, ?_, ?_⟩
  · intro d q' hd h
    match d with
    | 0 => injection h with h; subst h; decide
    | 1 => cases h
    | 2 => cases h
    | 3 => exact absurd rfl hd
    | n + 4 => cases h
  · intro d
    match d with
    | 0 | 1 | 2 | 3 => rfl
    | n + 4 => rfl

def noteFrames : List Queued := List.replicate 10 { frame := .query 1, age := 0 }

theorem witness_TransmitQueue :
    serving.takesFrames = true ∧ serving.lif.noteCount < 10 ∧ (withMode .mismatchedClash serving).takesFrames = false
      ∧ 10 ≤ (serving.modLif fun l => { l with queue := noteFrames }).lif.noteCount
      ∧ (noteFrames.Pairwise fun a b => a.frame.kind < b.frame.kind ∨ (a.frame.kind = b.frame.kind ∧ a.age ≤ b.age)) := by
  decide

/-- A DRAW at the head of the queue; a CLAIM, a DRAW and a HELLO under attempt. -/
theorem witness_AttemptStartedAndLost :
    (let s := serving.modLif fun l => { l with queue := [{ frame := .draw, age := 3 }] };
      s.running = true ∧ s.cfg.courtSize ≠ 1 ∧ s.lif.mode ≠ none ∧ s.lif.buffer = none ∧ s.lif.silenced = false
        ∧ s.lif.queue = { frame := .draw, age := 3 } :: [])
      ∧ (withBuffer .draw serving).lif.buffer = some { frame := .draw, age := 0, bytes := [], doomed := false } := by decide

/-- The heater law of a state in which no channel is ON and no pulse RUNNING. -/
theorem heaterLaw_of_none (s : State) (h1 : ∀ ch ∈ s.psc.channels, ch = .idle)
    (h2 : ∀ r ∈ s.comps, r.pulse = none) : s.HeaterLaw := by
  refine ⟨?_, ?_, fun _ => h1⟩
  · intro ch c h
    exact absurd (h1 _ (List.mem_of_getElem? h)) (by intro h'; cases h')
  · intro ch c h
    have : (s.comp c).pulse = none := by
      by_cases hc : c < s.comps.length
      · have := h2 s.comps[c] (List.getElem_mem hc)
        simpa [State.comp, List.getD_eq_getElem?_getD, hc] using this
      · simp [State.comp, List.getD_eq_getElem?_getD, Nat.le_of_not_lt hc, CompRec.free]
    rw [this] at h; exact absurd h (by intro h'; cases h')

/-- Fifteen attempts have failed, the silence timer's moment is reached. -/
def silent (m : LineMode) : State :=
  (withBuffer .draw (withMode m holding)).modLif fun l => { l with failed := 15, silenceAt := some 100000 }

/-- The one RUNNING pulse of `heated` and its channel agree. -/
theorem heaterLaw_heated : (heated 3000).HeaterLaw := by
  have hc : ∀ c, (heated 3000).comp c = if c = 0 then { held due 11 with pulse := some (running 0 3000) } else CompRec.free := by
    intro c
    by_cases h : c < 4
    · interval_cases c <;> decide
    · have hl : (heated 3000).comps.length ≤ c := by
        have : (heated 3000).comps.length = 4 := by decide
        omega
      rw [if_neg (by omega)]
      simp [State.comp, List.getD_eq_getElem?_getD, hl]
  refine ⟨?_, ?_, by decide⟩
  · intro ch c h
    have h0 : c = 0 ∧ ch = 0 := by
      match ch, h with
      | 0, h => simpa [heated, eq_comm] using h
      | 1, h | 2, h | 3, h => simp [heated] at h
      | n + 4, h => simp [heated] at h
    obtain ⟨rfl, rfl⟩ := h0
    decide
  · intro ch c h
    rw [hc] at h
    by_cases h0 : c = 0
    · subst h0
      have : ch = 0 := by simpa [running, eq_comm] using h
      subst this; decide
    · rw [if_neg h0] at h; simp [CompRec.free] at h

theorem witness_IsolationByFailuresAndSilence :
    ((silent .court).running = true ∧ (silent .court).cfg.courtSize ≠ 1 ∧ (silent .court).lif.buffer.isSome = true
        ∧ (silent .court).Quiet ∧ 16 ≤ (silent .court).lif.failed + 1 ∧ (silent .court).lif.mode = some .court
        ∧ (silent .court).lif.silenceAt = some 100000 ∧ 100000 ≤ (silent .court).now)
      ∧ (silent .court).HeaterLaw ∧ (silent .joining).lif.mode = some .joining
      ∧ (withBuffer .draw serving).lif.failed + 1 < 16 ∧ Frame.draw.kind < 2 ∧ ¬(Frame.query 1).kind < 2 := by
  refine ⟨?_, heaterLaw_of_none _ (by decide) (by decide), by decide, by decide, by decide, by decide⟩
  refine ⟨?_, ?_, ?_, ⟨?_, ?_⟩, ?_, ?_, ?_, ?_⟩ <;> decide

/-- A CLAIM completed while its claim is QUEUED and while there is none; the final DRAW; a rejoin. -/
theorem witness_AttemptCompleted :
    (let s := (withBuffer (.claim 35 10 0) serving).modDsu fun d => { d with claim := .queued 35 10 0 };
      s.running = true ∧ s.cfg.courtSize ≠ 1 ∧ s.lif.buffer.isSome = true ∧ s.lif.mode ≠ some .isolated
        ∧ s.dsu.claim = .queued 35 10 0)
      ∧ (withBuffer (.claim 35 10 0) serving).dsu.claim = .noClaim
      ∧ (withBuffer .draw (withMode .mismatchedClash serving)).lif.mode = some .mismatchedClash
      ∧ 2 ≤ (Frame.query 1).kind
      ∧ (let s := (withBuffer (.query 1) (withMode .isolated serving)).modLif fun l => { l with rejoin := true };
        s.lif.mode = some .isolated ∧ s.lif.rejoin = true ∧ s.HeaterLaw) := by
  refine ⟨by decide, by decide, by decide, by decide, by decide, by decide, heaterLaw_of_none _ (by decide) (by decide)⟩

theorem witness_LineTimers :
    let s := serving.modLif fun l => { l with mode := some .joining, drawAt := some 100000, joiningAt := some 100000 }
    s.running = true ∧ s.lif.drawAt = some 100000 ∧ s.lif.joiningAt = some 100000 ∧ 100000 ≤ s.now
      ∧ s.lif.mode = some .joining := by decide

theorem witness_DiscardedAndIgnoredFrames :
    serving.running = true ∧ serving.cfg.courtSize ≠ 1 ∧ serving.Quiet ∧ 6 ≠ serving.cfg.address
      ∧ frameSender (.stowedFrame 6 1 32 0) = some 6 ∧ frameContentOk (.stowedFrame 6 1 32 0) = false
      ∧ frameContentOk (.drawFrame 6 3 0 0 0 0 0 0) = false ∧ frameContentOk (.queryFrame 6 0) = false
      ∧ frameContentOk (.goneFrame 6 1 0 3) = false ∧ frameContentOk (.helloFresh 6 0 0 0 0 7) = false
      ∧ State.reset.running = false
      ∧ ({ serving with sul := { serving.sul with config := some { cfg with courtSize := 1 } } } : State).cfg.courtSize
          = 1 := by
  refine ⟨?_, ?_, ⟨?_, ?_⟩, ?_, ?_, ?_, ?_, ?_, ?_, ?_, ?_, ?_⟩ <;> decide

theorem witness_AddressClash :
    holding.running = true ∧ holding.cfg.courtSize ≠ 1 ∧ holding.Quiet ∧ holding.lif.mode ≠ some .mismatchedClash
      ∧ holding.HeaterLaw ∧ (withMode .mismatchedClash holding).lif.mode = some .mismatchedClash
      ∧ frameSender (.queryFrame 7 1) = some holding.cfg.address := by
  refine ⟨by decide, by decide, ⟨by decide, by decide⟩, by decide, heaterLaw_of_none _ (by decide) (by decide), by decide,
    by decide⟩

/-- Also of ClaimHeard, StowedAndGoneHeard and QueryAnswered. -/
theorem witness_DrawHeardAndEntryLapsed :
    serving.running = true ∧ serving.cfg.courtSize ≠ 1 ∧ serving.Quiet ∧ 1 ≠ serving.cfg.address ∧ 2 ≤ 2 ∧ 3 ≤ 3
      ∧ (serving.peer 1).live = true ∧ (serving.peer 1).heard = some 97000 ∧ 97000 + 3000 ≤ serving.now := by
  refine ⟨?_, ?_, ⟨?_, ?_⟩, ?_, ?_, ?_, ?_, ?_, ?_⟩ <;> decide

theorem witness_ClaimHeard :
    serving.running = true ∧ serving.Quiet ∧ 0 ≠ serving.cfg.address ∧ 31 ≠ serving.cfg.address := by
  refine ⟨?_, ⟨?_, ?_⟩, ?_, ?_⟩ <;> decide

theorem witness_HelloHeard :
    serving.running = true ∧ serving.cfg.courtSize ≠ 1 ∧ serving.Quiet ∧ 1 ≠ serving.cfg.address ∧ 8 ≤ 8 ∧ 32 ≤ 32
      ∧ (900 = serving.cfg.allowance ∧ 70 = serving.cfg.reserve ∧ 30 = serving.cfg.guardW ∧ 6 = serving.cfg.courtSize)
      ∧ ¬(900 = serving.cfg.allowance ∧ 70 = serving.cfg.reserve ∧ 31 = serving.cfg.guardW ∧ 6 = serving.cfg.courtSize)
      ∧ serving.lif.mode = some .court
      ∧ ((withMode .joining holding).lif.mode = some .joining ∧ (withMode .joining holding).HeaterLaw) := by
  refine ⟨by decide, by decide, ⟨by decide, by decide⟩, by decide, by decide, by decide, by decide, by decide, by decide,
    by decide, heaterLaw_of_none _ (by decide) (by decide)⟩

theorem witness_StowedAndGoneHeard :
    waiting.running = true ∧ waiting.cfg.courtSize ≠ 1 ∧ waiting.Quiet ∧ 1 ≠ waiting.cfg.address
      ∧ (waiting.cdir.lookup.any fun l => l.tag = 99) = true ∧ 1 ≤ 999999 ∧ 31 < 32 ∧ 3 ≤ 3 ∧ 2 ≤ 2 := by
  refine ⟨?_, ?_, ⟨?_, ?_⟩, ?_, ?_, ?_, ?_, ?_, ?_⟩ <;> decide

theorem witness_QueryAnswered :
    (∀ r ∈ [held due 11, collecting, attending, condemned, faulted, { attending with prior := some .faulted }, loading],
      let s := third r
      s.running = true ∧ s.cfg.courtSize ≠ 1 ∧ s.psc.attemptDue = false ∧ s.psc.drawMoved = false ∧ 1 ≠ s.cfg.address
        ∧ 3 < s.count ∧ (s.comp 3).meal = some meal
        ∧ ∀ d, d < s.count → d ≠ 3 → (s.comp d).meal.map Meal.tag ≠ some 11)
      ∧ (∀ r ∈ serving.comps, r.meal.map Meal.tag ≠ some 11) := by decide

/-- W_avail so small that one element fills it: F is 17. -/
def tight : State := { holding with sul := { holding.sul with config := some { cfg with allowance := 205 } } }

/-- The cases of R71 and R72: OVERRUN hold, apart, JOINING, and the six of COURT. -/
theorem witness_PermissionForDraw :
    (∀ m : LineMode, (withMode m serving).lif.mode = some m)
      ∧ serving.draw + serving.cfg.power ≤ serving.share ∧ serving.draw + serving.cfg.power ≤ serving.cfg.isolated
      ∧ ¬(tight.draw + tight.cfg.power ≤ tight.share)
      ∧ (State.modDsu (fun d => { d with overrunUntil := some 100000 }) tight).dsu.overrunUntil ≠ none
      ∧ ¬((tight.cfg.power : Int) ≤ tight.headroom)
      ∧ (tight.lif.mode = some .court ∧ tight.cfg.courtSize ≠ 1 ∧ tight.dsu.claim = .noClaim ∧ tight.dsu.lostUntil = none
        ∧ tight.channelMoment = some 100000 ∧ 100000 ≤ tight.now + 250 ∧ tight.staggerMoment ≤ tight.now + 250
        ∧ tight.dsu.sequence < 256)
      ∧ State.channelMoment { tight with psc := { Psc.cold with channels := [.on 0, .on 1, .on 2, .on 3] } } = none
      ∧ State.channelMoment { tight with psc := { Psc.cold with channels := [.rest 100251] } } = some 100251
      ∧ State.staggerMoment { tight with psc := { Psc.cold with lastActivation := some 99760 } } = 100260 := by
  refine ⟨by intro m; rfl, ?_, ?_, ?_, ?_, ?_, ?_, ?_, ?_, ?_⟩ <;> decide

/-- Compartment 1 urgent beside compartment 0 heated for 4 s at a larger margin, every channel ON. -/
def contested : State :=
  { withComp 1 (held urgent 12) (heated 4000) with
    psc := { Psc.cold with channels := [.on 0, .on 2, .on 3, .on 2], lastActivation := some 99500 } }

/-- An own claim at its window's end: granted with 590 du of headroom, lost with 35. -/
theorem witness_ClaimDecidedAtWindowEnd :
    (let s := holding.modDsu fun d => { d with claim := .window 35 40 0 99750 100000 };
      s.running = true ∧ 100000 ≤ s.now ∧ s.dsu.claim = .window 35 40 0 99750 100000
        ∧ walk s.headroom s.cfg.address 0 (s.claimSet { address := 7, amount := 35, margin := 40 } 99750 100000) = true
        ∧ s.firstEligible = some 0 ∧ s.idleChannel = some 0 ∧ s.staggerEnded = true)
      ∧ walk tight.headroom tight.cfg.address 0 (tight.claimSet { address := 7, amount := 35, margin := 40 } 99750 100000)
          = false
      ∧ serving.firstEligible = none
      ∧ (let s := holding.modPsc fun p => { p with channels := [.on 1, .on 2, .on 3, .rest 0] };
        s.idleChannel = none ∧ s.firstEligible = some 0 ∧ (Channel.rest 0) ∈ s.psc.channels)
      ∧ (contested.idleChannel = none ∧ contested.firstEligible = some 1 ∧ contested.urgent 1 = true)
      ∧ (∀ p ∈ serving.peers, p.address ≠ serving.cfg.address) ∧ (serving.peers.map PeerEntry.address).Nodup := by decide

/-- The urgent candidate 1 of `contested` preempts the pulse of 0. -/
theorem witness_Preempts : contested.Preempts 1 0 := by
  refine ⟨by decide, ?_, ⟨by decide, by decide, running 0 4000, 0, by decide, by decide, by decide⟩, ?_⟩
  · intro t h; simp [contested] at h
  · intro u hu hne
    obtain ⟨hu, _, p, ch, hp, _⟩ := hu
    have hu : u < 4 := hu
    have hn : ∀ n, n < 4 → n ≠ 0 → (contested.comp n).pulse = none := by decide
    rw [hn u hu hne] at hp
    exact absurd hp (by simp)

/-- Two compartments heated while peers draw: D 70 stands above F 17 and D + S above W_avail. -/
theorem witness_OverrunFallBack :
    (let s : State := { heated 3000 with sul := { serving.sul with config := some { cfg with allowance := 205 } } };
      s.wAvail < s.draw + s.peerDraw ∧ s.share < s.draw)
      ∧ ¬(serving.wAvail < serving.draw + serving.peerDraw ∧ serving.share < serving.draw) ∧ holding.HeaterLaw
      ∧ (heated 3000).HeaterLaw ∧ 0 < (heated 3000).draw
      ∧ (heated 3000).LargestOf (heated 3000).Runs 0
      ∧ (let s := serving.modDsu fun d => { d with lostUntil := some 100000, overrunUntil := some 100000 };
        s.running = true ∧ s.dsu.lostUntil = some 100000 ∧ s.dsu.overrunUntil = some 100000 ∧ 100000 ≤ s.now) := by
  refine ⟨by decide, by decide, heaterLaw_of_none _ (by decide) (by decide), heaterLaw_heated, by decide,
    ⟨⟨by decide, running 0 3000, 0, by decide, by decide⟩, ?_⟩, by decide⟩
  intro u ⟨hu, p, ch, hp, _⟩ hne
  have hu : u < 4 := hu
  have hn : ∀ n, n < 4 → n ≠ 0 → ((heated 3000).comp n).pulse = none := by decide
  rw [hn u hu hne] at hp
  exact absurd hp (by simp)

theorem witness_EstimateArithmetic :
    220 ≤ 220 ∧ 220 < 221 ∧ hotMain.cooling ≤ 255 ∧ hotMain.enabled = true ∧ 680 ≤ hotMain.threshold := by decide

/-- A decay step that condemns, one that moves the due entry and one that leaves the queue as it is; a limit reached; a
pulse at its planned length; a rest and the stagger over. -/
theorem witness_TimedHeating :
    (let s := withComp 0 (held { due with temp := 630, uncredited := 0 } 11) serving;
      s.running = true ∧ (s.comp 0).est = some { due with temp := 630, uncredited := 0 } ∧ due.decayAt ≤ s.now
        ∧ (s.comp 0).state = .holding ∧ (Estimate.cool hotMain 220 { due with temp := 630, uncredited := 0 }).temp < 630)
      ∧ (Estimate.mark hotMain (Estimate.cool hotMain 220 due)).margin ≠ due.margin
      ∧ (let e := { due with temp := 750, margin := 120, due := false };
        (Estimate.mark hotMain (Estimate.cool hotMain 220 e)).due = e.due)
      ∧ (let e := { due with limitAt := some 100000 };
        (withComp 0 (held e 11) serving).now = 100000 ∧ ((third { collecting with est := some e }).comp 3).state ≠ .holding)
      ∧ (heated 30000).Heated 0 0 (running 0 30000) due ∧ (running 0 30000).planned ≤ (running 0 30000).run
      ∧ (let s : State := { serving with psc := { Psc.cold with channels := [.idle, .idle, .idle, .rest 100000] } };
        s.psc.channels[3]? = some (.rest 100000) ∧ 100000 ≤ s.now)
      ∧ ((heated 3000).psc.staggerOn = true ∧ (heated 3000).psc.lastActivation = some 99500
        ∧ 99500 + 500 ≤ (heated 3000).now) := by
  refine ⟨by decide, by decide, by decide, by decide, ?_, by decide, by decide, by decide⟩
  refine ⟨?_, ?_, ?_, ?_, ?_⟩ <;> decide

/-- A pulse suspended with length left, one at its planned length, one of a meal no longer due; no pulse, due and not. -/
theorem witness_SuspendedPulse :
    (heated 3000).Heated 0 0 (running 0 3000) due ∧ (running 0 3000).run < (running 0 3000).planned
      ∧ (Estimate.mark hotMain (due.credit hotMain)).due = true
      ∧ (Estimate.mark hotMain (Estimate.credit hotMain { due with uncredited := 11000 })).due = false
      ∧ (running 0 30000).planned ≤ (running 0 30000).run
      ∧ (holding.runningPulse 0 = none ∧ holding.connected 0 = false ∧ holding.due 0 = true ∧ serving.due 0 = false) := by
  refine ⟨?_, by decide, by decide, by decide, by decide, by decide⟩
  refine ⟨?_, ?_, ?_, ?_, ?_⟩ <;> decide

theorem witness_StartAttempt :
    (holding.firstEligible = some 0 ∧ (holding.requestDraw (holding.margin 0)).1 = .permitted
        ∧ holding.psc.lastActivation = none ∧ holding.psc.channels[0]? = some .idle ∧ (holding.comp 0).est = some due)
      ∧ serving.firstEligible = none
      ∧ (tight.firstEligible = some 0 ∧ (tight.requestDraw (tight.margin 0)).1 = .claiming)
      ∧ ((withMode .joining tight).requestDraw (tight.margin 0)).1 = .refused
      ∧ (contested.firstEligible = some 1 ∧ contested.urgent 1 = true ∧ .idle ∉ contested.psc.channels
        ∧ (contested.psc.channels.any Channel.isRest) = false ∧ contested.margin 1 < contested.margin 0
        ∧ (contested.comp 0).pulse = some (running 0 4000) ∧ 4000 ≤ (running 0 4000).run) := by decide

theorem witness_EndOfEvent :
    serving.Quiet ∧ serving.psc.drawMoved = false ∧ (serving.drawChanged).psc.drawMoved = true := by
  refine ⟨⟨?_, ?_⟩, ?_, ?_⟩ <;> decide

/-- Each of the five door events, an ajar time and two lapses, on either side. -/
theorem witness_DoorEvents :
    (doorMoves 0 .kitchen false (withDoor 0 .kitchen .released (some .kitchen) serving)).DoorDue 0 .kitchen false
      ∧ (doorMoves 0 .counter false (withDoor 0 .counter .settling (some .counter) serving)).DoorDue 0 .counter false
      ∧ (doorMoves 3 .counter true (withDoor 3 .counter .opened (some .counter) serving)).DoorDue 3 .counter true
      ∧ (doorMoves 3 .kitchen false holding).DoorDue 3 .kitchen false
      ∧ (doorMoves 3 .kitchen true (withDoor 3 .kitchen .opened none serving)).DoorDue 3 .kitchen true
      ∧ (let s := withDoor 0 .kitchen .opened (some .kitchen) serving;
        ((s.door 0).side .kitchen).ajarAt = some 100000 ∧ ((s.door 0).side .kitchen).ajarNoticed = false)
      ∧ ((twoRequests.door 3).kitchenReq = some ⟨.attend, 0, 100000, 4⟩
        ∧ (twoRequests.door 3).counterReq = some ⟨12, 0, 100000, 5⟩ ∧ 100000 ≤ twoRequests.now) := by
  refine ⟨⟨?_, ?_, ?_⟩, ⟨?_, ?_, ?_⟩, ⟨?_, ?_, ?_⟩, ⟨?_, ?_, ?_⟩, ⟨?_, ?_, ?_⟩, ?_, ?_⟩ <;> decide

/-- A hold that ends by the window, by a settle and by RELEASE, with the outcome of each. -/
theorem witness_HoldEnds :
    (let s := withDoor 3 .kitchen .released (some .kitchen) (third loading);
      s.running = true ∧ ((s.door 3).side .kitchen).state = .released
        ∧ ((s.door 3).side .kitchen).windowEnd = some 100000 ∧ 100000 ≤ s.now
        ∧ HoldOutcome (s.holdOver 3 .kitchen) 3 .lapse (((s.holdOver 3 .kitchen).freed 3).notifyKitchen (.loadLapsed 3)))
      ∧ (let s := withDoor 3 .counter .settling (some .counter) (third collecting);
        s.running = true ∧ ((s.door 3).side .counter).state = .settling
          ∧ ((s.door 3).side .counter).settleEnd = some 100000 ∧ s.presence 3 = false
          ∧ HoldOutcome (s.holdOver 3 .counter) 3 (.settled false)
              (((s.holdOver 3 .counter).queueNote (.gone 11 3 .collected)).freed 3))
      ∧ (let s := withDoor 3 .kitchen .released (some .kitchen) (third attending);
        s.takesKitchen ∧ (s.comp 3).state ≠ .faulted ∧ (s.door 3).holder = some .kitchen
          ∧ HoldOutcome (s.clearKitchenPartial.holdOver 3 .kitchen) 3 .released
              { s.clearKitchenPartial.holdOver 3 .kitchen with
                comps := (s.clearKitchenPartial.holdOver 3 .kitchen).comps.modify 3 fun q =>
                  { q with state := .holding, prior := none, wrongCount := id q.wrongCount } })
      ∧ (serving.takesKitchen ∧ serving.Quiet ∧ (serving.door 3).holder ≠ some .kitchen)
      ∧ (({ serving with sul := { serving.sul with service := some .windingDown } } : State).occupiedCount = 0
        ∧ 0 < holding.occupiedCount) := by
  refine ⟨⟨by decide, by decide, by decide, by decide, rfl⟩,
    ⟨by decide, by decide, by decide, by decide, meal, rfl, rfl⟩,
    ⟨⟨by decide, by decide⟩, by decide, by decide, Or.inl ⟨rfl, none, ⟨meal, 50000, due, rfl, rfl, rfl, by decide⟩, rfl⟩⟩,
    ⟨⟨by decide, by decide⟩, ⟨by decide, by decide⟩, by decide⟩, by decide, by decide⟩

/-- Requests that are granted, wait for a holder or for room, and are removed. -/
theorem witness_Reevaluation :
    (let s := State.modDoor 3 (fun d => { d with kitchenReq := some ⟨.attend, 0, 0, 4⟩, counterReq := some ⟨11, 0, 0, 5⟩ })
        (third (held due 11));
      (s.door 3).kitchenReq = some ⟨.attend, 0, 0, 4⟩ ∧ (s.door 3).counterReq = some ⟨11, 0, 0, 5⟩
        ∧ (s.comp 3).state = .holding ∧ (s.comp 3).meal.map Meal.tag = some 11 ∧ (s.door 3).holder = none
        ∧ (s.door 3).bothLatched = true ∧ s.sideCount .kitchen < 4 ∧ s.sideCount .counter < 4)
      ∧ (let s := withDoor 3 .kitchen .opened none twoRequests;
        (s.door 3).kitchenReq.isSome = true ∧ (s.door 3).kitchen.state ≠ .latched)
      ∧ (let s := withDoor 3 .kitchen .released (some .kitchen) twoRequests;
        (s.door 3).counterReq.isSome = true ∧ (s.door 3).holder ≠ none)
      ∧ ((twoRequests.comp 3).state = .free ∧ (twoRequests.door 3).holder = none)
      ∧ twoRequests.requestsOf .counter = [0, 3] ∧ twoRequests.requestsOf .kitchen = [3] := by decide

/-- Every state a fault report may find. -/
theorem witness_FaultReport :
    [CompRec.free, loading, held due 11, collecting, attending, condemned, faulted, { CompRec.free with state := .outOfService },
        { attending with prior := some .condemned, est := none }, { attending with prior := some .faulted, est := none }].map
      (fun r => (((third r).comp 3).state, ((third r).comp 3).prior, decide (3 < (third r).count)))
      = [(.free, none, true), (.loading, none, true), (.holding, none, true), (.collecting, none, true),
        (.attending, some .holding, true), (.condemned, none, true), (.faulted, none, true), (.outOfService, none, true),
        (.attending, some .condemned, true), (.attending, some .faulted, true)] := by decide

/-- Readings at the ends of their range, and reading records on either side of each check. -/
theorem witness_SensorReading :
    (serving.running = true ∧ serving.ssu.start + 250 * serving.ssu.slot ≤ serving.now
        ∧ (serving.ssu.slot - 1) % (serving.count + 1) < serving.count)
      ∧ readingValue (.value 0) = some 0 ∧ readingValue (.value 1200) = some 1200 ∧ readingValue (.value 1201) = none
      ∧ readingValue (.value (-1)) = none
      ∧ (950 < 951 ∧ (holding.comp 0).state = .holding ∧ hotMain.ceiling + 150 < 1001)
      ∧ (let s := holding.modReading 0 fun r => { r with pending := true, reference := some 700, weak := 2, cold := 1 };
        (s.reading 0).pending = true ∧ (s.reading 0).reference = some 700 ∧ 700 + 5 ≤ 705 ∧ 704 < 700 + 5
          ∧ 1 ≤ (s.reading 0).cold ∧ 529 + 100 < hotMain.floor ∧ ¬(530 + 100 < hotMain.floor)
          ∧ (s.door 0).bothLatched = true)
      ∧ (holding.reading 0).cold = 0 ∧ (holding.reading 0).pending = false := by decide

/-- The ambient slot; a first sample, and sensors with no, one and two opposite samples behind them. -/
theorem witness_AmbientAndInputSample :
    (let s := serving.modSsu fun u => { u with slot := 5 };
      s.running = true ∧ s.ssu.start + 250 * s.ssu.slot ≤ s.now ∧ (s.ssu.slot - 1) % (s.count + 1) = s.count)
      ∧ (State.reset.sul.phase ≠ .resetAsserted ∧ State.reset.inputs.next ≤ State.reset.now ∧ State.reset.inputs.recs = [])
      ∧ (serving.inputs.recs ≠ [] ∧ serving.inputs.next ≤ serving.now ∧ serving.inputs.recs[3]? = some closed
        ∧ (List.replicate 4 (default : InputSample))[3]? = some default)
      ∧ ({ value := false, run := 2 } : Debounced).run = 2 := by decide

theorem witness_FrameRoundTrip :
    31 < 32 ∧ 31 ≠ 7 ∧ FrameInRange (serving.drawReport) .draw ∧ FrameInRange (serving.drawReport) (.claim 65535 65535 255)
      ∧ FrameInRange (serving.drawReport) (.gone 999999 31 .removed)
      ∧ FrameInRange (serving.drawReport) (.hello .answer { wc := 65535, wr := 0, wg := 0, n := 255, count := 32 }) := by
  refine ⟨by decide, by decide, ⟨by decide, by decide, ?_, by decide, by decide⟩, ⟨by decide, by decide, by decide⟩,
    ⟨by decide, by decide, by decide⟩, ⟨by decide, by decide, by decide, by decide, by decide, by decide⟩⟩
  intro m h; cases h

/-- A record with no estimate, pulse, meal or probe that is FREE keeps the hold law. -/
theorem holdLaw_free (s : State) : CompRec.free.HoldLaw s := by
  refine ⟨rfl, fun h => absurd h (by decide), fun h => absurd h (by decide), fun e h => ?_, fun m h => ?_,
    fun h => absurd h (by decide)⟩
  · cases h
  · cases h

/-- A state that keeps every law, with a step to take: the witness of the five invariants. -/
theorem witness_invariants :
    holding.DirectoryLaw ∧ holding.TagLaw ∧ holding.InterlockLaw ∧ holding.HeaterLaw ∧ holding.HoldLaw ∧ holding.DrawLaw
      ∧ ∃ t, step holding = .next t := by
  refine ⟨⟨by decide, by decide, by decide, by decide⟩, ?_, ⟨?_, ?_⟩,
    heaterLaw_of_none _ (by decide) (by decide), ⟨?_, ?_, by decide⟩, ⟨by decide, by decide, by decide, trivial, by decide, by decide⟩, ⟨_, rfl⟩⟩
  · unfold State.TagLaw; decide
  · intro d hd
    have : d = DoorRec.closed := by
      have h : ∀ x ∈ holding.doors, x = DoorRec.closed := by decide
      exact h d hd
    subst this
    refine ⟨?_, ?_, ?_⟩
    · unfold SideRec.Law; decide
    · unfold SideRec.Law; decide
    · intro sd; cases sd <;> decide
  · intro sd; cases sd <;> decide
  · unfold State.ClassLaw; decide
  · intro r hr
    have h : r = held due 11 ∨ r = CompRec.free := by
      have h : ∀ x ∈ holding.comps, x = held due 11 ∨ x = CompRec.free := by decide
      exact h r hr
    rcases h with rfl | rfl
    · refine ⟨by decide, by decide, by decide, ?_, ?_, fun h => absurd h (by decide)⟩
      · intro e h; injection h with h; subst h; decide
      · intro m h; injection h with h; subst h; decide
    · exact holdLaw_free _

/-! ## One step of each command -/

theorem test_coldStart :
    (after .coldStart holding).sul = Sul.cold ∧ (after .coldStart holding).comps = []
      ∧ (after .coldStart holding).inputs.next = 100000 := by decide

theorem test_resetAsserted :
    (after .resetAsserted (heated 3000)).sul.phase = .resetAsserted
      ∧ (after .resetAsserted (heated 3000)).outputChain.enables = [false, false, false, false] := by decide

theorem test_configReadDone :
    let t := after (.configReadDone .noAnswer (.data (recordBytes bankOfEight)))
      { State.reset with inputs := { recs := List.replicate 8 closed, next := 20 } }
    t.sul.phase = .running ∧ t.count = 8 ∧ t.lif.mode = some .joining ∧ t.cfg = bankOfEight := by decide +kernel

theorem test_load :
    let t := after (.load 14 11 1234 0 1 30 65535) serving
    (t.comp 0).state = .loading ∧ (t.comp 0).meal = some { meal with limit := 60 } ∧ (t.door 0).holder = some .kitchen
      ∧ (t.door 0).kitchen.windowEnd = some 145000
      ∧ t.kp.tx = some { role := .reply, bytes := (KReply.outcome .accepted (some 0) none).bytes } := by decide +kernel

theorem test_load_refused : (after (.load 14 11 1234 3 1 0 65535) serving).comps = serving.comps := by decide

theorem test_attend :
    let t := after (.attend 4 0) (heated 3000)
    (t.comp 0).state = .attending ∧ (t.comp 0).prior = some .holding ∧ t.psc.channels.head? = some (.rest 102000)
      ∧ (t.comp 0).pulse.map Pulse.state = some .suspended := by decide

theorem test_compartmentReset :
    let t := after (.compartmentReset 4 3) (third faulted)
    (t.comp 3).state = .attending ∧ (t.comp 3).prior = some .faulted ∧ (t.comp 3).fault = some .sensor := by decide

theorem test_release :
    let t := after (.release 4 3) (withDoor 3 .kitchen .released (some .kitchen) (third loading))
    (t.comp 3) = .free ∧ (t.door 3).holder = none ∧ (t.door 3).kitchen = .latchedNew := by decide

theorem test_serviceOut : ((after (.serviceOut 5 2 0) serving).comp 2).state = .outOfService := by decide

theorem test_serviceIn :
    ((after (.serviceIn 5 3 1) (third { CompRec.free with state := .outOfService })).comp 3).state = .free := by decide

theorem test_bankClose :
    (after (.bankClose 3) holding).sul.service = some .windingDown ∧ (after (.bankClose 3) serving).sul.service = some .shut
      ∧ (after (.bankClose 3) serving).lif.drawQueued = true := by decide

theorem test_bankOpen :
    (after (.bankOpen 3) serving).lif.drawQueued = false ∧ (after (.bankOpen 3) serving).sul.service = some .serving := by decide

theorem test_statusCompartment :
    ((after (.statusCompartment 4 0) holding).kp.tx.map fun j => j.bytes.take 8)
      = some (portRecord 65 (State.compStatus holding 0).fields |>.take 8) := by decide +kernel

theorem test_statusStation :
    (serving.stationStatus.headroom, serving.stationStatus.share, serving.stationStatus.livePeers) = (660, 133, 2) := by
  decide

theorem test_clearFaults :
    (after (.clearFaults 3) (serving.modLif fun l => { l with noteLost := true, rxErrors := 9 })).lif = serving.lif := by decide

theorem test_whereTag :
    ((after (.whereTag 6 11) holding).kp.tx.map fun j => j.bytes)
      = some [10#8, 67#8, 0#8, 2#8, 0xFF#8, 0xFF#8, 0xFF#8, 0xFF#8, 0xFF#8, 0xB6#8] := by decide +kernel

theorem test_kitchen_discards :
    (after .kitchenBadRecord (gathering [4#8])).kp.receiver = .empty
      ∧ (after .kitchenGapExpiry { gathering [4#8] with now := 100050 }).kp.receiver = .empty
      ∧ (after .kitchenGapExpiry { gathering [4#8] with now := 100040 }).kp.receiver = (gathering [4#8]).kp.receiver := by decide

/-- R144: a gap is due 50 ms after the last byte, and a byte of that moment goes first (R157). -/
theorem test_gap_due :
    State.gapsDue { gathering [4#8] with now := 100040 } = []
      ∧ State.gapsDue { gathering [4#8] with now := 100050 } = [.kitchenGapExpiry]
      ∧ (sends .kitchen 2#8 { gathering [4#8] with now := 100050 }).nextByte = some (.kitchen, 2#8) := by decide +kernel

/-- R144, R175: a first byte, one that cannot begin a record, one that continues, and the last of BANK CLOSE (3, 6, 247)
with its sum right and wrong. -/
theorem test_kitchen_bytes :
    (stepped (sends .kitchen 3#8 serving)).kp.receiver = { gathered := [3#8], gapEnd := some 100050 }
      ∧ (stepped (sends .kitchen 17#8 serving)).kp.receiver = .empty
      ∧ (stepped (sends .kitchen 6#8 (gathering [3#8]))).kp.receiver = { gathered := [3#8, 6#8], gapEnd := some 100050 }
      ∧ (stepped (sends .kitchen 247#8 (gathering [3#8, 6#8]))).sul.service = some .shut
      ∧ stepped (sends .kitchen 246#8 (gathering [3#8, 6#8])) = serving
      ∧ (sends .kitchen 247#8 (gathering [3#8, 6#8])).rx.kitchen.length = 1 := by decide +kernel

theorem test_kitchenTxDone :
    (after .kitchenTxDone (replying.notifyKitchen .bankShut)).kp.tx
      = some { role := .notice, bytes := [8#8, 96#8, 12#8, 0xFF#8, 0xFF#8, 0xFF#8, 0xFF#8, 0x90#8] } := by decide +kernel

theorem test_collect :
    let t := after (.collect 8 11 1234) holding
    (t.comp 0).state = .collecting ∧ (t.door 0).counter.latchReleased = true ∧ (t.door 0).counter.windowEnd = some 120000 := by
  decide

theorem test_collect_third_wrong_code :
    let t := after (.collect 8 11 9) (third wrongTwice)
    (t.comp 3).wrongCount = 0 ∧ (t.comp 3).lockoutEnd = some 160000 ∧ (t.comp 3).state = .holding := by decide

theorem test_cancel : ((after (.cancel 3) twoRequests).door 3).counterReq = none
    ∧ ((after (.cancel 3) twoRequests).door 0).counterReq ≠ none := by decide

theorem test_counter_discards :
    (after .counterBadRecord (serving.modCp fun p => { p with receiver := ⟨[4#8], some 100000⟩ })).cp.receiver = .empty
      ∧ (after .counterGapExpiry (serving.modCp fun p => { p with receiver := ⟨[4#8], some 100000⟩ })).cp.receiver = .empty
      ∧ (stepped (sends .counter 3#8 serving)).cp.receiver = { gathered := [3#8], gapEnd := some 100050 }
      ∧ (after .counterTxDone replying).cp.tx = none := by decide

/-- R158, R164: the end of the reply's transmission ends the busy time though a BUSY reply follows, and a CANCEL completed
then is taken; one completed before is discarded behind the BUSY reply that waits. -/
theorem test_counter_free_after_reply :
    let s := replying.modCp fun p => { p with busyReply := some 1 }
    (after .counterTxDone s).counterBusy = false
      ∧ (after (.cancel 3) (after .counterTxDone s)).cp.replies = [⟨.nothingPending, none⟩]
      ∧ (after (.cancel 3) s).cp = s.cp := by decide

/-- R168: in CONFIG_FAULT a record on either port is answered FAULT, also while a reply is being sent. -/
theorem test_configFault_every_record :
    let s : State := { replying with sul := { Sul.cold with phase := .configFault .sum } }
    (after (.cancel 3) s).cp.replies = [⟨.fault, some FaultCause.sum.code⟩]
      ∧ (after (.bankClose 3) s).kp.replies = [.outcome .fault none (some FaultCause.sum.code)] := by decide

theorem test_lockoutEnd : ((after (.lockoutEnd 3) (third lockedOut)).comp 3).lockoutEnd = none := by decide

/-- UNKNOWN (R111): outcome 9 with no argument. -/
theorem test_lookupWaitEnd :
    (after .lookupWaitEnd waiting).cdir.lookup = none
      ∧ (after .lookupWaitEnd waiting).cp.tx.map TxJob.bytes = some [6#8, 80#8, 9#8, 0xFF#8, 0xFF#8, 0xA3#8] := by
  decide +kernel

theorem test_attemptStart :
    let t := after .attemptStart (serving.modLif fun l => { l with queue := [{ frame := .query 11, age := 3 }] })
    t.lif.queue = [] ∧ t.lif.enable = true ∧ t.lif.buffer.map Buffered.frame = some (.query 11) := by decide +kernel

theorem test_attemptLost :
    (after .attemptLost (withBuffer (.query 11) serving)).lif.queue.map Queued.frame = [.query 11] := by decide

theorem test_attemptFailed :
    (after .attemptFailed (silent .court)).lif.mode = some .isolated ∧ (after .attemptFailed (silent .court)).lif.failed = 0
      ∧ (after .attemptFailed (withBuffer .draw serving)).lif.failed = 1 := by decide

theorem test_attemptCompleted :
    (after .attemptCompleted ((withBuffer (.claim 35 10 0) serving).modDsu fun d => { d with claim := .queued 35 10 0 })).dsu.claim
      = .window 35 10 0 100000 100250 := by decide

theorem test_frames_that_go_no_further :
    (after (.frameDiscarded .crc) serving).lif.rxErrors = 1 ∧ (after (.frameDiscarded .content) serving).lif.rejoin = true
      ∧ (after (.unknownKindFrame 1) serving).lif.rxErrors = 0 := by decide

theorem test_ownAddressFrame :
    (after .ownAddressFrame holding).lif.mode = some .mismatchedClash
      ∧ (after .ownAddressFrame holding).lif.queue.map Queued.frame = [.draw] := by decide

theorem test_claimFrame :
    ((after (.claimFrame 1 40 10 7) serving).peer 1).claim
      = some { amount := 35, margin := 10, sequence := 7, heard := 100000 } := by decide

theorem test_drawFrame :
    let e := (after (.drawFrame 2 0 1 105 35 65535 3 4) serving).peer 2
    (e.draw, e.margin, e.due, e.line, e.live) = (some 105, none, some 3, some .court, true) := by decide

theorem test_goneFrame :
    (after (.goneFrame 1 12 0 0) { serving with cdir := { entries := [⟨12, 1, 0, 0, 99000⟩, ⟨12, 2, 0, 0, 99000⟩], lookup := none } }).cdir.entries
      = [⟨12, 2, 0, 0, 99000⟩] := by decide

theorem test_stowedFrame :
    (after (.stowedFrame 1 99 2 0) waiting).cdir = { entries := [⟨99, 1, 2, 0, 100000⟩], lookup := none } := by decide +kernel

theorem test_queryFrame :
    (after (.queryFrame 1 11) holding).lif.queue.map Queued.frame = [.stowed 11 0 0] := by decide

theorem test_helloFresh :
    (after (.helloFresh 1 900 70 30 6 8) serving).peer 1 = { PeerEntry.empty 1 with heard := some 100000, live := true } := by
  decide

theorem test_helloAnswer :
    (after (.helloAnswer 1 900 70 31 6 8) serving).lif.peerMismatch = true
      ∧ ((after (.helloAnswer 1 900 70 31 6 8) serving).peer 1).draw = some 70 := by decide +kernel

theorem test_drawTimerExpiry :
    (after .drawTimerExpiry (serving.modLif fun l => { l with drawAt := some 99990 })).lif.drawAt = some 100990
      ∧ (after .drawTimerExpiry (serving.modLif fun l => { l with drawAt := some 99990 })).lif.drawQueued = true := by decide

theorem test_silenceTimerExpiry : (after .silenceTimerExpiry (silent .joining)).lif.mode = some .isolated := by decide

theorem test_joiningTimerExpiry :
    (after .joiningTimerExpiry (serving.modLif fun l => { l with mode := some .joining, joiningAt := some 100000 })).lif.mode
      = some .court := by decide +kernel

theorem test_entryLapse :
    (after (.entryLapse 1) serving).peerDraw = 70 ∧ ((after (.entryLapse 1) serving).peer 1).draw = some 70 := by decide

theorem test_claimWindowEnd :
    (after .claimWindowEnd (holding.modDsu fun d => { d with claim := .window 35 40 0 99750 100000 })).psc.channels.head?
      = some (.on 0) := by decide

theorem test_lostBackoffEnd :
    (after .lostBackoffEnd (serving.modDsu fun d => { d with lostUntil := some 100000 })).dsu.lostUntil = none := by decide

theorem test_overrunHoldEnd :
    (after .overrunHoldEnd (serving.modDsu fun d => { d with overrunUntil := some 100000 })).dsu.overrunUntil = none := by decide

/-- 670 is raised by 5 and lowered by 1. -/
theorem test_decayStep :
    ((after (.decayStep 0) holding).comp 0).est.map (fun e => (e.temp, e.steps, e.uncredited, e.decayAt))
      = some (674, 5, 0, 110000) := by decide

theorem test_decayStep_condemns :
    (after (.decayStep 0) (withComp 0 (held { due with temp := 630, uncredited := 0 } 11) serving)).comp 0
      = { held due 11 with state := .condemned, est := none, condemn := some .cold } := by decide

theorem test_holdLimitExpiry :
    ((after (.holdLimitExpiry 0) (withComp 0 (held { due with limitAt := some 100000 } 11) serving)).comp 0).condemn
      = some .expired := by decide

/-- The meal is still due at 675, so the attempt that follows heats it anew, on channel 1. -/
theorem test_pulseEnd :
    let t := after (.pulseEnd 0) (heated 30000)
    (t.comp 0).pulse.map Pulse.state = some (.running 1) ∧ t.psc.channels.head? = some (.rest 102000) ∧ (t.comp 0).est.map Estimate.temp = some 675 := by
  decide

theorem test_channelRestEnd :
    (after (.channelRestEnd 3) { serving with psc := { Psc.cold with channels := [.idle, .idle, .idle, .rest 100000] } }).psc.channels
      = [.idle, .idle, .idle, .idle] := by decide

/-- The start attempt at the stagger's end heats compartment 0 for 30 s on channel 0. -/
theorem test_staggerEnd :
    let t := after .staggerEnd { holding with psc := { Psc.cold with lastActivation := some 99500, staggerOn := true } }
    t.psc.channels = [.on 0, .idle, .idle, .idle] ∧ t.psc.lastActivation = some 100000 ∧ t.draw = 35
      ∧ (t.comp 0).pulse = some { state := .running 0, planned := 30000, run := 0, start := 100000 } := by decide

theorem test_doorOpened :
    let t := after (.doorOpened 0 .kitchen) (doorMoves 0 .kitchen false (withDoor 0 .kitchen .released (some .kitchen) serving))
    (t.door 0).kitchen.state = .opened ∧ (t.door 0).kitchen.latchReleased = true
      ∧ (t.door 0).kitchen.ajarAt = some 220000 ∧ t.doorValue 0 .kitchen = true := by decide

theorem test_doorReopened :
    let t := after (.doorReopened 0 .counter) (doorMoves 0 .counter false (withDoor 0 .counter .settling (some .counter) serving))
    (t.door 0).counter.state = .opened ∧ (t.door 0).counter.latchReleased = false
      ∧ (t.door 0).counter.ajarAt = some 160000 := by decide

theorem test_doorClosed :
    let t := after (.doorClosed 3 .counter) (doorMoves 3 .counter true (withDoor 3 .counter .opened (some .counter) serving))
    (t.door 3).counter.state = .settling ∧ (t.door 3).counter.settleEnd = some 101000 := by decide

theorem test_doorForced :
    let t := after (.doorForced 0 .kitchen) (doorMoves 0 .kitchen false holding)
    (t.comp 0).state = .condemned ∧ (t.comp 0).condemn = some .forced ∧ (t.door 0).kitchen.state = .opened
      ∧ (t.door 0).kitchen.latchReleased = false := by decide +kernel

theorem test_forcedDoorClosed :
    ((after (.forcedDoorClosed 3 .kitchen) (doorMoves 3 .kitchen true (withDoor 3 .kitchen .opened none serving))).door 3).kitchen
      = .latchedNew := by decide

theorem test_releaseWindowLapse :
    let t := after (.releaseWindowLapse 3 .kitchen) (withDoor 3 .kitchen .released (some .kitchen) (third loading))
    t.comp 3 = .free ∧ (t.door 3).holder = none ∧ t.kp.tx.isSome = true := by decide +kernel

theorem test_ajarTime :
    ((after (.ajarTime 0 .counter) (withDoor 0 .counter .opened (some .counter) serving)).door 0).counter.ajarNoticed = true := by
  decide +kernel

/-- A meal that stays inside starts its hold; one that is gone frees its compartment. -/
theorem test_settleEnd :
    let s := withDoor 3 .kitchen .settling (some .kitchen) (third loading)
    ((after (.settleEnd 3 .kitchen) s).comp 3) = .free
      ∧ (let u := { s with inputs := { s.inputs with recs := List.replicate 4 { closed with presence := { value := true, run := 0 } } } };
        ((after (.settleEnd 3 .kitchen) u).comp 3).state = .holding
          ∧ ((after (.settleEnd 3 .kitchen) u).comp 3).est.map Estimate.temp = some 700
          ∧ (after (.settleEnd 3 .kitchen) u).lif.queue.map Queued.frame = [.stowed 11 3 0]) := by decide

theorem test_waitLapse :
    ((after (.waitLapse 3 .kitchen) twoRequests).door 3).kitchenReq = none
      ∧ ((after (.waitLapse 3 .counter) twoRequests).door 3).counterReq = none := by decide +kernel

/-- Slot 1 is compartment 0: a second invalid reading in a row, and an overheat. -/
theorem test_sensorReading :
    let s := holding.modReading 0 fun r => { r with invalid := 1 }
    ((after (.sensorReading .noAnswer) s).comp 0).fault = some .sensor
      ∧ ((after (.sensorReading (.value 951)) s).comp 0).fault = some .overheat
      ∧ ((after (.sensorReading (.value 950)) s).reading 0).last = some 950 := by decide +kernel

theorem test_ambientReading :
    (after (.ambientReading (.value 300)) (serving.modSsu fun u => { u with slot := 5 })).ssu.ambient = 300
      ∧ (after (.ambientReading (.value 1201)) (serving.modSsu fun u => { u with slot := 5 })).ssu.ambientHeld = true := by decide

theorem test_inputChainSample :
    (after (.inputChainSample [⟨true, false, true⟩]) State.reset).inputs.recs
        = [{ kitchen := ⟨true, 0⟩, counter := ⟨false, 0⟩, presence := ⟨true, 0⟩ }]
      ∧ ((after (.inputChainSample (List.replicate 4 ⟨true, false, true⟩)) serving).inputs.recs.map InputRec.kitchen).head?
          = some ⟨false, 1⟩ := by decide

theorem test_unknown_kinds :
    (after (.kitchenUnknownKind 77) serving).kp.tx.map TxJob.bytes = some [6#8, 64#8, 5#8, 0xFF#8, 0xFF#8, 0xB7#8]
      ∧ (after (.counterUnknownKind 9) serving).cp.tx.map TxJob.bytes
          = some [6#8, 80#8, 13#8, 0xFF#8, 0xFF#8, 0x9F#8] := by decide +kernel

end Sys2Proof.Tests
end

section
/-! SUPPORT. Updates of one compartment record, and what a seize and a suspension do beside the Kitchen Port. -/

namespace Sys2Proof.Machine

variable (s : State)

/-! ## Updates of one compartment record -/

/-- Two updates of a record that agree on it are the same update of the state. -/
theorem modComp_congr (c : Nat) (f g : CompRec → CompRec) (h : f (s.comp c) = g (s.comp c)) :
    s.modComp c f = s.modComp c g := by
  have hmodify : s.comps.modify c f = s.comps.modify c g := by
    apply List.ext_getElem?
    intro n
    simp only [List.getElem?_modify]
    cases hn : s.comps[n]? with
    | none => rfl
    | some r =>
      by_cases hcn : c = n
      · subst hcn
        have hr : s.comp c = r := by simp [State.comp, List.getD_eq_getElem?_getD, hn]
        simp [← hr, h]
      · simp [hcn]
  unfold State.modComp
  rw [hmodify]

/-- An update that keeps the meal is not seen by a read of it. -/
theorem meal_modComp (c d : Nat) (f : CompRec → CompRec) (hf : ∀ r, (f r).meal = r.meal) :
    ((s.modComp c f).comp d).meal = (s.comp d).meal := by
  rw [comp_modComp]
  split
  · exact hf _
  · rfl

theorem meal_dropHold (c d : Nat) : ((s.dropHold c).comp d).meal = (s.comp d).meal :=
  meal_of_table (dropHold_table s c) d

theorem runningPulse_modComp (c d : Nat) (f : CompRec → CompRec) (hf : ∀ r, (f r).pulse = r.pulse) :
    (s.modComp c f).runningPulse d = s.runningPulse d := by
  unfold State.runningPulse
  rw [comp_modComp]
  split
  · rw [hf]
  · rfl

theorem runningPulse_withSeize (c d : Nat) (sd : Side) : (s.withSeize c sd).runningPulse d = s.runningPulse d := rfl

/-! ## Seizes and suspensions (R56, R116) -/

theorem suspend_of_not_running (c : Nat) (h : s.runningPulse c = none) : s.suspend c = s := by
  simp [State.suspend, h]

/-- The Door Arbiter grants a seize exactly where it finds room. -/
theorem seizeAnswer_eq_granted_iff (c : Nat) (sd : Side) : s.seizeAnswer c sd = .granted ↔ s.roomFor c sd := by
  change _ ↔ _ ∧ _ ∧ _ ∧ s.sideCount sd < Config.sideLimit
  unfold State.seizeAnswer
  cases (s.door c).holder with
  | none => simp [DoorRec.bothLatched, and_assoc]
  | some h => by_cases hsd : h = sd <;> simp [hsd]

/-- A granted seize, in the words of Safety.lean. -/
theorem grantSeize_eq (c : Nat) (sd : Side) : s.grantSeize c sd = (s.withSeize c sd).suspend c := by
  cases sd <;> rfl

theorem release_modKp (c : Nat) (f : KitchenPort → KitchenPort) : (s.modKp f).release c = (s.release c).modKp f := by
  unfold State.release
  change (if s.connected c = true then _ else _) = _
  split <;> rfl

theorem setEst_modKp (c : Nat) (e : Option Estimate) (f : KitchenPort → KitchenPort) :
    (s.modKp f).setEst c e = (s.setEst c e).modKp f := by
  simp only [State.setEst]
  change (if queueEntry (s.comp c).est = queueEntry e then _ else _) = _
  split <;> rfl

theorem creditPoint_modKp (c : Nat) (f : KitchenPort → KitchenPort) :
    (s.modKp f).creditPoint c = (s.creditPoint c).modKp f := by
  have hcomp : (s.modKp f).comp c = s.comp c := rfl
  unfold State.creditPoint
  rw [hcomp]
  cases (s.comp c).est with
  | none => rfl
  | some e => exact setEst_modKp s c _ f

theorem endPulse_modKp (c : Nat) (p : Pulse) (f : KitchenPort → KitchenPort) :
    (s.modKp f).endPulse c p = (s.endPulse c p).modKp f := by
  unfold State.endPulse
  rw [release_modKp, creditPoint_modKp]
  rfl

theorem suspendPulse_modKp (c : Nat) (p : Pulse) (f : KitchenPort → KitchenPort) :
    (s.modKp f).suspendPulse c p = (s.suspendPulse c p).modKp f := by
  unfold State.suspendPulse
  rw [endPulse_modKp, release_modKp, creditPoint_modKp]
  split <;> rfl

/-- A suspension and a change of the Kitchen Port do not touch each other. -/
theorem suspend_modKp (c : Nat) (f : KitchenPort → KitchenPort) : (s.modKp f).suspend c = (s.suspend c).modKp f := by
  have hrun : (s.modKp f).runningPulse c = s.runningPulse c := rfl
  unfold State.suspend
  rw [hrun]
  cases s.runningPulse c with
  | none => rfl
  | some p => exact suspendPulse_modKp s c p f

theorem suspend_clearKitchenPartial (c : Nat) :
    s.clearKitchenPartial.suspend c = (s.suspend c).clearKitchenPartial := suspend_modKp s c _

end Sys2Proof.Machine
end

section
/-! SUPPORT. Which compartment a LOAD is given (R4): what each scan of the free set finds. -/

namespace Sys2Proof.Machine

/-! ## Scans of an interval of indices -/

/-- A scan in reverse finds the highest index of the interval that `p` picks. -/
theorem find?_reverse_range'_eq_some_iff (p : Nat → Bool) (a n c : Nat) :
    (List.range' a n).reverse.find? p = some c
      ↔ a ≤ c ∧ c < a + n ∧ p c = true ∧ ∀ d, c < d → d < a + n → p d = false := by
  induction n with
  | zero => simp; omega
  | succ n ih =>
    rw [List.range'_concat, List.reverse_append, List.reverse_singleton, List.singleton_append, List.find?_cons,
      Nat.one_mul]
    cases hp : p (a + n) with
    | true =>
      constructor
      · rintro ⟨⟩
        exact ⟨by omega, by omega, hp, fun d h1 h2 => absurd h1 (by omega)⟩
      · rintro ⟨h1, h2, -, hlast⟩
        by_contra hne
        have hlt : c < a + n := by
          have : a + n ≠ c := fun h => hne (by rw [h])
          omega
        simp [hlast (a + n) hlt (by omega)] at hp
    | false =>
      refine ih.trans ⟨?_, ?_⟩
      · rintro ⟨h1, h2, h3, hlast⟩
        refine ⟨h1, by omega, h3, fun d hd hd2 => ?_⟩
        by_cases hdn : d = a + n
        · rw [hdn, hp]
        · exact hlast d hd (by omega)
      · rintro ⟨h1, h2, h3, hlast⟩
        have hc : c ≠ a + n := fun h => by simp [h, hp] at h3
        exact ⟨h1, by omega, h3, fun d hd hd2 => hlast d hd (by omega)⟩

variable (s : State)

theorem inFreeSet_iff (c : Nat) :
    s.inFreeSet c = true
      ↔ (s.comp c).state = .free ∧ (s.door c).kitchen.state = .latched ∧ (s.door c).counter.state = .latched := by
  simp [State.inFreeSet, DoorRec.bothLatched]

theorem lowestFree_eq_some_iff (a n c : Nat) :
    s.lowestFree a n = some c
      ↔ a ≤ c ∧ c < a + n ∧ s.inFreeSet c = true ∧ ∀ d, a ≤ d → d < c → s.inFreeSet d = false := by
  simp only [State.lowestFree, List.find?_range'_eq_some, List.mem_range'_1, Bool.not_eq_true']
  tauto

theorem lowestFree_eq_none_iff (a n : Nat) :
    s.lowestFree a n = none ↔ ∀ d, a ≤ d → d < a + n → s.inFreeSet d = false := by
  simp [State.lowestFree]

theorem highestFree_eq_some_iff (a n c : Nat) :
    s.highestFree a n = some c
      ↔ a ≤ c ∧ c < a + n ∧ s.inFreeSet c = true ∧ ∀ d, c < d → d < a + n → s.inFreeSet d = false :=
  find?_reverse_range'_eq_some_iff _ _ _ _

theorem highestFree_eq_none_iff (a n : Nat) :
    s.highestFree a n = none ↔ ∀ d, a ≤ d → d < a + n → s.inFreeSet d = false := by
  simp [State.highestFree]

/-! ## The two kinds of LOAD -/

/-- A reach LOAD takes what the scan of the span finds, else what the scan outside it finds. -/
theorem allocate_reach_eq_some_iff (c : Nat) :
    s.allocate true = some c
      ↔ s.lowestFree 0 s.cfg.reach = some c
        ∨ (s.lowestFree 0 s.cfg.reach = none ∧ s.lowestFree s.cfg.reach (s.count - s.cfg.reach) = some c) := by
  simp only [State.allocate, if_true]
  cases s.lowestFree 0 s.cfg.reach <;> simp

/-- An ordinary LOAD takes what the scan outside the span finds, else, while more than three span compartments are
free, what the scan of the span finds. -/
theorem allocate_ordinary_eq_some_iff (c : Nat) :
    s.allocate false = some c
      ↔ s.highestFree s.cfg.reach (s.count - s.cfg.reach) = some c
        ∨ (s.highestFree s.cfg.reach (s.count - s.cfg.reach) = none
          ∧ 3 < (List.range s.cfg.reach).countP s.inFreeSet ∧ s.highestFree 0 s.cfg.reach = some c) := by
  simp only [State.allocate, Bool.false_eq_true, if_false]
  cases s.highestFree s.cfg.reach (s.count - s.cfg.reach) <;> simp

end Sys2Proof.Machine
end

section
/-! SUPPORT. What a LOAD comes to (R3, R6): the refusal of its first failing check, NO_SPACE, or acceptance. -/

namespace Sys2Proof.Machine

variable (s : State)

theorem loadForm_eq_kitchenFormOk (len tag code cls reach limit probe : Nat) :
    loadForm len tag code cls reach limit probe = kitchenFormOk 1 (.load len tag code cls reach limit probe) := by
  simp only [loadForm, tagOk, codeOk, kitchenFormOk, recordLength, kitchenLength, kitchenFieldsOk, Bool.and_assoc]

/-- The admission test in line mode `m`: MISMATCHED refuses, else the required share is held against the limit of the
mode. -/
theorem admission_of_mode {m : LineMode} (hm : s.lif.mode = some m) (cls : Nat) :
    s.admission cls = if m = .mismatchedParameters ∨ m = .mismatchedClash then some .courtFault
      else if (if m = .isolated then s.cfg.isolated else s.cfg.share) < s.requiredShare cls then some .heatFull
      else none := by
  have hflip (a b : Nat) :
      (if a ≤ b then none else some KOutcome.heatFull) = if b < a then some .heatFull else none := by
    simp only [← not_le, ite_not]
  unfold State.admission
  rw [hm]
  cases m with
  | joining => exact hflip _ _
  | court => exact hflip _ _
  | isolated => exact hflip _ _
  | mismatchedParameters => rfl
  | mismatchedClash => rfl

theorem loadProbe_any_lt (probe floor : Nat) :
    ((loadProbe probe).any fun p => p < floor) = decide (probe ≠ 65535 ∧ probe < floor) := by
  unfold loadProbe
  by_cases h : probe = 65535
  · rw [if_pos h]
    exact (decide_eq_false fun hcool => hcool.1 h).symm
  · rw [if_neg h]
    exact decide_eq_decide.mpr ⟨fun hlt => ⟨h, hlt⟩, And.right⟩

/-- The checks of R3 after the form are those of `loadRefusal`, with the allocation as the last. -/
theorem loadChecks_eq {m : LineMode} (hm : s.lif.mode = some m) {len tag code cls reach limit probe : Nat}
    (hform : kitchenFormOk 1 (.load len tag code cls reach limit probe) = true) (span : Bool) :
    s.loadChecks tag cls span (loadProbe probe)
      = match s.loadRefusal m len tag code cls reach limit probe with
        | some o => .error o
        | none =>
          match s.allocate span with
          | none => .error .noSpace
          | some c => .ok c := by
  unfold State.loadChecks State.loadRefusal
  rw [hform, admission_of_mode s hm, loadProbe_any_lt, State.findTag, List.findIdx?_isSome]
  simp only [Bool.not_true, Bool.false_eq_true, if_false, decide_eq_true_eq, State.requiredShare, Config.sideLimit]
  cases s.allocate span with
  | none => split_ifs <;> simp [*]
  | some c => split_ifs <;> simp [*]

/-- What a LOAD comes to: the refusal of its first failing check, NO_SPACE where no compartment is found, else
acceptance. -/
theorem decideLoad_eq {m : LineMode} (hm : s.lif.mode = some m) (len tag code cls reach limit probe : Nat) :
    s.decideLoad len tag code cls reach limit probe
      = match s.loadRefusal m len tag code cls reach limit probe with
        | some o => s.outcomeKitchen o none none
        | none =>
          match s.allocate (reach = 1) with
          | none => s.outcomeKitchen .noSpace none none
          | some c =>
            (s.acceptLoad c tag code cls limit (loadProbe probe)).outcomeKitchen .accepted (some c) none := by
  unfold State.decideLoad
  rw [loadForm_eq_kitchenFormOk]
  cases hform : kitchenFormOk 1 (.load len tag code cls reach limit probe) with
  | false => simp [State.loadRefusal, hform]
  | true =>
    rw [loadChecks_eq s hm hform]
    cases s.loadRefusal m len tag code cls reach limit probe with
    | some o => rfl
    | none => cases s.allocate (reach = 1) <;> rfl

/-- R6: an accepted LOAD of a compartment that no pulse heats, in the words of Safety.lean. -/
theorem acceptLoad_eq {c : Nat} (hidle : s.runningPulse c = none) (tag code cls limit : Nat) (probe : Option Nat) :
    s.acceptLoad c tag code cls limit probe
      = State.withSeize c .kitchen (s.modComp c fun r =>
          { r with
            state := .loading,
            meal := some { tag := tag, code := code, cls := cls,
                           limit := if limit = 0 then (s.cls cls).maxHold
                                    else min (s.cls cls).maxHold (max 60 limit) },
            probe := probe, wrongCount := 0, lockoutEnd := none }) := by
  unfold State.acceptLoad
  rw [grantSeize_eq]
  apply suspend_of_not_running
  rw [runningPulse_withSeize, runningPulse_modComp]
  · exact hidle
  · exact fun _ => rfl

/-- A LOAD that is taken is decided by `decideLoad`. -/
theorem exec_load (hk : s.takesKitchen) (len tag code cls reach limit probe : Nat) :
    exec (.load len tag code cls reach limit probe) s
      = .next (s.clearKitchenPartial.decideLoad len tag code cls reach limit probe).close :=
  congrArg Host.Outcome.next (takeKitchen_taken s 1 _ hk)

theorem exec_load_refused (hk : s.takesKitchen) (hq : s.Quiet) {m : LineMode} (hm : s.lif.mode = some m)
    {len tag code cls reach limit probe : Nat} {o : KOutcome}
    (ho : s.loadRefusal m len tag code cls reach limit probe = some o) :
    exec (.load len tag code cls reach limit probe) s = .next (s.kitchenAnswered (.outcome o none none)) := by
  have ho' : s.clearKitchenPartial.loadRefusal m len tag code cls reach limit probe = some o := ho
  rw [exec_load s hk, decideLoad_eq s.clearKitchenPartial hm, ho']
  exact congrArg Host.Outcome.next (close_replyKitchen s _ hq)

theorem exec_load_noSpace (hk : s.takesKitchen) (hq : s.Quiet) {m : LineMode} (hm : s.lif.mode = some m)
    {len tag code cls reach limit probe : Nat}
    (ho : s.loadRefusal m len tag code cls reach limit probe = none) (ha : s.allocate (reach = 1) = none) :
    exec (.load len tag code cls reach limit probe) s = .next (s.kitchenAnswered (.outcome .noSpace none none)) := by
  have ho' : s.clearKitchenPartial.loadRefusal m len tag code cls reach limit probe = none := ho
  have ha' : s.clearKitchenPartial.allocate (reach = 1) = none := ha
  rw [exec_load s hk, decideLoad_eq s.clearKitchenPartial hm, ho', ha']
  exact congrArg Host.Outcome.next (close_replyKitchen s _ hq)

theorem exec_load_accepted (hk : s.takesKitchen) {m : LineMode} (hm : s.lif.mode = some m)
    {len tag code cls reach limit probe c : Nat}
    (ho : s.loadRefusal m len tag code cls reach limit probe = none) (ha : s.allocate (reach = 1) = some c) :
    exec (.load len tag code cls reach limit probe) s
      = .next (State.close ((s.clearKitchenPartial.acceptLoad c tag code cls limit (loadProbe probe)).outcomeKitchen
          .accepted (some c) none)) := by
  have ho' : s.clearKitchenPartial.loadRefusal m len tag code cls reach limit probe = none := ho
  have ha' : s.clearKitchenPartial.allocate (reach = 1) = some c := ha
  rw [exec_load s hk, decideLoad_eq s.clearKitchenPartial hm, ho', ha']

end Sys2Proof.Machine
end

section
/-! SUPPORT. The kitchen requests that name a compartment: ATTEND, COMPARTMENT RESET and SERVICE (R12, R19, R123). -/

namespace Sys2Proof.Machine

variable (s : State)

/-! ## Requests that name a compartment (R147) -/

/-- A request of right form, for a fitted compartment that no check of R20 refuses, is decided. -/
theorem onCompartment_passed {c : Nat} (hc : c < s.count) (kind len : Nat) {faultedCheck : Bool}
    (hf : faultedCheck = true → (s.comp c).state ≠ .faulted) (decide : State → State) :
    s.onCompartment kind len len c true faultedCheck decide = decide s := by
  unfold State.onCompartment
  rw [if_neg (by simp), if_neg (Nat.not_le.mpr hc), if_neg]
  simpa using hf

/-- The same of a record that the port takes: `decide` and the end of the event are all that happens. -/
theorem takeKitchen_onCompartment (hk : s.takesKitchen) {c : Nat} (hc : c < s.count) (kind len : Nat)
    {faultedCheck : Bool} (hf : faultedCheck = true → (s.comp c).state ≠ .faulted) (decide : State → State) :
    s.takeKitchen kind (State.onCompartment kind len len c true faultedCheck decide)
      = (decide s.clearKitchenPartial).close := by
  have hc' : c < s.clearKitchenPartial.count := hc
  rw [takeKitchen_taken s kind _ hk, onCompartment_passed s.clearKitchenPartial hc' kind len hf]

theorem unlessStored_stored {c : Nat} (h : (s.door c).kitchenReq ≠ none) (decide : State → State) :
    s.unlessStored c decide = s.outcomeKitchen .busy (some c) none :=
  if_pos (Option.isSome_iff_ne_none.mpr h)

theorem unlessStored_none {c : Nat} (h : (s.door c).kitchenReq = none) (decide : State → State) :
    s.unlessStored c decide = decide s :=
  if_neg (by simp [h])

theorem exec_attend (hk : s.takesKitchen) {c : Nat} (hc : c < s.count) (hf : (s.comp c).state ≠ .faulted) :
    exec (.attend 4 c) s = .next (s.clearKitchenPartial.unlessStored c (State.decideAttend c)).close :=
  congrArg Host.Outcome.next (takeKitchen_onCompartment s hk hc 2 4 (fun _ => hf) _)

theorem exec_compartmentReset (hk : s.takesKitchen) {c : Nat} (hc : c < s.count) :
    exec (.compartmentReset 4 c) s = .next (s.clearKitchenPartial.unlessStored c (State.decideReset c)).close :=
  congrArg Host.Outcome.next (takeKitchen_onCompartment s hk hc 5 4 (by simp) _)

/-! ## ATTEND and COMPARTMENT RESET (R12) -/

/-- R12: entry to ATTENDING from a state with prior state `p`. -/
theorem enterAttending_eq {c : Nat} {p : Prior} (hp : (s.comp c).state.asPrior = some p) :
    s.enterAttending c
      = State.suspend c
          (State.withSeize c .kitchen (s.modComp c fun r => { r with state := .attending, prior := some p })) := by
  unfold State.enterAttending
  rw [grantSeize_eq, modComp_congr s c _ fun r => { r with state := .attending, prior := some p }]
  rw [hp]

/-- The entry to ATTENDING does not touch the receiver of the Kitchen Port. -/
theorem enterAttending_clearKitchenPartial {c : Nat} {p : Prior} (hp : (s.comp c).state.asPrior = some p) :
    s.clearKitchenPartial.enterAttending c
      = State.clearKitchenPartial (State.suspend c
          (State.withSeize c .kitchen (s.modComp c fun r => { r with state := .attending, prior := some p }))) := by
  have hp' : (s.clearKitchenPartial.comp c).state.asPrior = some p := hp
  rw [enterAttending_eq _ hp']
  exact suspend_clearKitchenPartial
    (State.withSeize c .kitchen (s.modComp c fun r => { r with state := .attending, prior := some p })) c

/-- ATTEND is decided by the seize in a HOLDING or CONDEMNED compartment without holder. -/
theorem decideAttend_seizes {c : Nat} (hst : (s.comp c).state = .holding ∨ (s.comp c).state = .condemned)
    (hh : (s.door c).holder = none) : s.decideAttend c = s.seizeKitchen c := by
  unfold State.decideAttend
  rcases hst with hst | hst <;> simp [hst, hh]

/-- ATTEND is remembered while a passenger is served. -/
theorem decideAttend_waits {c : Nat} (h : (s.comp c).state = .collecting ∨ (s.door c).holder = some .counter) :
    s.decideAttend c = s.waitKitchen c .attend := by
  simp [State.decideAttend, h]

theorem decideAttend_refused {c : Nat}
    (hst : (s.comp c).state ≠ .collecting ∧ (s.comp c).state ≠ .holding ∧ (s.comp c).state ≠ .condemned)
    (hh : (s.door c).holder ≠ some .counter) : s.decideAttend c = s.stateRefusal c := by
  obtain ⟨hcollecting, hholding, hcondemned⟩ := hst
  simp [State.decideAttend, hcollecting, hholding, hcondemned, hh]

/-- COMPARTMENT RESET is decided by the seize in a FAULTED compartment without holder. -/
theorem decideReset_seizes {c : Nat} (hst : (s.comp c).state = .faulted) (hh : (s.door c).holder = none) :
    s.decideReset c = s.seizeKitchen c := by
  simp [State.decideReset, hst, hh]

theorem decideReset_waits {c : Nat} (hst : (s.comp c).state = .faulted) (hh : (s.door c).holder = some .counter) :
    s.decideReset c = s.waitKitchen c .reset := by
  simp [State.decideReset, hst, hh]

theorem decideReset_refused {c : Nat} (h : (s.comp c).state ≠ .faulted ∨ (s.door c).holder = some .kitchen) :
    s.decideReset c = s.stateRefusal c := by
  unfold State.decideReset
  split
  · rename_i hst
    simp [h.resolve_left (not_not_intro hst)]
  · rfl

/-- ATTEND past the common checks, with no request stored. -/
theorem exec_attend_decided (hk : s.takesKitchen) {c : Nat} (hc : c < s.count) (hf : (s.comp c).state ≠ .faulted)
    (hreq : (s.door c).kitchenReq = none) :
    exec (.attend 4 c) s = .next (s.clearKitchenPartial.decideAttend c).close := by
  have hreq' : (s.clearKitchenPartial.door c).kitchenReq = none := hreq
  rw [exec_attend s hk hc hf, unlessStored_none _ hreq']

/-- COMPARTMENT RESET past the common checks, with no request stored. -/
theorem exec_compartmentReset_decided (hk : s.takesKitchen) {c : Nat} (hc : c < s.count)
    (hreq : (s.door c).kitchenReq = none) :
    exec (.compartmentReset 4 c) s = .next (s.clearKitchenPartial.decideReset c).close := by
  have hreq' : (s.clearKitchenPartial.door c).kitchenReq = none := hreq
  rw [exec_compartmentReset s hk hc, unlessStored_none _ hreq']

theorem seizeKitchen_granted {c : Nat} (h : s.roomFor c .kitchen) :
    s.seizeKitchen c = (s.enterAttending c).outcomeKitchen .accepted (some c) none :=
  if_pos ((seizeAnswer_eq_granted_iff s c .kitchen).mpr h)

theorem seizeKitchen_noRoom {c : Nat} (h : ¬s.roomFor c .kitchen) :
    s.seizeKitchen c = s.outcomeKitchen .busy (some c) none :=
  if_neg fun hg => h ((seizeAnswer_eq_granted_iff s c .kitchen).mp hg)

/-! ## SERVICE (R19) -/

/-- SERVICE, taken, with a direction that is in range: a compartment in the state asked for changes it, any other is
refused with STATE. -/
theorem takeKitchen_service (hk : s.takesKitchen) (hq : s.Quiet) {c : Nat} (hc : c < s.count)
    (hf : (s.comp c).state ≠ .faulted) (old new : CState) :
    s.takeKitchen 4 (State.onCompartment 4 5 5 c true true (State.decideService c old new))
      = if (s.comp c).state = old then
          State.kitchenAnswered { s with comps := s.comps.modify c fun r => { r with state := new } }
            (.outcome .accepted (some c) none)
        else s.kitchenAnswered (.outcome .state (some c) none) := by
  have hcomp : s.clearKitchenPartial.comp c = s.comp c := rfl
  rw [takeKitchen_onCompartment s hk hc 4 5 fun _ => hf]
  unfold State.decideService
  rw [hcomp]
  split
  · exact close_reply_of_eq _ { s with comps := s.comps.modify c fun r => { r with state := new } } _
      (quiet_of_psc hq rfl) rfl
  · exact close_replyKitchen s _ hq

end Sys2Proof.Machine
end

section
/-! SUPPORT. What a fault report does, by the compartment's state (R17, R18). -/

namespace Sys2Proof.Machine

variable (s : State)

theorem queueGone_of_meal {c : Nat} {m : Meal} (h : (s.comp c).meal = some m) (reason : GoneReason) :
    s.queueGone c reason = s.queueNote (.gone m.tag c reason) := by
  unfold State.queueGone
  rw [h]

theorem queueGone_of_no_meal {c : Nat} (h : (s.comp c).meal = none) (reason : GoneReason) :
    s.queueGone c reason = s := by
  unfold State.queueGone
  rw [h]

/-- The meal of a record after the hold's records were dropped and fields other than the meal changed. -/
theorem meal_dropHold_modComp (c : Nat) (f : CompRec → CompRec) (hf : ∀ r, (f r).meal = r.meal) :
    (((s.dropHold c).modComp c f).comp c).meal = (s.comp c).meal :=
  (meal_modComp _ c c f hf).trans (meal_dropHold s c c)

/-- R17: the record of `c` as the entry to FAULTED leaves it, with the condemn reason `why`. -/
def State.enteredFaulted (c : Nat) (reason : FaultReason) (why : Option CondemnReason) (s : State) : State :=
  (s.dropHold c).modComp c fun r =>
    { r with state := .faulted, fault := some reason, mealPresent := some (s.presence c), probe := none,
             condemn := why }

theorem meal_enteredFaulted (c : Nat) (reason : FaultReason) (why : Option CondemnReason) :
    ((s.enteredFaulted c reason why).comp c).meal = (s.comp c).meal :=
  meal_dropHold_modComp s c _ fun _ => rfl

/-- Entry to FAULTED from a state other than CONDEMNED queues GONE. -/
theorem faultEntry_eq {c : Nat} (hst : (s.comp c).state ≠ .condemned) (reason : FaultReason) :
    s.faultEntry c reason
      = State.notifyKitchen (.faulted c reason) ((s.enteredFaulted c reason
          ((s.comp c).faultCondemn (s.presence c))).queueGone c .condemned) := by
  unfold State.faultEntry
  dsimp only
  rw [if_neg hst]
  rfl

/-- A CONDEMNED compartment keeps its condemn reason, and its GONE has been queued before. -/
theorem faultEntry_of_condemned {c : Nat} (hst : (s.comp c).state = .condemned) (reason : FaultReason) :
    s.faultEntry c reason
      = State.notifyKitchen (.faulted c reason) (s.enteredFaulted c reason (s.comp c).condemn) := by
  unfold State.faultEntry
  dsimp only
  rw [if_pos hst]
  simp only [CompRec.faultCondemn, hst]
  rfl

/-- In FREE, LOADING, HOLDING, COLLECTING and CONDEMNED a fault report is the entry to FAULTED. -/
theorem faultReport_enters {c : Nat}
    (hst : (s.comp c).state = .free ∨ (s.comp c).state = .loading ∨ (s.comp c).state = .holding
      ∨ (s.comp c).state = .collecting ∨ (s.comp c).state = .condemned) (reason : FaultReason) :
    s.faultReport c reason = s.shutIfEmptied (s.faultEntry c reason) := by
  unfold State.faultReport
  rcases hst with h | h | h | h | h <;> rw [h]

theorem faultReport_of_attending {c : Nat} (hst : (s.comp c).state = .attending) (reason : FaultReason) :
    s.faultReport c reason = s.faultAttending c reason := by
  unfold State.faultReport
  rw [hst]

/-- R18: the record of `c`, HOLDING before it was attended, as a fault report leaves it. -/
def State.attendedFaulted (c : Nat) (reason : FaultReason) (s : State) : State :=
  ((s.modComp c fun r => { r with fault := some reason, mealPresent := some (s.presence c) }).dropHold c).modComp c
    fun r => { r with prior := some .faulted, condemn := some .fault }

theorem meal_attendedFaulted (c : Nat) (reason : FaultReason) :
    ((s.attendedFaulted c reason).comp c).meal = (s.comp c).meal := by
  unfold State.attendedFaulted
  rw [meal_dropHold_modComp, meal_modComp]
  · exact fun _ => rfl
  · exact fun _ => rfl

theorem faultAttending_of_holding {c : Nat} (hp : (s.comp c).prior = some .holding) (reason : FaultReason) :
    s.faultAttending c reason
      = State.notifyKitchen (.faulted c reason) ((s.attendedFaulted c reason).queueGone c .condemned) := by
  unfold State.faultAttending
  rw [hp]
  rfl

/-- R18: prior state CONDEMNED becomes FAULTED; the hold's records are gone already. -/
theorem faultAttending_of_condemned {c : Nat} (hp : (s.comp c).prior = some .condemned) (reason : FaultReason) :
    s.faultAttending c reason
      = State.notifyKitchen (.faulted c reason)
          ((s.modComp c fun r => { r with fault := some reason, mealPresent := some (s.presence c) }).modComp c
            fun r => { r with prior := some .faulted }) := by
  unfold State.faultAttending
  rw [hp]

theorem faultAttending_of_faulted {c : Nat} (hp : (s.comp c).prior = some .faulted) (reason : FaultReason) :
    s.faultAttending c reason
      = s.modComp c fun r => { r with fault := some reason, mealPresent := some (s.presence c) } := by
  unfold State.faultAttending
  rw [hp]

theorem faultReport_of_faulted {c : Nat} (hst : (s.comp c).state = .faulted) (reason : FaultReason) :
    s.faultReport c reason = s.modComp c fun r => { r with fault := some reason } := by
  unfold State.faultReport
  rw [hst]

theorem faultReport_of_outOfService {c : Nat} (hst : (s.comp c).state = .outOfService) (reason : FaultReason) :
    s.faultReport c reason = s := by
  unfold State.faultReport
  rw [hst]

end Sys2Proof.Machine
end

section
/-! The statements about the compartments and the Compartment Table. -/

namespace Sys2Proof.Proofs

open Sys2Proof Sys2Proof.Machine

/-- Settles O12: the checks of a LOAD are those of `loadRefusal` in their order, then the allocation. -/
theorem loadRefusedByFirstFailingCheck : Obligations.LoadRefusedByFirstFailingCheck := by
  intro s m len tag code cls reach limit probe hk hq hm
  exact ⟨fun o ho => exec_load_refused s hk hq hm ho, fun ho ha => exec_load_noSpace s hk hq hm ho ha⟩

/-- Settles O13: with no pulse to suspend, the acceptance raises no trigger, and the reply is the rest of the event. -/
theorem loadAccepted : Obligations.LoadAccepted := by
  intro s m len tag code cls reach limit probe c hk hq hm ho ha hidle
  have hidle' : s.clearKitchenPartial.runningPulse c = none := hidle
  rw [exec_load_accepted s hk hm ho ha, acceptLoad_eq _ hidle']
  exact congrArg Host.Outcome.next (close_reply_of_eq _ _ _ (quiet_of_psc hq rfl) rfl)

/-- Settles O14: each LOAD takes what the first of its two scans finds, else what the second finds; with no member found
it is refused with NO_SPACE. -/
theorem allocation : Obligations.Allocation := by
  refine ⟨fun s c => inFreeSet_iff s c, fun s c hreach => ⟨?_, ?_⟩, ?_⟩
  · have hend : s.cfg.reach + (s.count - s.cfg.reach) = s.count := by omega
    rw [allocate_reach_eq_some_iff, lowestFree_eq_some_iff, lowestFree_eq_none_iff, lowestFree_eq_some_iff, hend]
    simp
  · have hend : s.cfg.reach + (s.count - s.cfg.reach) = s.count := by omega
    have hspare : 3 < (List.range s.cfg.reach).countP s.inFreeSet
        ↔ 2 < (List.range s.cfg.reach).countP s.inFreeSet - 1 := by omega
    rw [allocate_ordinary_eq_some_iff, highestFree_eq_some_iff, highestFree_eq_none_iff, highestFree_eq_some_iff, hend,
      hspare]
    simp
  · intro s m len tag code cls reach limit probe hk hq hm ho ha
    exact exec_load_noSpace s hk hq hm ho ha

/-- Settles O16: with room found and no request stored the seize is granted, and the empty receiver is no part of it. -/
theorem attendanceGranted : Obligations.AttendanceGranted := by
  intro s c i p hk hq hc hroom hreq hi
  have hroom' : s.clearKitchenPartial.roomFor c .kitchen := hroom
  have hgranted (hp : (s.comp c).state.asPrior = some p) :
      s.clearKitchenPartial.seizeKitchen c
        = State.replyKitchen (.outcome .accepted (some c) none) (State.clearKitchenPartial (State.suspend c
            (State.withSeize c .kitchen
              { s with comps := s.comps.modify c fun r => { r with state := .attending, prior := some p } }))) := by
    rw [seizeKitchen_granted _ hroom', enterAttending_clearKitchenPartial s hp]
    rfl
  obtain ⟨hholder, -⟩ := hroom
  rcases hi with ⟨rfl, hst⟩ | ⟨rfl, hst, rfl⟩
  · have hstate : (s.comp c).state = .holding ∨ (s.comp c).state = .condemned := hst.imp And.left And.left
    have hf : (s.comp c).state ≠ .faulted := by rcases hstate with h | h <;> simp [h]
    have hp : (s.comp c).state.asPrior = some p := by
      rcases hst with ⟨h, rfl⟩ | ⟨h, rfl⟩ <;> simp [h, CState.asPrior]
    rw [exec_attend_decided s hk hc hf hreq, decideAttend_seizes s.clearKitchenPartial hstate hholder, hgranted hp]
  · have hp : (s.comp c).state.asPrior = some .faulted := by simp [hst, CState.asPrior]
    rw [exec_compartmentReset_decided s hk hc hreq, decideReset_seizes s.clearKitchenPartial hst hholder, hgranted hp]

/-- Settles O17: a stored request decides first, then the compartment's state and the holder; every reply but WAIT
leaves the rest unchanged. -/
theorem attendanceNotGranted : Obligations.AttendanceNotGranted := by
  intro s c hk hq hc remembered refused
  have hrefused (o : KOutcome) : (s.clearKitchenPartial.outcomeKitchen o (some c) none).close = refused o :=
    close_replyKitchen s _ hq
  have hwait (k : KitchenKind) :
      (s.clearKitchenPartial.waitKitchen c k).close = (remembered k).kitchenAnswered (.outcome .wait none none) :=
    close_reply_of_eq _ (remembered k) _ (quiet_of_psc hq rfl) rfl
  refine ⟨?stored, fun hreq => ?notStored⟩
  case stored =>
    intro i hi hreq
    have hreq' : (s.clearKitchenPartial.door c).kitchenReq ≠ none := hreq
    rcases hi with ⟨rfl, hf⟩ | rfl
    · rw [exec_attend s hk hc hf, unlessStored_stored _ hreq', hrefused]
    · rw [exec_compartmentReset s hk hc, unlessStored_stored _ hreq', hrefused]
  case notStored =>
    have hattend (hf : (s.comp c).state ≠ .faulted) := exec_attend_decided s hk hc hf hreq
    have hreset := exec_compartmentReset_decided s hk hc hreq
    refine ⟨?wait, ?noRoom, ?attendState, ?resetState⟩
    case wait =>
      rintro i k (⟨rfl, rfl, hf, hserved⟩ | ⟨rfl, rfl, hst, hh⟩)
      · rw [hattend hf, decideAttend_waits s.clearKitchenPartial hserved, hwait]
      · rw [hreset, decideReset_waits s.clearKitchenPartial hst hh, hwait]
    case noRoom =>
      intro i hi hh hroom
      have hroom' : ¬s.clearKitchenPartial.roomFor c .kitchen := hroom
      rcases hi with ⟨rfl, hst⟩ | ⟨rfl, hst⟩
      · have hf : (s.comp c).state ≠ .faulted := by rcases hst with h | h <;> simp [h]
        rw [hattend hf, decideAttend_seizes s.clearKitchenPartial hst hh, seizeKitchen_noRoom _ hroom', hrefused]
      · rw [hreset, decideReset_seizes s.clearKitchenPartial hst hh, seizeKitchen_noRoom _ hroom', hrefused]
    case attendState =>
      rintro st rfl hst hh
      have hf : (s.comp c).state ≠ .faulted := by rcases hst with h | h | h | h <;> simp [h]
      have hother :
          (s.comp c).state ≠ .collecting ∧ (s.comp c).state ≠ .holding ∧ (s.comp c).state ≠ .condemned := by
        rcases hst with h | h | h | h <;> simp [h]
      rw [hattend hf, decideAttend_refused s.clearKitchenPartial hother hh]
      exact congrArg Host.Outcome.next (hrefused .state)
    case resetState =>
      intro h
      rw [hreset, decideReset_refused s.clearKitchenPartial h]
      exact congrArg Host.Outcome.next (hrefused .state)

/-- Settles O18: OUT and IN are one change of state each way, and a direction byte of 0 or 1 passes the form. -/
theorem serviceRequests : Obligations.ServiceRequests := by
  intro s c hk hq hc hf
  have hserve (dir : Nat) (hdir : dir ≤ 1) (old new : CState) :
      s.takeKitchen 4 (State.onCompartment 4 5 5 c (dir ≤ 1) true (State.decideService c old new)) = _ :=
    (congrArg (fun form => s.takeKitchen 4 (State.onCompartment 4 5 5 c form true (State.decideService c old new)))
      (decide_eq_true hdir)).trans (takeKitchen_service s hk hq hc hf old new)
  exact ⟨fun dir hdir => congrArg Host.Outcome.next (hserve dir hdir .free .outOfService),
    fun dir hdir => congrArg Host.Outcome.next (hserve dir hdir .outOfService .free)⟩

/-- Settles O51: by the compartment's state, the entry to FAULTED with GONE for the meal the record still holds, or the
change of an attended record, or the newest reason. -/
theorem faultReport : Obligations.FaultReport := by
  intro s c reason hc dropped set gone entered noted
  have hgone (t : State) (ht : (t.comp c).meal = (s.comp c).meal) : t.queueGone c .condemned = gone t := by
    dsimp only [gone]
    cases hm : (s.comp c).meal with
    | some m => exact queueGone_of_meal t (ht.trans hm) _
    | none => exact queueGone_of_no_meal t (ht.trans hm) _
  have henters (hst : (s.comp c).state ≠ .condemned) (why : Option CondemnReason)
      (hwhy : (s.comp c).faultCondemn (s.presence c) = why) :
      s.faultEntry c reason = (gone (entered why)).notifyKitchen (.faulted c reason) := by
    rw [faultEntry_eq s hst, hwhy, hgone _ (meal_enteredFaulted s c reason why)]
    rfl
  refine ⟨?occupied, ?free, ?condemned, ?attending, ?faulted, ?outOfService⟩
  case occupied =>
    intro hst
    have hwhy : (s.comp c).faultCondemn (s.presence c) = some .fault := by
      rcases hst with h | h | h <;> simp [CompRec.faultCondemn, h]
    have hne : (s.comp c).state ≠ .condemned := by rcases hst with h | h | h <;> simp [h]
    rw [faultReport_enters s (by tauto), henters hne _ hwhy]
  case free =>
    intro hst
    have hwhy : (s.comp c).faultCondemn (s.presence c) = if s.presence c then some .fault else none := by
      simp [CompRec.faultCondemn, hst]
    rw [faultReport_enters s (.inl hst), henters (by simp [hst]) _ hwhy]
  case condemned =>
    intro hst
    rw [faultReport_enters s (by tauto), faultEntry_of_condemned s hst]
    rfl
  case attending =>
    intro hst
    rw [faultReport_of_attending s hst]
    refine ⟨fun hp => ?_, fun hp => ?_, fun hp => ?_⟩
    · rw [faultAttending_of_holding s hp, hgone _ (meal_attendedFaulted s c reason)]
      rfl
    · exact faultAttending_of_condemned s hp reason
    · exact faultAttending_of_faulted s hp reason
  case faulted => exact fun hst => faultReport_of_faulted s hst reason
  case outOfService => exact fun hst => faultReport_of_outOfService s hst reason

end Sys2Proof.Proofs
end

section
/-! SUPPORT. The arithmetic of the hold estimate (R23, R25, R29, R33, R35): what credit, cooling, marking and the start
of a hold do to the estimate, and the length of a pulse. -/

namespace Sys2Proof.Machine

variable (k : ClassRec) (e : Estimate)

/-! ## Classes (R22, R23) -/

/-- R23: the ranges of R22 and the four relations. -/
theorem enabled_iff :
    k.enabled = true ↔
      (k.load ≤ 1200 ∧ k.floor ≤ 1200 ∧ k.threshold ≤ 1200 ∧ k.ceiling ≤ 1000 ∧ k.urgentBand ≤ 1200
        ∧ (1 ≤ k.cooling ∧ k.cooling ≤ 255) ∧ (1 ≤ k.gain ∧ k.gain ≤ 20) ∧ (4 ≤ k.pulseLen ∧ k.pulseLen ≤ 90)
        ∧ (60 ≤ k.maxHold ∧ k.maxHold ≤ 14400) ∧ (1 ≤ k.duty ∧ k.duty ≤ 1000))
      ∧ (k.floor < k.threshold ∧ k.threshold < k.load ∧ k.load ≤ k.ceiling)
      ∧ k.threshold + 4 * k.gain ≤ k.ceiling
      ∧ k.urgentBand < k.threshold - k.floor := by
  simp only [ClassRec.enabled, ClassRec.inRange, Bool.and_eq_true, decide_eq_true_eq, and_assoc]

/-! ## The start of a hold (R25) -/

theorem startTemp_some (p : Nat) : k.startTemp (some p) = if k.ceiling < p then k.ceiling else p := by
  show min k.ceiling p = _
  split <;> omega

theorem startTemp_le_ceiling (h : k.enabled = true) (probe : Option Nat) : k.startTemp probe ≤ k.ceiling := by
  obtain ⟨-, ⟨-, -, hload⟩, -⟩ := (enabled_iff k).mp h
  cases probe with
  | none => exact hload
  | some p => exact Nat.min_le_left _ _

theorem floor_le_startTemp (h : k.enabled = true) {probe : Option Nat} (hp : ∀ p, probe = some p → k.floor ≤ p) :
    k.floor ≤ k.startTemp probe := by
  obtain ⟨-, ⟨hfloor, hthreshold, hload⟩, -⟩ := (enabled_iff k).mp h
  cases probe with
  | none => show k.floor ≤ k.load; omega
  | some p => exact Nat.le_min.mpr ⟨by omega, hp p rfl⟩

@[simp] theorem start_temp (probe : Option Nat) (now : Time) (limit : Nat) :
    (Estimate.start k probe now limit).temp = k.startTemp probe := rfl

/-! ## Credit (R33) and marking (R32) -/

/-- R33: the whole seconds are credited and held at the ceiling, the fraction is kept. -/
theorem credit_eq : e.credit k = { e with
    temp := if e.uncredited / 1000 = 0 then e.temp else min k.ceiling (e.temp + k.gain * (e.uncredited / 1000)),
    uncredited := e.uncredited - 1000 * (e.uncredited / 1000) } := by
  unfold Estimate.credit
  split
  · next h => simp [h]
  · rw [Nat.mod_eq_sub]

theorem credit_uncredited_lt : (e.credit k).uncredited < 1000 := by
  rw [credit_eq]
  show e.uncredited - 1000 * (e.uncredited / 1000) < 1000
  rw [← Nat.mod_eq_sub]
  exact Nat.mod_lt _ (by decide)

theorem credit_temp_le_ceiling (h : e.temp ≤ k.ceiling) : (e.credit k).temp ≤ k.ceiling := by
  rw [credit_eq]
  dsimp only
  split
  · exact h
  · exact Nat.min_le_left _ _

/-- A credit never lowers an estimate that stands at or below the ceiling. -/
theorem le_credit_temp (h : e.temp ≤ k.ceiling) : e.temp ≤ (e.credit k).temp := by
  rw [credit_eq]
  dsimp only
  split
  · exact Nat.le_refl _
  · exact Nat.le_min.mpr ⟨h, Nat.le_add_right _ _⟩

@[simp] theorem mark_temp : (e.mark k).temp = e.temp := rfl

@[simp] theorem credit_margin : (e.credit k).margin = e.margin := by rw [credit_eq]

/-! ## Cooling (R28, R29) -/

section Cooling

variable (a temp : Nat)

theorem coolingDrop_of_le (h : temp ≤ a) : coolingDrop k a temp = 0 := if_pos h

theorem coolingDrop_of_lt (h : a < temp) : coolingDrop k a temp = max 1 ((temp - a) * k.cooling / 1024) :=
  if_neg (Nat.not_le.mpr h)

/-- With a coefficient of R22 the quotient of R29 is at most a quarter of the excess over the ambient. -/
theorem cooling_quotient_le (h : k.cooling ≤ 255) (x : Nat) : x * k.cooling / 1024 ≤ x / 4 := by
  have hx : x * k.cooling ≤ x * 256 := Nat.mul_le_mul_left x (by omega)
  omega

theorem coolingDrop_le_quarter (h : k.cooling ≤ 255) :
    coolingDrop k a temp ≤ (temp - a) / 4 ∨ coolingDrop k a temp = 1 := by
  have hq := cooling_quotient_le k h (temp - a)
  rcases Nat.lt_or_ge a temp with hlt | hle
  · rw [coolingDrop_of_lt k a temp hlt]
    omega
  · rw [coolingDrop_of_le k a temp hle]
    exact .inl (Nat.zero_le _)

/-- R30: a drop never reaches below the ambient it is made with. -/
theorem ambient_le_sub_coolingDrop (h : k.cooling ≤ 255) (ha : a ≤ temp) : a ≤ temp - coolingDrop k a temp := by
  have hq := coolingDrop_le_quarter k a temp h
  rcases Nat.lt_or_ge a temp with hlt | hle
  · omega
  · rw [coolingDrop_of_le k a temp hle]
    exact ha

theorem cool_temp_le_ceiling (h : e.temp ≤ k.ceiling) : (e.cool k a).temp ≤ k.ceiling :=
  (Nat.sub_le _ _).trans (credit_temp_le_ceiling k e h)

end Cooling

/-! ## Pulses (R35, R53) -/

/-- R35: a pulse that starts at or below the threshold of an enabled class fits under the ceiling and within R40. -/
theorem plannedLength_fits (h : k.enabled = true) {temp : Nat} (ht : temp ≤ k.threshold) :
    4 ≤ k.plannedLength temp ∧ k.plannedLength temp ≤ 90 ∧ temp + k.gain * k.plannedLength temp ≤ k.ceiling := by
  obtain ⟨⟨-, -, -, -, -, -, ⟨hgain, -⟩, ⟨hlen, -⟩, -⟩, -, hfour, -⟩ := (enabled_iff k).mp h
  have hroom : 4 ≤ (k.ceiling - temp) / k.gain := (Nat.le_div_iff_mul_le hgain).mpr (by omega)
  have hunder : k.gain * ((k.ceiling - temp) / k.gain) ≤ k.ceiling - temp := Nat.mul_div_le _ _
  have hle : k.plannedLength temp ≤ (k.ceiling - temp) / k.gain := Nat.min_le_right _ _
  have hraise : k.gain * k.plannedLength temp ≤ k.gain * ((k.ceiling - temp) / k.gain) := Nat.mul_le_mul_left _ hle
  have hmin : k.plannedLength temp = min (min k.pulseLen 90) ((k.ceiling - temp) / k.gain) := rfl
  exact ⟨by omega, by omega, by omega⟩

theorem runLength_none (temp : Nat) : runLength k temp none = 1000 * k.plannedLength temp := Nat.mul_comm _ _

theorem runLength_some (temp : Nat) (p : Pulse) :
    runLength k temp (some p) = max 4000 (min (p.planned - p.run) (1000 * k.plannedLength temp)) := by
  rw [← runLength_none]
  rfl

end Sys2Proof.Machine
end

section
/-! SUPPORT. The clock's step, record by record (R33, R46). -/

namespace Sys2Proof.Machine

variable (s : State)

theorem heat_of_running {r : CompRec} {p : Pulse} {ch : Nat} (hp : r.pulse = some p) (hs : p.state = .running ch) :
    r.heat = { r with
      pulse := some { p with run := p.run + 10 },
      est := r.est.map fun e => { e with uncredited := e.uncredited + 10 } } := by
  simp [CompRec.heat, hp, Pulse.isRunning, hs, Config.clockStep]

theorem heat_of_not_running {r : CompRec} (h : ∀ p ch, r.pulse = some p → p.state ≠ .running ch) : r.heat = r := by
  unfold CompRec.heat
  split
  · rfl
  · next p hp =>
    cases hs : p.state with
    | running ch => exact absurd hs (h p ch hp)
    | suspended => simp [Pulse.isRunning, hs]

/-- Compartment record `c` after 10 ms. -/
theorem tick_comp (c : Nat) : s.tick.comp c = if s.running then (s.comp c).heat else s.comp c := by
  unfold State.tick State.comp
  dsimp only
  split
  · exact (getD_map_eq CompRec.heat s.comps c .free).symm
  · rfl

theorem tick_comps_length : s.tick.comps.length = s.comps.length := by
  unfold State.tick
  dsimp only
  split
  · exact List.length_map _
  · rfl

end Sys2Proof.Machine
end

section
/-! SUPPORT. The timed events of holds and pulses, in the words of Safety.lean (R27, R28, R42, R51, R55). -/

namespace Sys2Proof.Machine

variable (s : State)

/-! ## The due queue's entry (R47) -/

/-- The entries of two estimates agree where the Due flags do and, while Due is Set, the margins. -/
theorem queueEntry_eq_iff (e f : Estimate) :
    queueEntry (some e) = queueEntry (some f) ↔ f.due = e.due ∧ (e.due = true → f.margin = e.margin) := by
  simp only [queueEntry]
  cases e.due with
  | false => cases f.due <;> simp
  | true =>
    cases f.due with
    | false => simp
    | true => simpa using eq_comm

/-- A replaced estimate whose entry in the due queue stays raises no trigger. -/
theorem setEst_of_same_entry {c : Nat} {e f : Estimate} (he : (s.comp c).est = some e)
    (h : f.due = e.due ∧ (e.due = true → f.margin = e.margin)) :
    s.setEst c (some f) = { s with comps := s.comps.modify c fun r => { r with est := some f } } := by
  unfold State.setEst
  rw [he]
  exact if_pos ((queueEntry_eq_iff e f).mpr h)

theorem setEst_of_new_entry {c : Nat} {e f : Estimate} (he : (s.comp c).est = some e)
    (h : ¬(f.due = e.due ∧ (e.due = true → f.margin = e.margin))) :
    s.setEst c (some f) = State.wake { s with comps := s.comps.modify c fun r => { r with est := some f } } := by
  unfold State.setEst
  rw [he]
  exact if_neg (mt (queueEntry_eq_iff e f).mp h)

/-! ## Decay steps and hold limits (R27 to R31) -/

section Hold

variable {c : Nat} {e : Estimate}

theorem exec_decayStep (hrun : s.running = true) (he : (s.comp c).est = some e) (hdue : e.decayAt ≤ s.now) :
    exec (.decayStep c) s = .next (s.decay c e).close := by
  show execDecayStep c s = _
  unfold execDecayStep
  rw [hrun, he]
  exact congrArg Host.Outcome.next (if_pos hdue)

theorem decay_below_floor (hst : (s.comp c).state = .holding)
    (hfloor : (e.cool (s.mealClass (s.comp c)) s.ssu.ambient).temp < (s.mealClass (s.comp c)).floor) :
    s.decay c e = s.condemnedFor c .cold := by
  rw [← condemn_eq]
  exact if_pos (by simp [hst, hfloor])

theorem decay_kept (h : (s.comp c).state ≠ .holding
      ∨ (s.mealClass (s.comp c)).floor ≤ (e.cool (s.mealClass (s.comp c)) s.ssu.ambient).temp) :
    s.decay c e = s.setEst c (some
      { (e.cool (s.mealClass (s.comp c)) s.ssu.ambient).mark (s.mealClass (s.comp c)) with
        steps := e.steps + 1, decayAt := e.decayAt + 10000 }) := by
  refine if_neg ?_
  simp only [Bool.and_eq_true, decide_eq_true_eq, not_and, Nat.not_lt]
  exact fun hst => h.resolve_left (not_not.mpr hst)

theorem exec_holdLimitExpiry (hrun : s.running = true) (he : (s.comp c).est = some e) {h : Time}
    (hlimit : e.limitAt = some h) (hdue : h ≤ s.now) :
    exec (.holdLimitExpiry c) s
      = .next (State.close (State.condemnReport c .expired
          { s with comps := s.comps.modify c fun r => { r with est := some { e with limitAt := none } } })) := by
  have hreached : reached e.limitAt s.now = true := by simp [reached, hlimit, hdue]
  show execHoldLimitExpiry c s = _
  unfold execHoldLimitExpiry
  rw [hrun, he]
  dsimp only
  rw [if_pos hreached, setEst_of_same_entry s (f := { e with limitAt := none }) he ⟨rfl, fun _ => rfl⟩]

/-- A report is taken by the state the compartment is in, whatever its estimate (R14). -/
theorem state_of_est_update (f : Estimate) :
    (State.comp { s with comps := s.comps.modify c fun r => { r with est := some f } } c).state = (s.comp c).state := by
  have hcomp := comp_modComp s c c fun r => { r with est := some f }
  change (State.comp (s.modComp c _) c).state = _
  rw [hcomp]
  split <;> rfl

end Hold

/-! ## Pulses and channels (R42, R51, R55) -/

theorem exec_pulseEnd {c ch : Nat} {p : Pulse} {e : Estimate} (hrun : s.running = true) (hh : s.Heated c ch p e)
    (hend : p.planned ≤ p.run) :
    exec (.pulseEnd c) s = .next (State.close (s.runEnded c p.run
      (some ((e.credit (s.mealClass (s.comp c))).mark (s.mealClass (s.comp c)))) none)) := by
  have ⟨_, hp, hs, _, _⟩ := hh
  show execPulseEnd c s = _
  unfold execPulseEnd
  rw [hrun, runningPulse_eq s hp hs]
  dsimp only
  rw [if_pos hend, endPulse_eq s c ch p e hh]

theorem exec_channelRestEnd {ch : Nat} {t : Time} (hrun : s.running = true)
    (hch : s.psc.channels[ch]? = some (.rest t)) (hover : t ≤ s.now) :
    exec (.channelRestEnd ch) s = .next (State.close (State.wake
      { s with psc := { s.psc with channels := s.psc.channels.set ch .idle } })) := by
  refine congrArg Host.Outcome.next (if_pos ?_)
  simp [hrun, hch, Channel.restOver, hover]

theorem exec_staggerEnd {t : Time} (hrun : s.running = true) (hon : s.psc.staggerOn = true)
    (hlast : s.psc.lastActivation = some t) (hover : t + 500 ≤ s.now) :
    exec .staggerEnd s = .next (State.close (State.wake { s with psc := { s.psc with staggerOn := false } })) := by
  refine congrArg Host.Outcome.next (if_pos ?_)
  simp [hrun, hon, State.staggerEnded, hlast, Config.stagger, hover]

end Sys2Proof.Machine
end

section
/-! SUPPORT. What a compartment record keeps of its hold (R1, R9, R24, R38), one operation at a time. -/

namespace Sys2Proof.Machine

/-! ## One record -/

section Record

variable {s t : State} {r : CompRec}

/-- The law of a record reads the class records and the class flags only. -/
theorem CompRec.HoldLaw.of_sul (h : r.HoldLaw s) (hcfg : t.sul.config = s.sul.config)
    (hon : t.sul.classOn = s.sul.classOn) : r.HoldLaw t := by
  simpa only [CompRec.HoldLaw, State.mealClass, State.cls, State.cfg, State.classEnabled, hcfg, hon] using h

/-- A record in a state without a hold, whose estimate and pulse are dropped. -/
theorem CompRec.HoldLaw.unheld (h : r.HoldLaw s) {q : CompRec} (hmeal : q.meal = r.meal) (hest : q.est = none)
    (hpulse : q.pulse = none) (hunder : q.underHold = false) (hstate : q.state ≠ .loading) : q.HoldLaw s := by
  obtain ⟨-, -, -, -, hclass, -⟩ := h
  exact ⟨by simp [hest, hunder], by simp [hpulse], by simp [hest], by simp [hest], by simpa [hmeal] using hclass,
    fun hl => absurd hl hstate⟩

theorem holdLaw_of_no_meal {q : CompRec} (hmeal : q.meal = none) (hest : q.est = none) (hpulse : q.pulse = none)
    (hunder : q.underHold = false) (hstate : q.state ≠ .loading) : q.HoldLaw s :=
  ⟨by simp [hest, hunder], by simp [hpulse], by simp [hest], by simp [hest], by simp [hmeal],
    fun hl => absurd hl hstate⟩

theorem holdLaw_free : CompRec.free.HoldLaw s := holdLaw_of_no_meal rfl rfl rfl rfl (by decide)

/-- A state without a hold has no estimate and no pulse. -/
theorem CompRec.HoldLaw.not_held (h : r.HoldLaw s) (hunder : r.underHold = false) : r.est = none ∧ r.pulse = none := by
  obtain ⟨hest, hpulse, -⟩ := h
  have he : r.est = none := by simpa [hunder] using hest
  exact ⟨he, by simpa [he] using hpulse⟩

/-- The estimate moves within its bounds. -/
theorem CompRec.HoldLaw.withEst (h : r.HoldLaw s) {e f : Estimate} (he : r.est = some e)
    (hceiling : f.temp ≤ (s.mealClass r).ceiling) (hfloor : r.state = .holding → (s.mealClass r).floor ≤ f.temp) :
    { r with est := some f }.HoldLaw s := by
  obtain ⟨hest, hpulse, hmeal, -, hclass, hloading⟩ := h
  rw [he] at hest hmeal
  refine ⟨hest, fun _ => rfl, hmeal, ?_, hclass, hloading⟩
  rintro e' ⟨⟩
  exact ⟨hceiling, hfloor⟩

/-- A pulse changes, where there is an estimate to go with it. -/
theorem CompRec.HoldLaw.withPulse (h : r.HoldLaw s) {p : Option Pulse} (hp : p.isSome → r.est.isSome) :
    { r with pulse := p }.HoldLaw s := by
  obtain ⟨hest, -, hmeal, htemp, hclass, hloading⟩ := h
  exact ⟨hest, hp, hmeal, htemp, hclass, hloading⟩

/-- The on-time credited at the end of a run leaves the estimate within its bounds (R33). -/
theorem CompRec.HoldLaw.credited (h : r.HoldLaw s) {e : Estimate} (he : r.est = some e) :
    { r with est := some ((e.credit (s.mealClass r)).mark (s.mealClass r)) }.HoldLaw s := by
  have ⟨_, _, _, htemp, _, _⟩ := h
  obtain ⟨hceiling, hfloor⟩ := htemp e he
  exact h.withEst he (credit_temp_le_ceiling _ e hceiling)
    fun hs => (hfloor hs).trans (le_credit_temp _ e hceiling)

/-- Between two states under hold nothing of the hold changes, but HOLDING is at or above the floor. -/
theorem CompRec.HoldLaw.moved (h : r.HoldLaw s) {st : CState} {pr : Option Prior}
    (hr : r.underHold = true) (hq : { r with state := st, prior := pr }.underHold = true)
    (hfloor : st = .holding → ∀ e, r.est = some e → (s.mealClass r).floor ≤ e.temp) (hstate : st ≠ .loading) :
    { r with state := st, prior := pr }.HoldLaw s := by
  obtain ⟨hest, hpulse, hmeal, htemp, hclass, -⟩ := h
  refine ⟨hest.trans (hr.trans hq.symm), hpulse, hmeal, fun e he => ?_, hclass, fun hl => absurd hl hstate⟩
  obtain ⟨hceiling, -⟩ := htemp e he
  exact ⟨hceiling, fun hs => hfloor hs e he⟩

/-- Ten milliseconds of a pulse change no temperature. -/
theorem CompRec.HoldLaw.heat (h : r.HoldLaw s) : r.heat.HoldLaw s := by
  have ⟨_, hpulse, _, htemp, _, _⟩ := h
  unfold CompRec.heat
  split
  · exact h
  · next p hp =>
    split
    · obtain ⟨e, he⟩ := Option.isSome_iff_exists.mp (hpulse (by simp [hp]))
      obtain ⟨hceiling, hfloor⟩ := htemp e he
      rw [he]
      exact (h.withEst (f := { e with uncredited := e.uncredited + Config.clockStep }) he hceiling hfloor).withPulse
        fun _ => rfl
    · exact h

end Record

/-! ## The state -/

section Whole

variable {s t : State}

/-- The record of `c` keeps the law; beyond the fitted compartments it reads as FREE. -/
theorem State.HoldLaw.comp (h : s.HoldLaw) (c : Nat) : (s.comp c).HoldLaw s := by
  obtain ⟨-, hrecs, -⟩ := h
  unfold State.comp
  rw [List.getD_eq_getElem?_getD]
  cases hr : s.comps[c]? with
  | none => exact holdLaw_free
  | some r => exact hrecs r (List.mem_of_getElem? hr)

/-- What leaves the records and the Start-up Loader alone keeps the law. -/
theorem State.HoldLaw.frame (h : s.HoldLaw) (hkept : t.sul = s.sul ∧ t.comps = s.comps) : t.HoldLaw := by
  obtain ⟨hsul, hcomps⟩ := hkept
  obtain ⟨hclasses, hrecs, hcold⟩ := h
  refine ⟨by simpa only [State.ClassLaw, State.cfg, hsul] using hclasses, ?_, by rwa [hsul, hcomps]⟩
  intro r hr
  exact (hrecs r (hcomps ▸ hr)).of_sul (by rw [hsul]) (by rw [hsul])

/-- A member of a list of which one place was updated. -/
theorem mem_modify {α : Type} (l : List α) (c : Nat) (f : α → α) {r : α} (h : r ∈ l.modify c f) :
    r ∈ l ∨ ∃ q, l[c]? = some q ∧ r = f q := by
  obtain ⟨n, hn⟩ := List.mem_iff_getElem?.mp h
  rw [List.getElem?_modify, Option.map_eq_map, Option.map_eq_some_iff] at hn
  obtain ⟨q, hq, rfl⟩ := hn
  by_cases hcn : c = n
  · exact .inr ⟨q, hcn ▸ hq, if_pos hcn⟩
  · simp only [hcn, if_false]
    exact .inl (List.mem_of_getElem? hq)

/-- An update of one record that keeps that record's law. -/
theorem State.HoldLaw.update (h : s.HoldLaw) (c : Nat) {f : CompRec → CompRec} (hf : (f (s.comp c)).HoldLaw s)
    (hsul : t.sul = s.sul) (hcomps : t.comps = s.comps.modify c f) : t.HoldLaw := by
  obtain ⟨hclasses, hrecs, hcold⟩ := h
  refine State.HoldLaw.frame (s := s.modComp c f) ⟨hclasses, ?_, fun hp => by simp [hcold hp]⟩ ⟨hsul, hcomps⟩
  intro r hr
  rcases mem_modify s.comps c f hr with hold | ⟨q, hq, rfl⟩
  · exact hrecs r hold
  · have hc : s.comp c = q := by simp [State.comp, List.getD_eq_getElem?_getD, hq]
    exact hc ▸ hf

theorem State.HoldLaw.modComp (h : s.HoldLaw) (c : Nat) {f : CompRec → CompRec} (hf : (f (s.comp c)).HoldLaw s) :
    (s.modComp c f).HoldLaw :=
  h.update c hf rfl rfl

end Whole

end Sys2Proof.Machine
end

section
/-! SUPPORT. The operations of estimates, pulses and start attempts keep the law of the hold (R24, R33, R38). -/

namespace Sys2Proof.Machine

variable {s : State}

/-! ## Estimates (R33, R47) -/

theorem setEst_comps (s : State) (c : Nat) (e : Option Estimate) :
    (s.setEst c e).comps = s.comps.modify c fun r => { r with est := e } := by
  unfold State.setEst
  dsimp only
  split
  · rfl
  · exact wake_comps _

/-- The estimate of `c` moves within its bounds. -/
theorem State.HoldLaw.setEst (h : s.HoldLaw) {c : Nat} {e f : Estimate} (he : (s.comp c).est = some e)
    (hceiling : f.temp ≤ (s.mealClass (s.comp c)).ceiling)
    (hfloor : (s.comp c).state = .holding → (s.mealClass (s.comp c)).floor ≤ f.temp) : (s.setEst c (some f)).HoldLaw :=
  h.update c ((h.comp c).withEst he hceiling hfloor) (by simp) (setEst_comps s c _)

theorem State.HoldLaw.creditPoint (h : s.HoldLaw) (c : Nat) : (s.creditPoint c).HoldLaw := by
  unfold State.creditPoint
  split
  · exact h
  · next e he => exact h.update c ((h.comp c).credited he) (by simp) (setEst_comps s c _)

theorem creditPoint_est_isSome (s : State) (c : Nat) :
    ((s.creditPoint c).comp c).est.isSome = (s.comp c).est.isSome := by
  unfold State.creditPoint
  split
  · rfl
  · next e he =>
    have hcomp (f : Option Estimate) : (s.setEst c f).comp c = (s.modComp c fun r => { r with est := f }).comp c := by
      unfold State.comp
      rw [setEst_comps]
      rfl
    rw [hcomp, comp_modComp]
    split <;> simp [he]

/-! ## Pulses (R55, R56) -/

theorem State.HoldLaw.release (h : s.HoldLaw) (c : Nat) : (s.release c).HoldLaw := h.frame (by simp)

theorem State.HoldLaw.setPulse (h : s.HoldLaw) {c : Nat} {p : Option Pulse}
    (hp : p.isSome → (s.comp c).est.isSome) : (s.setPulse c p).HoldLaw :=
  h.modComp c ((h.comp c).withPulse hp)

theorem State.HoldLaw.modReading (h : s.HoldLaw) (c : Nat) (f : ReadingRec → ReadingRec) : (s.modReading c f).HoldLaw :=
  h.frame (by simp)

theorem State.HoldLaw.modPsc (h : s.HoldLaw) (f : Psc → Psc) : (s.modPsc f).HoldLaw := h.frame (by simp)

theorem State.HoldLaw.drawChanged (h : s.HoldLaw) : s.drawChanged.HoldLaw := h.frame (by simp)

theorem State.HoldLaw.endPulse (h : s.HoldLaw) (c : Nat) (p : Pulse) : (s.endPulse c p).HoldLaw :=
  (((h.release c).creditPoint c).setPulse (by simp)).modReading c _

/-- The pulse of a compartment goes with its estimate (R38). -/
theorem State.HoldLaw.est_of_runningPulse (h : s.HoldLaw) {c : Nat} {p : Pulse} (hp : s.runningPulse c = some p) :
    (s.comp c).est.isSome := by
  obtain ⟨-, hpulse, -⟩ := h.comp c
  obtain ⟨hp, -⟩ := Option.filter_eq_some_iff.mp hp
  exact hpulse (by simp [hp])

theorem State.HoldLaw.suspend (h : s.HoldLaw) (c : Nat) : (s.suspend c).HoldLaw := by
  unfold State.suspend
  split
  · next p hp =>
    unfold State.suspendPulse
    split
    · exact h.endPulse c p
    · refine (((h.release c).creditPoint c).modReading c _).setPulse fun _ => ?_
      have hrelease : (s.release c).comp c = s.comp c := by simp [State.comp]
      show (((s.release c).creditPoint c).comp c).est.isSome
      rw [creditPoint_est_isSome, hrelease]
      exact h.est_of_runningPulse hp
  · exact h

theorem State.HoldLaw.activate (h : s.HoldLaw) (c ch : Nat) : (s.activate c ch).HoldLaw := by
  unfold State.activate
  split
  · exact h
  · next e he => exact (((h.setPulse fun _ => by simp [he]).modPsc _).drawChanged).modReading c _

/-- A reduction order is a run of suspensions (R58). -/
theorem State.HoldLaw.reduce (h : s.HoldLaw) (limit n : Nat) : (reduce limit n s).HoldLaw := by
  induction n generalizing s with
  | zero => exact h
  | succ n ih =>
    unfold Machine.reduce
    split
    · exact h
    · split
      · exact h
      · exact ih (h.suspend _)

theorem State.HoldLaw.reduceTo (h : s.HoldLaw) (limit : Nat) : (s.reduceTo limit).HoldLaw := h.reduce limit _

/-! ## Draw and start attempts (R44, R50, R81) -/

theorem State.HoldLaw.dropClaim (h : s.HoldLaw) : s.dropClaim.HoldLaw := h.frame (by simp)

theorem State.HoldLaw.queueDraw (h : s.HoldLaw) : s.queueDraw.HoldLaw := h.frame (by simp)

theorem State.HoldLaw.asleep (h : s.HoldLaw) : s.asleep.HoldLaw := h.frame (by simp)

theorem State.HoldLaw.pump (h : s.HoldLaw) : s.pump.HoldLaw := h.frame (by simp)

theorem State.HoldLaw.overrunTest (h : s.HoldLaw) : s.overrunTest.HoldLaw := by
  unfold State.overrunTest
  split
  · exact (h.dropClaim.reduceTo s.share).frame (by simp)
  · exact h

theorem State.HoldLaw.settleDraw (h : s.HoldLaw) : s.settleDraw.HoldLaw := by
  have hmoved : s.drawSettled.queueDraw.overrunTest.HoldLaw := State.HoldLaw.overrunTest (h.frame (by simp))
  unfold State.settleDraw
  dsimp only
  split
  · split
    · exact hmoved.frame (by simp)
    · exact hmoved
  · exact h

theorem State.HoldLaw.preempt (h : s.HoldLaw) (c : Nat) : (s.preempt c).HoldLaw := by
  unfold State.preempt
  split
  · exact h
  · split
    · exact h
    · exact h.suspend _

theorem State.HoldLaw.actOn (h : s.HoldLaw) (c : Nat) (a : Answer) : (s.actOn c a).HoldLaw := by
  unfold State.actOn
  split
  · exact h.activate c _
  · split
    · exact h.preempt c
    · exact h

theorem State.HoldLaw.attempt (h : s.HoldLaw) : s.attempt.HoldLaw := by
  unfold State.attempt
  split
  · exact h
  · exact State.HoldLaw.actOn (h.frame (by simp)) _ _

theorem State.HoldLaw.useGrant (h : s.HoldLaw) : s.useGrant.HoldLaw := by
  unfold State.useGrant
  split
  · exact h.queueDraw
  · next c _ =>
    split
    · exact h.actOn c _
    · exact (h.actOn c _).queueDraw

theorem State.HoldLaw.runAttempts (h : s.HoldLaw) (n : Nat) : (runAttempts n s).HoldLaw := by
  induction n generalizing s with
  | zero => exact h.asleep
  | succ n ih =>
    unfold Machine.runAttempts
    split
    · exact ih h.asleep.attempt.settleDraw
    · exact h

/-- The end of an event keeps the law. -/
theorem State.HoldLaw.close (h : s.HoldLaw) : s.close.HoldLaw := (h.settleDraw.runAttempts 4).pump

end Sys2Proof.Machine
end

section
/-! SUPPORT. The Compartment Table and the Door Arbiter keep the law of the hold (R1, R9, R10, R12 to R18,
R116, R127). -/

namespace Sys2Proof.Machine

/-! ## Records that the Compartment Table changes -/

section Record

variable {s : State} {r : CompRec}

/-- The hold of a LOADING record starts (R7, R25): an enabled class puts the estimate between floor and ceiling. -/
theorem CompRec.HoldLaw.started (h : r.HoldLaw s) (hst : r.state = .loading) {m : Meal} (hm : r.meal = some m)
    (now : Time) (limit : Nat) :
    { r with state := .holding, holdStart := some now, probe := none,
             est := some (Estimate.start (s.cls m.cls) r.probe now limit) }.HoldLaw s := by
  obtain ⟨-, hpulse⟩ := h.not_held (by simp [CompRec.underHold, hst])
  have hk : s.mealClass r = s.cls m.cls := by simp [State.mealClass, hm]
  obtain ⟨-, -, -, -, hclass, hloading⟩ := h
  obtain ⟨hon, -⟩ := hclass m hm
  obtain ⟨-, hprobe⟩ := hloading hst
  rw [hk] at hprobe
  refine ⟨rfl, fun _ => rfl, fun _ => ⟨by simp [hm], rfl⟩, ?_, hclass, fun hl => by cases hl⟩
  rintro e ⟨⟩
  have hk' : s.mealClass { r with state := .holding, holdStart := some now, probe := none,
                                  est := some (Estimate.start (s.cls m.cls) r.probe now limit) } = s.cls m.cls := hk
  rw [hk', start_temp]
  exact ⟨startTemp_le_ceiling _ hon _, fun _ => floor_le_startTemp _ hon hprobe⟩

/-- A hold start is recorded and the probe used up (R7). -/
theorem CompRec.HoldLaw.withHoldStart (h : r.HoldLaw s) (now : Time) :
    { r with holdStart := some now, probe := none }.HoldLaw s := by
  obtain ⟨hest, hpulse, hmeal, htemp, hclass, hloading⟩ := h
  refine ⟨hest, hpulse, fun he => ?_, htemp, hclass, fun hl => ?_⟩
  · obtain ⟨hsome, -⟩ := hmeal he
    exact ⟨hsome, rfl⟩
  · obtain ⟨hsome, -⟩ := hloading hl
    exact ⟨hsome, nofun⟩

/-- A FREE record takes an accepted LOAD (R6): a meal of an enabled class, with a probe at or above its floor. -/
theorem CompRec.HoldLaw.loaded (h : r.HoldLaw s) (hst : r.state = .free) (hclasses : s.ClassLaw) (m : Meal)
    (hon : s.classEnabled m.cls = true) {probe : Option Nat} (hprobe : ∀ p, probe = some p → (s.cls m.cls).floor ≤ p)
    (w : Nat) (l : Option Time) :
    { r with state := .loading, meal := some m, probe := probe, wrongCount := w, lockoutEnd := l }.HoldLaw s := by
  obtain ⟨hest, hpulse⟩ := h.not_held (by simp [CompRec.underHold, hst])
  have hen : (s.cls m.cls).enabled = true := by
    have hflag : s.classEnabled m.cls = (s.cls m.cls).enabled := by
      unfold State.classEnabled State.cls
      rw [hclasses, getD_map_eq ClassRec.enabled]
      rfl
    rw [← hflag, hon]
  refine ⟨by simp [hest, CompRec.underHold], by simp [hpulse], by simp [hest], by simp [hest], ?_,
    fun _ => ⟨rfl, hprobe⟩⟩
  rintro m' ⟨⟩
  exact ⟨hen, hon⟩

/-- A HOLDING, CONDEMNED or FAULTED record is attended (R12). -/
theorem CompRec.HoldLaw.attended (h : r.HoldLaw s) {p : Prior} (hp : r.state.asPrior = some p) :
    { r with state := .attending, prior := r.state.asPrior }.HoldLaw s := by
  cases hst : r.state <;> rw [hst] at hp <;> cases hp
  case holding => exact h.moved (by simp [CompRec.underHold, hst]) rfl (fun hs => by cases hs) (by decide)
  all_goals
    obtain ⟨hest, hpulse⟩ := h.not_held (by simp [CompRec.underHold, hst])
    exact h.unheld rfl hest hpulse rfl nofun

end Record

/-! ## Operations of the Compartment Table -/

variable {s : State}

/-- What changes of the Start-up Loader but its record and class flags. -/
theorem State.HoldLaw.modSul (h : s.HoldLaw) {f : Sul → Sul} (hcfg : (f s.sul).config = s.sul.config)
    (hon : (f s.sul).classOn = s.sul.classOn) (hphase : (f s.sul).phase = .coldStart → s.sul.phase = .coldStart) :
    (s.modSul f).HoldLaw := by
  obtain ⟨hclasses, hrecs, hcold⟩ := h
  refine ⟨?_, fun r hr => (hrecs r hr).of_sul hcfg hon, fun hp => hcold (hphase hp)⟩
  simpa only [State.ClassLaw, State.cfg, modSul_sul, hcfg, hon] using hclasses

theorem State.HoldLaw.setService (h : s.HoldLaw) (m : ServiceMode) : (s.setService m).HoldLaw :=
  (h.modSul rfl rfl id).queueDraw

theorem State.HoldLaw.shutIfEmptied (h : s.HoldLaw) (before : State) : (before.shutIfEmptied s).HoldLaw := by
  unfold State.shutIfEmptied
  split
  · exact (h.setService .shut).frame (by simp)
  · exact h

theorem dropHold_comps (s : State) (c : Nat) :
    (s.dropHold c).comps = s.comps.modify c fun r => { r with est := none, pulse := none } := by
  unfold State.dropHold State.setPulse
  rw [setEst_comps, modComp_comps, modify_modify, release_comps, cutRun_comps]
  rfl

/-- A hold dropped within an update of its record (R37, R59). -/
theorem State.HoldLaw.dropHold_modComp (h : s.HoldLaw) (c : Nat) {f : CompRec → CompRec}
    (hf : (f { s.comp c with est := none, pulse := none }).HoldLaw s) : ((s.dropHold c).modComp c f).HoldLaw := by
  refine h.update c (f := fun r => f { r with est := none, pulse := none }) hf (by simp) ?_
  rw [modComp_comps, dropHold_comps, modify_modify]
  rfl

theorem State.HoldLaw.queueGone (h : s.HoldLaw) (c : Nat) (reason : GoneReason) : (s.queueGone c reason).HoldLaw :=
  h.frame (by simp)

theorem State.HoldLaw.notifyKitchen (h : s.HoldLaw) (n : KNotice) : (s.notifyKitchen n).HoldLaw := h.frame (by simp)

theorem State.HoldLaw.notifyCounter (h : s.HoldLaw) (n : CNotice) : (s.notifyCounter n).HoldLaw := h.frame (by simp)

theorem State.HoldLaw.condemn (h : s.HoldLaw) (c : Nat) (reason : CondemnReason) : (s.condemn c reason).HoldLaw := by
  have hcondemned : ((s.dropHold c).modComp c fun r =>
      { r with state := .condemned, condemn := some reason, prior := none }).HoldLaw :=
    h.dropHold_modComp c ((h.comp c).unheld rfl rfl rfl rfl nofun)
  exact (hcondemned.queueGone c _).notifyKitchen _

theorem State.HoldLaw.condemnReport (h : s.HoldLaw) (c : Nat) (reason : CondemnReason) :
    (s.condemnReport c reason).HoldLaw := by
  unfold State.condemnReport
  split
  · exact h.condemn c reason
  · exact h

theorem State.HoldLaw.forcedReport (h : s.HoldLaw) (c : Nat) : (s.forcedReport c).HoldLaw := by
  unfold State.forcedReport
  split
  · exact h.condemn c .forced
  · split
    · exact h.modComp c (h.comp c)
    · exact h

theorem State.HoldLaw.faultEntry (h : s.HoldLaw) (c : Nat) (reason : FaultReason) :
    (s.faultEntry c reason).HoldLaw := by
  have hfaulted : ((s.dropHold c).modComp c fun q =>
      { q with state := .faulted, fault := some reason, mealPresent := some (s.presence c), probe := none,
               condemn := (s.comp c).faultCondemn (s.presence c) }).HoldLaw :=
    h.dropHold_modComp c ((h.comp c).unheld rfl rfl rfl rfl nofun)
  unfold State.faultEntry
  dsimp only
  split
  · exact hfaulted.notifyKitchen _
  · exact (hfaulted.queueGone c _).notifyKitchen _

theorem State.HoldLaw.faultAttending (h : s.HoldLaw) {c : Nat} (hst : (s.comp c).state = .attending)
    (reason : FaultReason) : (s.faultAttending c reason).HoldLaw := by
  have hnoted : (s.modComp c fun q =>
      { q with fault := some reason, mealPresent := some (s.presence c) }).HoldLaw := h.modComp c (h.comp c)
  unfold State.faultAttending
  dsimp only
  generalize hs1 : (s.modComp c fun q => { q with fault := some reason, mealPresent := some (s.presence c) }) = s1
    at hnoted ⊢
  have hstate : (s1.comp c).state = .attending := by
    rw [← hs1, comp_modComp]
    split <;> exact hst
  have hprior : (s1.comp c).prior = (s.comp c).prior := by
    rw [← hs1, comp_modComp]
    split <;> rfl
  have hrec := hnoted.comp c
  cases hp : (s.comp c).prior with
  | none => exact hnoted
  | some p =>
    cases p with
    | holding =>
      have hdropped : ((s1.dropHold c).modComp c fun q =>
          { q with prior := some .faulted, condemn := some .fault }).HoldLaw :=
        hnoted.dropHold_modComp c (hrec.unheld rfl rfl rfl (by simp [CompRec.underHold, hstate]) (by simp [hstate]))
      exact (hdropped.queueGone c _).notifyKitchen _
    | condemned =>
      obtain ⟨hest, hpulse⟩ := hrec.not_held (by simp [CompRec.underHold, hstate, hprior, hp])
      exact (hnoted.modComp c
        (hrec.unheld rfl hest hpulse (by simp [CompRec.underHold, hstate]) (by simp [hstate]))).notifyKitchen _
    | faulted => exact hnoted

theorem State.HoldLaw.faultReport (h : s.HoldLaw) (c : Nat) (reason : FaultReason) :
    (s.faultReport c reason).HoldLaw := by
  have hentry := (h.faultEntry c reason).shutIfEmptied s
  unfold State.faultReport
  split
  case h_6 hst => exact h.faultAttending hst reason
  case h_7 => exact h.modComp c (h.comp c)
  case h_8 => exact h
  all_goals exact hentry

/-! ## Ends of door holds (R7 to R13, R17) -/

theorem State.HoldLaw.makeFree (h : s.HoldLaw) (c : Nat) : (s.makeFree c).HoldLaw :=
  h.dropHold_modComp c (f := fun _ => CompRec.free) holdLaw_free

/-- A re-check that finds HOLDING found the estimate at or above the floor (R9). -/
theorem floor_le_of_recheckVerdict {c : Nat} (hv : s.recheckVerdict c = none) {e : Estimate}
    (he : (s.comp c).est = some e) : (s.mealClass (s.comp c)).floor ≤ e.temp := by
  unfold State.recheckVerdict at hv
  simp only [he, Option.map_some, Option.getD_some] at hv
  by_contra hlt
  rw [if_pos (Nat.lt_of_not_le hlt)] at hv
  split at hv <;> cases hv

theorem State.HoldLaw.recheck (h : s.HoldLaw) {c : Nat} (hunder : (s.comp c).underHold = true) :
    (s.recheck c).HoldLaw := by
  unfold State.recheck
  split
  · exact h.condemn c _
  · next hv =>
    exact h.modComp c ((h.comp c).moved hunder rfl (fun _ e he => floor_le_of_recheckVerdict hv he) nofun)

theorem State.HoldLaw.holdStarts (h : s.HoldLaw) {c : Nat} (hst : (s.comp c).state = .loading) :
    (s.holdStarts c).HoldLaw := by
  have hnoted : (s.modComp c fun q => { q with holdStart := some s.now, probe := none }).HoldLaw :=
    h.modComp c ((h.comp c).withHoldStart s.now)
  unfold State.holdStarts
  dsimp only
  split
  · exact hnoted.condemn c .forced
  · split
    · exact hnoted
    · next m hm =>
      have hstarted : (s.modComp c fun q =>
          { q with state := .holding, holdStart := some s.now, probe := none,
                   est := some (Estimate.start (s.cls m.cls) (s.comp c).probe s.now m.limit) }).HoldLaw :=
        h.modComp c ((h.comp c).started hst hm s.now m.limit)
      refine hstarted.frame ⟨by simp, ?_⟩
      rw [queueNote_comps, setEst_comps, modComp_comps, modComp_comps, modify_modify, modify_modify]
      rfl

theorem State.HoldLaw.loadingEnd (h : s.HoldLaw) {c : Nat} (hst : (s.comp c).state = .loading) (k : HoldEnd) :
    (s.loadingEnd c k).HoldLaw := by
  unfold State.loadingEnd
  split
  · exact h.holdStarts hst
  · exact h.makeFree c
  · exact (h.makeFree c).notifyKitchen _
  · exact h.makeFree c

theorem State.HoldLaw.collectionEnd (h : s.HoldLaw) {c : Nat} (hst : (s.comp c).state = .collecting) (k : HoldEnd) :
    (s.collectionEnd c k).HoldLaw := by
  have hchecked := h.recheck (c := c) (by simp [CompRec.underHold, hst])
  unfold State.collectionEnd
  split
  · exact (h.queueGone c _).makeFree c
  · dsimp only
    split
    · exact hchecked.modComp c (hchecked.comp c)
    · exact hchecked

theorem State.HoldLaw.attendanceEnd (h : s.HoldLaw) {c : Nat} (hst : (s.comp c).state = .attending) (k : HoldEnd) :
    (s.attendanceEnd c k).HoldLaw := by
  have hrec := h.comp c
  have hoff (hp : (s.comp c).prior ≠ some .holding) : (s.comp c).est = none ∧ (s.comp c).pulse = none :=
    hrec.not_held (by simp [CompRec.underHold, hst, hp])
  unfold State.attendanceEnd
  split
  case h_1 =>
    refine State.HoldLaw.modReading (State.HoldLaw.makeFree ?_ c) c _
    split
    · exact h.queueGone c _
    · exact h
  case h_2 hp => exact h.recheck (by simp [CompRec.underHold, hst, hp])
  case h_3 hp =>
    obtain ⟨hest, hpulse⟩ := hoff (by simp [hp])
    exact h.modComp c (hrec.unheld rfl hest hpulse rfl nofun)
  case h_4 hp =>
    obtain ⟨hest, hpulse⟩ := hoff (by simp [hp])
    exact h.modComp c (hrec.unheld rfl hest hpulse rfl nofun)
  case h_5 hp =>
    obtain ⟨hest, hpulse⟩ := hoff (by simp [hp])
    exact h.modComp c (hrec.unheld rfl hest hpulse rfl nofun)
  case h_6 => exact h

theorem State.HoldLaw.faultedEnd (h : s.HoldLaw) (c : Nat) (k : HoldEnd) : (s.faultedEnd c k).HoldLaw := by
  unfold State.faultedEnd
  split
  · exact h.modComp c (h.comp c)
  · exact h

theorem State.HoldLaw.tableHoldEnd (h : s.HoldLaw) (c : Nat) (k : HoldEnd) : (s.tableHoldEnd c k).HoldLaw := by
  unfold State.tableHoldEnd
  split
  case h_1 hst => exact h.loadingEnd hst k
  case h_2 hst => exact h.collectionEnd hst k
  case h_3 hst => exact h.attendanceEnd hst k
  case h_4 => exact h.faultedEnd c k
  all_goals exact h

/-! ## Seizes and requests (R10, R12, R116, R123 to R125) -/

theorem State.HoldLaw.modDoor (h : s.HoldLaw) (c : Nat) (f : DoorRec → DoorRec) : (s.modDoor c f).HoldLaw :=
  h.frame (by simp)

theorem State.HoldLaw.forget (h : s.HoldLaw) (c : Nat) (sd : Side) : (s.forget c sd).HoldLaw := h.frame (by simp)

theorem State.HoldLaw.grantSeize (h : s.HoldLaw) (c : Nat) (sd : Side) : (s.grantSeize c sd).HoldLaw :=
  (h.modDoor c _).suspend c

theorem State.HoldLaw.enterAttending (h : s.HoldLaw) {c : Nat} {p : Prior} (hp : (s.comp c).state.asPrior = some p) :
    (s.enterAttending c).HoldLaw :=
  (h.modComp c (f := fun r => { r with state := .attending, prior := r.state.asPrior })
    ((h.comp c).attended hp)).grantSeize c .kitchen

theorem State.HoldLaw.grantCollection (h : s.HoldLaw) {c : Nat} (hst : (s.comp c).state = .holding) :
    (s.grantCollection c).HoldLaw := by
  have hunder : (s.comp c).underHold = true := by simp [CompRec.underHold, hst]
  exact (h.modComp c (f := fun r => { r with state := .collecting })
    ((h.comp c).moved hunder rfl nofun nofun)).grantSeize c .counter

/-- The states in which a remembered kitchen request is granted are those that can be attended (R12, R124). -/
theorem asPrior_of_grantedIn {k : KitchenKind} {st : CState} (h : k.grantedIn st = true) :
    ∃ p, st.asPrior = some p := by
  unfold KitchenKind.grantedIn at h
  split at h
  case h_4 => cases h
  all_goals exact ⟨_, rfl⟩

theorem State.HoldLaw.reevalKitchen (h : s.HoldLaw) (c : Nat) : (s.reevalKitchen c).HoldLaw := by
  have hforgot := h.forget c .kitchen
  unfold State.reevalKitchen
  split
  · exact h
  · split
    · exact h
    · split
      · next hg =>
        split
        · obtain ⟨p, hp⟩ := asPrior_of_grantedIn hg
          exact (hforgot.enterAttending hp).notifyKitchen _
        · exact h
      · exact hforgot.notifyKitchen _

theorem State.HoldLaw.reevalCounter (h : s.HoldLaw) (c : Nat) : (s.reevalCounter c).HoldLaw := by
  have hforgot := h.forget c .counter
  unfold State.reevalCounter
  split
  · exact h
  · split
    · exact h
    · split
      · next hg =>
        obtain ⟨hst, -⟩ := hg
        split
        · exact (hforgot.grantCollection hst).notifyCounter _
        · exact h
      · exact hforgot.notifyCounter _

theorem State.HoldLaw.reeval (h : s.HoldLaw) (sd : Side) (c : Nat) : (s.reeval sd c).HoldLaw := by
  cases sd with
  | kitchen => exact h.reevalKitchen c
  | counter => exact h.reevalCounter c

theorem State.HoldLaw.foldl_reeval (h : s.HoldLaw) (sd : Side) (cs : List Nat) :
    (cs.foldl (fun t c => t.reeval sd c) s).HoldLaw := by
  induction cs generalizing s with
  | nil => exact h
  | cons c cs ih => exact ih (h.reeval sd c)

theorem State.HoldLaw.reevalSide (h : s.HoldLaw) (sd : Side) : (s.reevalSide sd).HoldLaw := h.foldl_reeval sd _

theorem State.HoldLaw.reevalBoth (h : s.HoldLaw) (c : Nat) : (s.reevalBoth c).HoldLaw := by
  have hboth := (h.reeval .kitchen c).reeval .counter c
  unfold State.reevalBoth
  split
  · split
    · exact hboth
    · exact (h.reeval .counter c).reeval .kitchen c
  · exact hboth

theorem State.HoldLaw.wake (h : s.HoldLaw) : s.wake.HoldLaw := h.frame (by simp)

theorem State.HoldLaw.holdEnd (h : s.HoldLaw) (c : Nat) (sd : Side) (k : HoldEnd) : (s.holdEnd c sd k).HoldLaw :=
  (((((h.modDoor c _).tableHoldEnd c k).shutIfEmptied _).reeval (otherSide sd) c).reevalSide sd).wake

theorem State.HoldLaw.modSide (h : s.HoldLaw) (c : Nat) (sd : Side) (f : SideRec → SideRec) :
    (s.modSide c sd f).HoldLaw := h.frame (by simp)

theorem State.HoldLaw.forceDoor (h : s.HoldLaw) (c : Nat) (sd : Side) : (s.forceDoor c sd).HoldLaw :=
  (((h.modSide c sd _).suspend c).forcedReport c).notifyKitchen _

/-! ## LOAD (R3, R4, R6) -/

theorem state_free_of_allocate {reach : Bool} {c : Nat} (ha : s.allocate reach = some c) :
    (s.comp c).state = .free := by
  have hfree : s.inFreeSet c = true := by
    cases reach with
    | true =>
      simp only [allocate_reach_eq_some_iff, lowestFree_eq_some_iff] at ha
      rcases ha with ⟨-, -, hfree, -⟩ | ⟨-, -, -, hfree, -⟩ <;> exact hfree
    | false =>
      simp only [allocate_ordinary_eq_some_iff, highestFree_eq_some_iff] at ha
      rcases ha with ⟨-, -, hfree, -⟩ | ⟨-, -, -, -, hfree, -⟩ <;> exact hfree
  obtain ⟨hst, -⟩ := (inFreeSet_iff s c).mp hfree
  exact hst

/-- The checks of R3 that an accepted LOAD has passed, as far as its hold depends on them. -/
theorem loadChecks_passed {tag cls c : Nat} {reach : Bool} {probe : Option Nat}
    (hok : s.loadChecks tag cls reach probe = .ok c) :
    s.classEnabled cls = true ∧ (∀ p, probe = some p → (s.cls cls).floor ≤ p) ∧ s.allocate reach = some c := by
  unfold State.loadChecks at hok
  cases hadmitted : s.admission cls with
  | some o =>
    simp only [hadmitted] at hok
    split_ifs at hok
  | none =>
    simp only [hadmitted] at hok
    split_ifs at hok with hservice hclass htag hcool hroom
    split at hok
    · cases hok
    · next ha =>
      cases hok
      refine ⟨by simpa using hclass, ?_, ha⟩
      rintro p rfl
      simpa using hcool

theorem State.HoldLaw.acceptLoad (h : s.HoldLaw) {c tag cls : Nat} {reach : Bool} {probe : Option Nat}
    (hok : s.loadChecks tag cls reach probe = .ok c) (code limit : Nat) :
    (s.acceptLoad c tag code cls limit probe).HoldLaw := by
  obtain ⟨hon, hprobe, ha⟩ := loadChecks_passed hok
  have ⟨hclasses, _⟩ := h
  exact State.HoldLaw.grantSeize (h.modComp c
    ((h.comp c).loaded (state_free_of_allocate ha) hclasses _ hon hprobe 0 none)) c .kitchen

end Sys2Proof.Machine
end

section
/-! SUPPORT. The Court Line, the ports, start-up, the scan and the timed events keep the law of the hold, and with them
every step (R9, R24, R38). -/

namespace Sys2Proof.Machine

variable {s : State}

/-! ## The Court Line (R80 to R101) -/

theorem State.HoldLaw.modLif (h : s.HoldLaw) (f : Lif → Lif) : (s.modLif f).HoldLaw := h.frame (by simp)

theorem State.HoldLaw.limitDraw (h : s.HoldLaw) (limit : Option Nat) : (s.limitDraw limit).HoldLaw := by
  cases limit with
  | none => exact h
  | some l => exact h.reduceTo l

theorem State.HoldLaw.changeMode (h : s.HoldLaw) (m : LineMode) : (s.changeMode m).HoldLaw := by
  have hclaim {t : State} (ht : t.HoldLaw) : (if m.apart then t.dropClaim else t).HoldLaw := by
    split
    · exact ht.dropClaim
    · exact ht
  have hdraw {t : State} (ht : t.HoldLaw) :
      (if m = .mismatchedClash then t.queueFinalDraw else t.queueDraw).HoldLaw := by
    split
    · exact ht.frame (by simp)
    · exact ht.queueDraw
  exact (hdraw ((hclaim (h.modLif _)).limitDraw _).wake).notifyKitchen _

theorem State.HoldLaw.enterIsolated (h : s.HoldLaw) : s.enterIsolated.HoldLaw := (h.modLif _).changeMode _

theorem State.HoldLaw.rejoinCourt (h : s.HoldLaw) : s.rejoinCourt.HoldLaw := (h.modLif _).changeMode _

theorem State.HoldLaw.enterParameters (h : s.HoldLaw) : s.enterParameters.HoldLaw := (h.modLif _).changeMode _

theorem State.HoldLaw.clash (h : s.HoldLaw) : s.clash.HoldLaw := by
  unfold State.clash
  split
  · exact h
  · exact (h.modLif _).changeMode _

theorem State.HoldLaw.compareParams (h : s.HoldLaw) (wc wr wg n : Nat) : (s.compareParams wc wr wg n).HoldLaw := by
  unfold State.compareParams
  split
  · exact h
  · split
    · exact h.enterParameters
    · exact h.frame (by simp)
    · exact h.frame (by simp)
    all_goals exact h

theorem State.HoldLaw.afterPeerChange (h : s.HoldLaw) (before : Nat) : (s.afterPeerChange before).HoldLaw := by
  unfold State.afterPeerChange
  split
  · exact State.HoldLaw.overrunTest (h.frame (by simp))
  · exact h.overrunTest

theorem State.HoldLaw.heardPeer (h : s.HoldLaw) : s.heardPeer.HoldLaw := h.frame (by simp)

/-- A frame on the line, where the block that acts on it keeps the law (R94). -/
theorem State.HoldLaw.receive (h : s.HoldLaw) (sender : Nat) (ok : Bool) {act : State → State}
    (hact : ∀ t : State, t.HoldLaw → (act t).HoldLaw) : (s.receive sender ok act).HoldLaw := by
  unfold State.receive
  split
  · exact h
  · split
    · exact h.clash.close
    · split
      · exact (hact _ h.heardPeer).close
      · exact State.HoldLaw.close (h.heardPeer.frame (by simp))

theorem State.HoldLaw.modPeer (h : s.HoldLaw) (a : Nat) (f : PeerEntry → PeerEntry) : (s.modPeer a f).HoldLaw :=
  h.frame (by simp)

theorem State.HoldLaw.helloFreshHeard (h : s.HoldLaw) (sender wc wr wg n : Nat) :
    (s.helloFreshHeard sender wc wr wg n).HoldLaw := by
  have hnoted : ((s.queueHelloAnswer.modPeer sender fun _ =>
      { PeerEntry.empty sender with heard := some s.now, live := true }).modCdir (Cdir.purge sender)).HoldLaw :=
    h.frame (by simp)
  exact (hnoted.afterPeerChange _).compareParams wc wr wg n

theorem State.HoldLaw.helloAnswerHeard (h : s.HoldLaw) (sender wc wr wg n : Nat) :
    (s.helloAnswerHeard sender wc wr wg n).HoldLaw :=
  ((h.modPeer sender _).afterPeerChange _).compareParams wc wr wg n

theorem State.HoldLaw.failAttempt (h : s.HoldLaw) : s.failAttempt.HoldLaw := by
  have hfailed := h.modLif fun l => { l.returnFrame with failed := min Config.maxFailed (l.failed + 1) }
  unfold State.failAttempt
  dsimp only
  split
  · exact hfailed.enterIsolated
  · exact hfailed

theorem State.HoldLaw.completeAttempt (h : s.HoldLaw) (b : Buffered) : (s.completeAttempt b).HoldLaw := by
  have hreported : ((s.modLif fun l => { l with failed := 0, buffer := none }).reportCompleted b).HoldLaw :=
    h.frame (by simp)
  unfold State.completeAttempt
  dsimp only
  split
  · exact hreported.rejoinCourt
  · exact hreported

theorem State.HoldLaw.claimResult (h : s.HoldLaw) (granted : Bool) : (s.claimResult granted).HoldLaw := by
  have hended : (s.modDsu fun d => { d with claim := .noClaim }).HoldLaw := h.frame (by simp)
  unfold State.claimResult
  dsimp only
  split
  · exact hended.useGrant
  · exact hended.frame (by simp)

/-! ## The ports (R145, R147, R158) -/

theorem State.HoldLaw.outcomeKitchen (h : s.HoldLaw) (o : KOutcome) (c arg : Option Nat) :
    (s.outcomeKitchen o c arg).HoldLaw := h.frame (by simp)

theorem State.HoldLaw.replyCounter (h : s.HoldLaw) (o : COutcome) (arg : Option Nat) : (s.replyCounter o arg).HoldLaw :=
  h.frame (by simp)

theorem State.HoldLaw.clearKitchenPartial (h : s.HoldLaw) : s.clearKitchenPartial.HoldLaw := h.frame (by simp)

theorem State.HoldLaw.clearCounterPartial (h : s.HoldLaw) : s.clearCounterPartial.HoldLaw := h.frame (by simp)

/-- A kitchen record, where its decision keeps the law. -/
theorem State.HoldLaw.takeKitchen (h : s.HoldLaw) (kind : Nat) {decide : State → State}
    (hdecide : ∀ t : State, t.HoldLaw → (decide t).HoldLaw) : (s.takeKitchen kind decide).HoldLaw := by
  have hcleared := h.clearKitchenPartial
  unfold State.takeKitchen
  dsimp only
  split
  · exact h
  · exact hcleared
  · exact (hcleared.outcomeKitchen _ _ _).pump
  · split
    · exact State.HoldLaw.close (hcleared.frame (by simp))
    · exact (hdecide _ hcleared).close

/-- A counter record, where its decision keeps the law. -/
theorem State.HoldLaw.takeCounter (h : s.HoldLaw) (kind : Nat) (busy : State → Bool) {decide : State → State}
    (hdecide : ∀ t : State, t.HoldLaw → (decide t).HoldLaw) : (s.takeCounter kind busy decide).HoldLaw := by
  have hcleared := h.clearCounterPartial
  unfold State.takeCounter
  dsimp only
  split
  · exact h
  · exact hcleared
  · exact (hcleared.replyCounter _ _).pump
  · split
    · exact State.HoldLaw.close (hcleared.frame (by simp))
    · exact (hdecide _ hcleared).close

theorem State.HoldLaw.onCompartment (h : s.HoldLaw) (kind len want c : Nat) (form check : Bool) {decide : State → State}
    (hdecide : (decide s).HoldLaw) : (s.onCompartment kind len want c form check decide).HoldLaw := by
  unfold State.onCompartment
  split
  · exact h.outcomeKitchen _ _ _
  · split
    · exact h.outcomeKitchen _ _ _
    · split
      · exact h.outcomeKitchen _ _ _
      · exact hdecide

theorem State.HoldLaw.withoutFields (h : s.HoldLaw) (len : Nat) {decide : State → State}
    (hdecide : (decide s).HoldLaw) : (s.withoutFields len decide).HoldLaw := by
  unfold State.withoutFields
  split
  · exact h.outcomeKitchen _ _ _
  · exact hdecide

theorem State.HoldLaw.unlessStored (h : s.HoldLaw) (c : Nat) {decide : State → State}
    (hdecide : (decide s).HoldLaw) : (s.unlessStored c decide).HoldLaw := by
  unfold State.unlessStored
  split
  · exact h.outcomeKitchen _ _ _
  · exact hdecide

/-! ## Kitchen requests -/

theorem State.HoldLaw.decideLoad (h : s.HoldLaw) (len tag code cls reach limit probe : Nat) :
    (s.decideLoad len tag code cls reach limit probe).HoldLaw := by
  unfold State.decideLoad
  split
  · exact h.outcomeKitchen _ _ _
  · split
    · exact h.outcomeKitchen _ _ _
    · next hok => exact (h.acceptLoad hok code limit).outcomeKitchen _ _ _

theorem State.HoldLaw.seizeKitchen (h : s.HoldLaw) {c : Nat} {p : Prior} (hp : (s.comp c).state.asPrior = some p) :
    (s.seizeKitchen c).HoldLaw := by
  unfold State.seizeKitchen
  split
  · exact (h.enterAttending hp).outcomeKitchen _ _ _
  · exact h.outcomeKitchen _ _ _

theorem State.HoldLaw.waitKitchen (h : s.HoldLaw) (c : Nat) (kind : KitchenKind) : (s.waitKitchen c kind).HoldLaw :=
  State.HoldLaw.outcomeKitchen (s := s.rememberKitchen c kind) (h.frame (by simp)) _ _ _

theorem State.HoldLaw.decideAttend (h : s.HoldLaw) (c : Nat) : (s.decideAttend c).HoldLaw := by
  unfold State.decideAttend
  split
  · exact h.waitKitchen c _
  · split
    · next hst =>
      simp only [Bool.and_eq_true, Bool.or_eq_true, decide_eq_true_eq] at hst
      obtain ⟨hst | hst, -⟩ := hst <;> exact h.seizeKitchen (by rw [hst]; rfl)
    · exact h.outcomeKitchen _ _ _

theorem State.HoldLaw.decideReset (h : s.HoldLaw) (c : Nat) : (s.decideReset c).HoldLaw := by
  unfold State.decideReset
  split
  · next hst =>
    split
    · exact h.seizeKitchen (by rw [hst]; rfl)
    · exact h.waitKitchen c _
    · exact h.outcomeKitchen _ _ _
  · exact h.outcomeKitchen _ _ _

theorem State.HoldLaw.decideRelease (h : s.HoldLaw) (c : Nat) : (s.decideRelease c).HoldLaw := by
  unfold State.decideRelease
  split
  · exact (h.holdEnd c _ _).outcomeKitchen _ _ _
  · exact h.outcomeKitchen _ _ _

/-- SERVICE moves a compartment between two states without a hold (R19). -/
theorem State.HoldLaw.decideService (h : s.HoldLaw) (c : Nat) {old new : CState}
    (hold : old = .free ∨ old = .outOfService) (hnew : new = .free ∨ new = .outOfService) :
    (s.decideService c old new).HoldLaw := by
  unfold State.decideService
  split
  · next hst =>
    have hoff (q : CompRec) (hq : q.state = .free ∨ q.state = .outOfService) : q.underHold = false := by
      rcases hq with hq | hq <;> simp [CompRec.underHold, hq]
    obtain ⟨hest, hpulse⟩ := (h.comp c).not_held (hoff _ (hst ▸ hold))
    have hmoved : (s.modComp c fun r => { r with state := new }).HoldLaw :=
      h.modComp c ((h.comp c).unheld rfl hest hpulse (hoff _ hnew) (by rcases hnew with rfl | rfl <;> nofun))
    exact hmoved.outcomeKitchen _ _ _
  · exact h.outcomeKitchen _ _ _

theorem State.HoldLaw.decideClose (h : s.HoldLaw) : s.decideClose.HoldLaw := by
  unfold State.decideClose
  split
  · exact (h.setService _).outcomeKitchen _ _ _
  · exact h.outcomeKitchen _ _ _

theorem State.HoldLaw.decideOpen (h : s.HoldLaw) : s.decideOpen.HoldLaw := by
  unfold State.decideOpen
  split
  · exact h.outcomeKitchen _ _ _
  · exact (h.setService _).outcomeKitchen _ _ _

/-! ## Counter requests -/

theorem State.HoldLaw.rememberCounter (h : s.HoldLaw) (c tag : Nat) : (s.rememberCounter c tag).HoldLaw :=
  h.frame (by simp)

theorem State.HoldLaw.rightCode (h : s.HoldLaw) (c tag : Nat) : (s.rightCode c tag).HoldLaw := by
  unfold State.rightCode
  split
  · next hst =>
    simp only [Bool.and_eq_true, decide_eq_true_eq] at hst
    obtain ⟨hst, -⟩ := hst
    split
    · exact (h.grantCollection hst).replyCounter _ _
    · exact h.replyCounter _ _
  · split
    · exact (h.rememberCounter c tag).replyCounter _ _
    · exact h.replyCounter _ _

theorem State.HoldLaw.codeCheck (h : s.HoldLaw) (c tag code : Nat) : (s.codeCheck c tag code).HoldLaw := by
  unfold State.codeCheck
  split
  · exact h.replyCounter _ _
  · split
    · exact State.HoldLaw.rightCode (h.modComp c (h.comp c)) c tag
    · split
      · exact State.HoldLaw.replyCounter (h.modComp c (h.comp c)) _ _
      · exact State.HoldLaw.replyCounter (h.modComp c (h.comp c)) _ _

theorem State.HoldLaw.collectRecord (h : s.HoldLaw) (c tag code : Nat) : (s.collectRecord c tag code).HoldLaw := by
  have hmeal :
      (if (s.door c).counterReq.isSome then s.replyCounter .busy none else s.codeCheck c tag code).HoldLaw := by
    split
    · exact h.replyCounter _ _
    · exact h.codeCheck c tag code
  unfold State.collectRecord
  split
  case h_5 => exact hmeal
  case h_6 =>
    split
    · exact hmeal
    · exact h.replyCounter _ _
  all_goals exact h.replyCounter _ _

theorem State.HoldLaw.lookUp (h : s.HoldLaw) (tag : Nat) : (s.lookUp tag).HoldLaw := by
  unfold State.lookUp
  split
  · exact h.replyCounter _ _
  · split
    · exact h.frame (by simp)
    · exact h.replyCounter _ _

theorem State.HoldLaw.decideCollect (h : s.HoldLaw) (len tag code : Nat) : (s.decideCollect len tag code).HoldLaw := by
  unfold State.decideCollect
  split
  · exact h.replyCounter _ _
  · split
    · exact h.collectRecord _ tag code
    · exact h.lookUp tag

theorem State.HoldLaw.decideCancel (h : s.HoldLaw) (len : Nat) : (s.decideCancel len).HoldLaw := by
  unfold State.decideCancel
  split
  · exact h.replyCounter _ _
  · split
    · exact h.frame (by simp)
    · split
      · exact (h.forget _ .counter).replyCounter _ _
      · exact h.replyCounter _ _

/-! ## The scan (R132 to R140) -/

theorem State.HoldLaw.sensorCheck (h : s.HoldLaw) (c : Nat) : (s.sensorCheck c).HoldLaw := by
  unfold State.sensorCheck
  split
  · exact h.faultReport c _
  · exact h

theorem State.HoldLaw.overheatCheck (h : s.HoldLaw) (c t : Nat) : (s.overheatCheck c t).HoldLaw := by
  unfold State.overheatCheck
  split
  · exact h.faultReport c _
  · exact h

theorem State.HoldLaw.elementCheck (h : s.HoldLaw) (c t : Nat) : (s.elementCheck c t).HoldLaw := by
  have hcompared : (if (s.reading c).pending then s.modReading c (ReadingRec.compare t) else s).HoldLaw := by
    split
    · exact h.modReading c _
    · exact h
  unfold State.elementCheck
  dsimp only
  split
  · exact hcompared.faultReport c _
  · exact hcompared

theorem State.HoldLaw.coldCheck (h : s.HoldLaw) (c t : Nat) : (s.coldCheck c t).HoldLaw := by
  unfold State.coldCheck
  split
  · exact h.modReading c _
  · split
    · exact h.modReading c _
    · exact (h.condemnReport c _).modReading c _

theorem State.HoldLaw.nextSlot (h : s.HoldLaw) : s.nextSlot.HoldLaw := h.frame (by simp)

theorem State.HoldLaw.scan (h : s.HoldLaw) (c : Nat) (v : Option Nat) : (s.scan c v).HoldLaw := by
  have hrecorded := h.modReading c (ReadingRec.record v)
  unfold State.scan
  dsimp only
  split
  · exact hrecorded.sensorCheck c
  · exact ((hrecorded.overheatCheck c _).elementCheck c _).coldCheck c _

theorem State.HoldLaw.takeDoorChange (h : s.HoldLaw) (c : Nat) (sd : Side) : (s.takeDoorChange c sd).HoldLaw :=
  h.frame (by simp)

/-! ## Decay steps and hold limits (R27 to R31) -/

theorem State.HoldLaw.decay (h : s.HoldLaw) {c : Nat} {e : Estimate} (he : (s.comp c).est = some e) :
    (s.decay c e).HoldLaw := by
  obtain ⟨-, -, -, htemp, -⟩ := h.comp c
  obtain ⟨hceiling, -⟩ := htemp e he
  unfold State.decay
  dsimp only
  split
  · exact h.condemn c .cold
  · next hfloor =>
    refine h.setEst he (cool_temp_le_ceiling _ e _ hceiling) fun hst => ?_
    simpa [hst] using hfloor

theorem State.HoldLaw.limitPassed (h : s.HoldLaw) {c : Nat} {e : Estimate} (he : (s.comp c).est = some e) :
    (s.setEst c (some { e with limitAt := none })).HoldLaw := by
  obtain ⟨-, -, -, htemp, -⟩ := h.comp c
  obtain ⟨hceiling, hfloor⟩ := htemp e he
  exact h.setEst he hceiling hfloor

/-! ## Start-up (R165, R169) -/

theorem holdLaw_coldStart (s : State) : s.coldStart.HoldLaw :=
  ⟨rfl, fun _ hr => absurd hr List.not_mem_nil, fun _ => rfl⟩

/-- Before start-up a record is FREE, or CONDEMNED for the meal found in it (R2). -/
theorem holdLaw_atColdStart (s : State) (present : Bool) : (CompRec.atColdStart present).HoldLaw s := by
  cases present with
  | false => exact holdLaw_free
  | true => exact holdLaw_of_no_meal rfl rfl rfl rfl nofun

theorem holdLaw_setUpTables (s : State) (r : ConfigRec) : (s.setUpTables r).HoldLaw := by
  refine ⟨rfl, fun q hq => ?_, nofun⟩
  obtain ⟨c, -, rfl⟩ := List.mem_map.mp hq
  exact holdLaw_atColdStart _ _

theorem State.HoldLaw.firstLineMode (h : s.HoldLaw) : s.firstLineMode.HoldLaw := by
  unfold State.firstLineMode
  split
  · exact h.modLif _
  · exact h.frame (by simp)

theorem State.HoldLaw.startUpDoor (h : s.HoldLaw) (c : Nat) (sd : Side) : (s.startUpDoor c sd).HoldLaw := by
  unfold State.startUpDoor
  split
  · exact h.forceDoor c sd
  · exact h

theorem State.HoldLaw.foldl_startUpDoor (h : s.HoldLaw) (cs : List Nat) :
    (cs.foldl (fun t c => (t.startUpDoor c .kitchen).startUpDoor c .counter) s).HoldLaw := by
  induction cs generalizing s with
  | nil => exact h
  | cons c cs ih => exact ih ((h.startUpDoor c .kitchen).startUpDoor c .counter)

theorem holdLaw_endOfStartUp (s : State) (r : ConfigRec) : (s.endOfStartUp r).HoldLaw := by
  have hserving : ((s.setUpTables r).modSul fun u =>
      { u with service := some (s.setUpTables r).firstService }).HoldLaw :=
    (holdLaw_setUpTables s r).modSul rfl rfl id
  exact (hserving.firstLineMode.foldl_startUpDoor _).close

/-! ## Every step -/

/-- `P` holds of the next state, where there is one. -/
def NextKeeps (P : State → Prop) (o : Result) : Prop := ∀ t, o = .next t → P t

theorem nextKeeps_next {P : State → Prop} {s : State} (h : P s) : NextKeeps P (.next s) := by
  rintro t ⟨⟩
  exact h

/-- A command that acts only under a condition. -/
theorem State.HoldLaw.guarded (h : s.HoldLaw) {p : Prop} [Decidable p] {t : State} (ht : t.HoldLaw) :
    (if p then t else s).HoldLaw := by
  split
  · exact ht
  · exact h

theorem State.HoldLaw.execResetAsserted (h : s.HoldLaw) : NextKeeps State.HoldLaw (execResetAsserted s) := by
  have hasserted : (s.modSul fun u => { u with phase := .resetAsserted }).HoldLaw := h.modSul rfl rfl nofun
  exact nextKeeps_next (hasserted.modLif _)

theorem State.HoldLaw.execConfigReadDone (h : s.HoldLaw) (first second : ConfigRead) :
    NextKeeps State.HoldLaw (execConfigReadDone first second s) := by
  refine nextKeeps_next (h.guarded ?_)
  split
  · exact h.modSul rfl rfl nofun
  · exact holdLaw_endOfStartUp s _

theorem State.HoldLaw.execAttemptCompleted (h : s.HoldLaw) : NextKeeps State.HoldLaw (execAttemptCompleted s) := by
  refine nextKeeps_next ?_
  split
  · exact (h.completeAttempt _).close
  · exact h

theorem State.HoldLaw.execFrameDiscarded (h : s.HoldLaw) (layer : DiscardLayer) :
    NextKeeps State.HoldLaw (execFrameDiscarded layer s) := by
  refine nextKeeps_next ?_
  split
  · exact h
  · cases layer with
    | framing => exact h.frame (by simp)
    | crc => exact h.frame (by simp)
    | content => exact h.frame (by simp)

theorem State.HoldLaw.execClaimWindowEnd (h : s.HoldLaw) : NextKeeps State.HoldLaw (execClaimWindowEnd s) := by
  refine nextKeeps_next ?_
  split
  · exact h.guarded (h.claimResult _).close
  · exact h

theorem State.HoldLaw.execDecayStep (h : s.HoldLaw) (c : Nat) : NextKeeps State.HoldLaw (execDecayStep c s) := by
  refine nextKeeps_next ?_
  split
  · next e _ he => exact h.guarded (h.decay he).close
  · exact h

theorem State.HoldLaw.execHoldLimitExpiry (h : s.HoldLaw) (c : Nat) :
    NextKeeps State.HoldLaw (execHoldLimitExpiry c s) := by
  refine nextKeeps_next ?_
  split
  · next e _ he => exact h.guarded ((h.limitPassed he).condemnReport c _).close
  · exact h

theorem State.HoldLaw.execPulseEnd (h : s.HoldLaw) (c : Nat) : NextKeeps State.HoldLaw (execPulseEnd c s) := by
  refine nextKeeps_next ?_
  split
  · next p _ _ => exact h.guarded (h.endPulse c p).close
  · exact h

theorem State.HoldLaw.execJoiningTimerExpiry (h : s.HoldLaw) :
    NextKeeps State.HoldLaw (execJoiningTimerExpiry s) := by
  have hstopped := h.modLif fun l => { l with joiningAt := none }
  refine nextKeeps_next (h.guarded (State.HoldLaw.close ?_))
  exact hstopped.guarded (hstopped.changeMode .court)

theorem State.HoldLaw.execGoneFrame (h : s.HoldLaw) (sender tag comp reason : Nat) :
    NextKeeps State.HoldLaw (execGoneFrame sender tag comp reason s) := by
  refine nextKeeps_next (h.receive sender _ fun t ht => ?_)
  split
  · exact ht.frame (by simp)
  · exact ht

theorem State.HoldLaw.execStatusStation (h : s.HoldLaw) (len : Nat) :
    NextKeeps State.HoldLaw (execStatusStation len s) := by
  refine nextKeeps_next (h.takeKitchen 8 fun t ht => ?_)
  split
  · exact ht.outcomeKitchen _ _ _
  · exact ht.frame (by simp)

theorem State.HoldLaw.execWhere (h : s.HoldLaw) (len tag : Nat) : NextKeeps State.HoldLaw (execWhere len tag s) := by
  refine nextKeeps_next (h.takeKitchen 10 fun t ht => ?_)
  split
  · exact ht.outcomeKitchen _ _ _
  · exact ht.frame (by simp)

theorem State.HoldLaw.execAmbientReading (h : s.HoldLaw) (r : Reading) :
    NextKeeps State.HoldLaw (execAmbientReading r s) :=
  nextKeeps_next (h.guarded (h.frame (by simp)))

theorem State.HoldLaw.close_wake (h : s.HoldLaw) : s.wake.close.HoldLaw := h.wake.close

/-- Every command keeps the law of the hold. -/
theorem State.HoldLaw.exec (h : s.HoldLaw) (i : Instr) : NextKeeps State.HoldLaw (exec i s) :=
  match i with
  | .coldStart => nextKeeps_next (holdLaw_coldStart s)
  | .resetAsserted => h.execResetAsserted
  | .configReadDone first second => h.execConfigReadDone first second
  | .load len tag code cls reach limit probe =>
    nextKeeps_next (h.takeKitchen 1 fun _ ht => ht.decideLoad len tag code cls reach limit probe)
  | .attend len c =>
    nextKeeps_next (h.takeKitchen 2 fun _ ht =>
      ht.onCompartment 2 len 4 c true true (ht.unlessStored c (ht.decideAttend c)))
  | .compartmentReset len c =>
    nextKeeps_next (h.takeKitchen 5 fun _ ht =>
      ht.onCompartment 5 len 4 c true false (ht.unlessStored c (ht.decideReset c)))
  | .release len c =>
    nextKeeps_next (h.takeKitchen 3 fun _ ht => ht.onCompartment 3 len 4 c true true (ht.decideRelease c))
  | .serviceOut len c _ =>
    nextKeeps_next (h.takeKitchen 4 fun _ ht =>
      ht.onCompartment 4 len 5 c _ true (ht.decideService c (.inl rfl) (.inr rfl)))
  | .serviceIn len c _ =>
    nextKeeps_next (h.takeKitchen 4 fun _ ht =>
      ht.onCompartment 4 len 5 c _ true (ht.decideService c (.inr rfl) (.inl rfl)))
  | .bankClose len => nextKeeps_next (h.takeKitchen 6 fun _ ht => ht.withoutFields len ht.decideClose)
  | .bankOpen len => nextKeeps_next (h.takeKitchen 7 fun _ ht => ht.withoutFields len ht.decideOpen)
  | .statusCompartment len c =>
    nextKeeps_next (h.takeKitchen 8 fun _ ht => ht.onCompartment 8 len 4 c true false (ht.frame (by simp)))
  | .statusStation len => h.execStatusStation len
  | .clearFaults len => nextKeeps_next (h.takeKitchen 9 fun _ ht => ht.withoutFields len (ht.frame (by simp)))
  | .whereTag len tag => h.execWhere len tag
  | .kitchenBadRecord => nextKeeps_next (h.frame (by simp))
  | .kitchenGapExpiry => nextKeeps_next (h.guarded (h.frame (by simp)))
  | .kitchenTxDone => nextKeeps_next (by split <;> exact h.frame (by simp))
  | .collect len tag code =>
    nextKeeps_next (h.takeCounter 1 State.counterBusy fun _ ht => ht.decideCollect len tag code)
  | .cancel len => nextKeeps_next (h.takeCounter 2 State.cancelBusy fun _ ht => ht.decideCancel len)
  | .counterBadRecord => nextKeeps_next (h.frame (by simp))
  | .counterGapExpiry => nextKeeps_next (h.guarded (h.frame (by simp)))
  | .counterTxDone => nextKeeps_next (by split <;> exact h.frame (by simp))
  | .lockoutEnd c => nextKeeps_next (h.guarded (h.modComp c (h.comp c)))
  | .lookupWaitEnd => nextKeeps_next (h.guarded (State.HoldLaw.close (h.frame (by simp))))
  | .attemptStart => nextKeeps_next (h.guarded (h.frame (by simp)))
  | .attemptLost => nextKeeps_next (h.guarded (h.frame (by simp)))
  | .attemptFailed => nextKeeps_next (h.guarded h.failAttempt.close)
  | .attemptCompleted => h.execAttemptCompleted
  | .frameDiscarded layer => h.execFrameDiscarded layer
  | .ownAddressFrame => nextKeeps_next (h.guarded h.clash.close)
  | .unknownKindFrame sender => nextKeeps_next (h.receive sender true fun _ ht => ht)
  | .claimFrame sender _ _ _ => nextKeeps_next (h.receive sender true fun _ ht => ht.modPeer sender _)
  | .drawFrame sender _ _ _ _ _ _ _ =>
    nextKeeps_next (h.receive sender _ fun _ ht => (ht.modPeer sender _).afterPeerChange _)
  | .goneFrame sender tag comp reason => h.execGoneFrame sender tag comp reason
  | .stowedFrame sender _ _ _ => nextKeeps_next (h.receive sender _ fun _ ht => ht.frame (by simp))
  | .queryFrame sender _ => nextKeeps_next (h.receive sender _ fun _ ht => ht.frame (by simp))
  | .helloFresh sender wc wr wg n _ =>
    nextKeeps_next (h.receive sender _ fun _ ht => ht.helloFreshHeard sender wc wr wg n)
  | .helloAnswer sender wc wr wg n _ =>
    nextKeeps_next (h.receive sender _ fun _ ht => ht.helloAnswerHeard sender wc wr wg n)
  | .drawTimerExpiry => nextKeeps_next (h.guarded (h.frame (by simp)))
  | .silenceTimerExpiry => nextKeeps_next (h.guarded h.enterIsolated.close)
  | .joiningTimerExpiry => h.execJoiningTimerExpiry
  | .entryLapse addr => nextKeeps_next (h.guarded ((h.modPeer addr _).afterPeerChange _).close)
  | .claimWindowEnd => h.execClaimWindowEnd
  | .lostBackoffEnd => nextKeeps_next (h.guarded (State.HoldLaw.close_wake (h.frame (by simp))))
  | .overrunHoldEnd => nextKeeps_next (h.guarded (State.HoldLaw.close_wake (h.frame (by simp))))
  | .decayStep c => h.execDecayStep c
  | .holdLimitExpiry c => h.execHoldLimitExpiry c
  | .pulseEnd c => h.execPulseEnd c
  | .channelRestEnd _ => nextKeeps_next (h.guarded (h.modPsc _).close_wake)
  | .staggerEnd => nextKeeps_next (h.guarded (h.modPsc _).close_wake)
  | .doorOpened _ _ => nextKeeps_next (h.guarded (h.frame (by simp)))
  | .doorReopened _ _ => nextKeeps_next (h.guarded (h.frame (by simp)))
  | .doorClosed _ _ => nextKeeps_next (h.guarded (h.frame (by simp)))
  | .doorForced c sd => nextKeeps_next (h.guarded ((h.takeDoorChange c sd).forceDoor c sd).close)
  | .forcedDoorClosed c sd =>
    nextKeeps_next (h.guarded (((h.takeDoorChange c sd).modSide c sd _).reevalBoth c).close_wake)
  | .releaseWindowLapse c sd => nextKeeps_next (h.guarded (h.holdEnd c sd _).close)
  | .ajarTime _ _ => nextKeeps_next (h.guarded (State.HoldLaw.close (h.frame (by simp))))
  | .settleEnd c sd => nextKeeps_next (h.guarded (h.holdEnd c sd _).close)
  | .waitLapse _ _ => nextKeeps_next (h.guarded (State.HoldLaw.close (h.frame (by simp))))
  | .sensorReading _ => nextKeeps_next (h.guarded (h.nextSlot.scan _ _).close)
  | .ambientReading r => h.execAmbientReading r
  | .inputChainSample _ => nextKeeps_next (h.guarded (h.frame (by simp)))
  | .kitchenUnknownKind kind => nextKeeps_next (h.takeKitchen kind fun _ ht => ht.outcomeKitchen _ _ _)
  | .counterUnknownKind kind => nextKeeps_next (h.takeCounter kind State.counterBusy fun _ ht => ht.replyCounter _ _)

/-- A byte on a panel's line: the receiver takes it, and the record it completes runs. -/
theorem State.HoldLaw.takeByte (h : s.HoldLaw) (sd : Side) (b : Byte) : NextKeeps State.HoldLaw (s.takeByte sd b) := by
  have hrow (row : Option Instr) {t : State} (ht : t.HoldLaw) : NextKeeps State.HoldLaw (State.runRow row t) := by
    cases row with
    | none => exact nextKeeps_next ht
    | some i => exact ht.exec i
  unfold State.takeByte
  dsimp only
  split
  · exact nextKeeps_next (h.frame (by simp))
  · cases sd with
    | kitchen => exact hrow _ (h.frame (by simp))
    | counter => exact hrow _ (h.frame (by simp))

/-- The clock's step changes run-so-far and uncredited on-time only. -/
theorem State.HoldLaw.tick (h : s.HoldLaw) : s.tick.HoldLaw := by
  have ⟨hclasses, hrecs, hcold⟩ := h
  refine ⟨hclasses, fun r hr => ?_, fun hp => by simp [State.tick, hcold hp]⟩
  have hmem : r ∈ s.comps ∨ ∃ q ∈ s.comps, q.heat = r := by
    unfold State.tick at hr
    dsimp only at hr
    split at hr
    · exact .inr (List.mem_map.mp hr)
    · exact .inl hr
  rcases hmem with hold | ⟨q, hq, rfl⟩
  · exact hrecs r hold
  · exact (hrecs q hq).heat

theorem State.HoldLaw.step (h : s.HoldLaw) : NextKeeps State.HoldLaw (step s) := by
  unfold Machine.step
  split
  · exact State.HoldLaw.exec (h.frame (by simp)) _
  · split
    · exact h.takeByte _ _
    · split
      · exact h.exec _
      · exact nextKeeps_next h.tick

end Sys2Proof.Machine
end

section
/-! The statements about the hold estimate and its timed events. -/

namespace Sys2Proof.Proofs

open Sys2Proof Sys2Proof.Machine

/-- Settles O59: every command, every byte taken and the clock's step keep the law of every record. -/
theorem holdInvariant : Obligations.HoldInvariant := fun _ t h hs => h.step t hs

/-- Settles O2: the four cases of `step` on an empty queue; in the last one each record is heated or left alone. -/
theorem emptyQueueTakesDueEventOrTicks : Obligations.EmptyQueueTakesDueEventOrTicks := by
  intro s hq waits
  have hnone (hk : waits s.rx.kitchen) (hc : waits s.rx.counter) : s.nextByte = none :=
    nextByte_none s (arrived_none_of_later s _ hk) (arrived_none_of_later s _ hc)
  refine ⟨?kitchen, ?counter, ?due, ?tick⟩
  case kitchen => exact fun x xs hx ha => step_byte s hq (nextByte_kitchen s hx ha)
  case counter =>
    exact fun x xs hk hx ha => step_byte s hq (nextByte_counter s (arrived_none_of_later s _ hk) hx ha)
  case due => exact fun e hk hc he => step_due s hq (hnone hk hc) he
  case tick =>
    intro hk hc he
    refine ⟨s.tick, step_tick s hq (hnone hk hc) he, rfl, tick_comps_length s, fun c => ⟨?_, ?_⟩⟩
    · intro p ch hrun hp hs
      rw [tick_comp, if_pos hrun, heat_of_running hp hs]
    · intro hoff
      rw [tick_comp]
      rcases hoff with hrun | hp
      · rw [if_neg (by simp [hrun])]
      · rw [heat_of_not_running hp, ite_self]

/-- Settles O43: each function of the estimate in its cases; that a drop stays above the ambient and a pulse below the
ceiling are `ambient_le_sub_coolingDrop` and `plannedLength_fits`. -/
theorem estimateArithmetic : Obligations.EstimateArithmetic := by
  refine ⟨?start, ?credit, ?drop, ?cool, ?mark, ?length⟩
  case start =>
    intro k probe now limit
    cases probe with
    | none => rfl
    | some p =>
      dsimp only
      rw [← startTemp_some]
      rfl
  case credit => exact fun k e => ⟨credit_eq k e, credit_uncredited_lt k e⟩
  case drop =>
    intro k a temp
    refine ⟨coolingDrop_of_le k a temp, fun hlt => ?_, coolingDrop_le_quarter k a temp,
      ambient_le_sub_coolingDrop k a temp⟩
    rw [coolingDrop_of_lt k a temp hlt]
    split <;> omega
  case cool => exact fun k a e => ⟨rfl, credit_margin k e⟩
  case mark =>
    intro k e
    refine ⟨?_, decide_eq_true_iff, ?_, rfl⟩
    · show e.temp - k.floor = _
      split <;> omega
    · simp [Estimate.mark]
  case length =>
    intro k temp
    exact ⟨Nat.min_assoc _ _ _, fun h => plannedLength_fits k h, runLength_none k temp, runLength_some k temp⟩

/-- Settles O44: each timed event that is due does what its operation does, and the event ends. -/
theorem timedHeating : Obligations.TimedHeating := by
  refine ⟨?hold, ?pulse, ?rest, ?stagger⟩
  case hold =>
    intro s c e hrun he
    refine ⟨?decay, ?limit⟩
    case decay =>
      intro hdue k e1 e2 v
      rw [exec_decayStep s hrun he hdue]
      refine ⟨fun hst hfloor => ?_, fun hkept => ⟨fun hsame => ?_, fun hnew => ?_⟩⟩
      · rw [decay_below_floor s hst hfloor]
      · rw [decay_kept s hkept, setEst_of_same_entry s he hsame]
      · rw [decay_kept s hkept, setEst_of_new_entry s he hnew]
    case limit =>
      intro h hlimit hdue v
      have hstate : (v.comp c).state = (s.comp c).state := state_of_est_update s _
      rw [exec_holdLimitExpiry s hrun he hlimit hdue]
      refine ⟨fun hst => ?_, fun hst => ?_⟩
      · rw [State.condemnReport, if_pos (hstate.trans hst), condemn_eq]
      · rw [State.condemnReport, if_neg (by rwa [hstate])]
  case pulse => exact fun s c ch p e hrun hh hend => exec_pulseEnd s hrun hh hend
  case rest => exact fun s ch t hrun hch hover => exec_channelRestEnd s hrun hch hover
  case stagger => exact fun s t hrun hon hlast hover => exec_staggerEnd s hrun hon hlast hover

/-- Settles O7: the ranges and the relations are what the flag is computed from. -/
theorem classEnabled : Obligations.ClassEnabled := enabled_iff

end Sys2Proof.Proofs
end

section
/-! SUPPORT. What a suspension, a cut and an activation do, in the words of Safety.lean (R37, R41, R56,
R59, R138, R139). -/

namespace Sys2Proof.Machine

variable (s : State) {c ch : Nat} {p : Pulse} {e : Estimate}

/-- The estimate of `c` after the credit point that ends a run (R34). -/
def State.credited (s : State) (c : Nat) (e : Estimate) : Estimate :=
  (e.credit (s.mealClass (s.comp c))).mark (s.mealClass (s.comp c))

theorem due_of_est {t : State} (he : (t.comp c).est = some e) : t.due c = e.due := by simp [State.due, he]

/-- After the channel's release and the credit point, `c` is due as its credited estimate is. -/
theorem due_creditPoint_release (h : s.Heated c ch p e) :
    ((s.release c).creditPoint c).due c = (s.credited c e).due := by
  obtain ⟨hc, -, -, he, hch⟩ := h
  have hself := comp_modComp_self s c (fun r => { r with est := some (s.credited c e) }) hc
  rw [creditPoint_release s c e (connected_of_on s hch) he]
  exact due_of_est (congrArg CompRec.est hself :)

/-- A suspension short of the planned length, in the words of Safety.lean (R56). -/
theorem suspendPulse_eq (h : s.Heated c ch p e) (hlt : p.run < p.planned) :
    s.suspendPulse c p = s.runEnded c p.run (some (s.credited c e))
      (if (s.credited c e).due then some { p with state := .suspended } else none) := by
  have hdue := due_creditPoint_release s h
  obtain ⟨-, -, -, he, hch⟩ := h
  unfold State.suspendPulse
  rw [if_neg (Nat.not_le.mpr hlt)]
  dsimp only
  rw [show State.due (State.modReading c _ _) c = _ from hdue, creditPoint_release s c e (connected_of_on s hch) he]
  unfold State.runEnded State.setPulse State.modReading State.modComp ReadingRec.runEnd
  simp only [modify_modify, Option.isSome_iff_ne_none]
  rfl

theorem suspend_eq (h : s.Heated c ch p e) : s.suspend c = s.suspendPulse c p := by
  obtain ⟨-, hp, hs, -, -⟩ := h
  simp only [State.suspend, runningPulse_eq s hp hs]

/-- A cut of the run on `c`, in the words of Safety.lean (R37, R59). -/
theorem dropHold_eq (h : s.Heated c ch p e) : s.dropHold c = s.runEnded c p.run none none := by
  obtain ⟨-, hp, hs, -, hch⟩ := h
  have hcut : s.cutRun c = s.modReading c (ReadingRec.runEnd p.run) := by
    simp only [State.cutRun, runningPulse_eq s hp hs]
  have hon : (s.modReading c (ReadingRec.runEnd p.run)).connected c = true := connected_of_on s hch
  unfold State.dropHold
  rw [hcut, release_eq _ c hon, setEst_of_attemptDue _ c none rfl]
  unfold State.runEnded State.setPulse State.modReading State.modComp ReadingRec.runEnd
  simp only [modify_modify, Option.isSome_iff_ne_none]
  rfl

/-- Without a run to cut, a dropped hold takes the records away, and wakes the scheduler where the due queue loses an
entry (R37, R49). -/
theorem dropHold_of_not_heated (hrun : s.runningPulse c = none) (hoff : s.connected c = false) :
    let v : State := { s with comps := s.comps.modify c fun r => { r with est := none, pulse := none } }
    s.dropHold c = if s.due c then v.wake else v := by
  have hcut : s.cutRun c = s := by simp only [State.cutRun, hrun]
  have hrelease : s.release c = s := by simp [State.release, hoff]
  have hest : ((s.setPulse c none).comp c).est = (s.comp c).est := by
    rw [State.setPulse, comp_modComp]
    split <;> rfl
  have hentry : queueEntry ((s.setPulse c none).comp c).est = queueEntry none ↔ s.due c = false := by
    rw [hest, State.due]
    cases (s.comp c).est with
    | none => simp
    | some e => cases hd : e.due <;> simp [queueEntry, hd]
  have hrecords : (s.setPulse c none).modComp c (fun r => { r with est := none })
      = { s with comps := s.comps.modify c fun r => { r with est := none, pulse := none } } := by
    unfold State.setPulse State.modComp
    rw [modify_modify]
    rfl
  unfold State.dropHold State.setEst
  rw [hcut, hrelease, hrecords]
  simp only [hentry]
  cases s.due c <;> rfl

/-! ## Activation (R41, R52, R138) -/

/-- An activation, in the words of Safety.lean. -/
theorem activate_eq (s : State) {c : Nat} {e : Estimate} (he : (s.comp c).est = some e) (ch : Nat) :
    s.activate c ch = { s with
      comps := s.comps.modify c fun r => { r with
        pulse := some { state := .running ch, planned := runLength (s.mealClass r) e.temp r.pulse, run := 0,
                        start := s.now } },
      psc := { channels := s.psc.channels.set ch (.on c), lastActivation := some s.now, staggerOn := true,
               attemptDue := true, drawMoved := true },
      readings := s.readings.modify c fun r => { r with reference := r.last, pending := false } } := by
  have hpulse := modComp_congr s c
    (fun r => { r with pulse := some { state := .running ch, run := 0, start := s.now,
                                       planned := runLength (s.mealClass (s.comp c)) e.temp (s.comp c).pulse } })
    (fun r => { r with pulse := some { state := .running ch, run := 0, start := s.now,
                                       planned := runLength (s.mealClass r) e.temp r.pulse } }) rfl
  unfold State.activate State.setPulse
  rw [he]
  dsimp only
  rw [hpulse]
  rfl

/-! ## The end of an event (R44, R81, R93) -/

theorem settleDraw_of_moved (u : State) (h : u.psc.drawMoved = true) :
    let v := u.drawSettled.queueDraw.overrunTest
    u.settleDraw = if v.psc.drawMoved then v.drawSettled.queueDraw else v := by
  simp [State.settleDraw, h]

end Sys2Proof.Machine
end

section
/-! SUPPORT. The candidate of a start attempt, and what an attempt does under each answer (R47 to R50, R61). -/

namespace Sys2Proof.Machine

variable (s : State)

/-! ## The due queue (R47) -/

theorem before_iff (a b : Nat) : s.before a b = true ↔ s.margin a < s.margin b ∨ (s.margin a = s.margin b ∧ a < b) := by
  simp [State.before]

theorem mem_place (c d : Nat) (l : List Nat) : d ∈ s.place c l ↔ d = c ∨ d ∈ l := by
  induction l with
  | nil => simp [State.place]
  | cons x xs ih =>
    unfold State.place
    split
    · exact List.mem_cons
    · rw [List.mem_cons, ih, List.mem_cons, or_left_comm]

/-- A list kept in the margin order: no entry goes before an earlier one. -/
def State.InOrder (l : List Nat) : Prop := l.Pairwise fun a b => s.before b a = false

theorem inOrder_place (c : Nat) {l : List Nat} (h : s.InOrder l) : s.InOrder (s.place c l) := by
  induction l with
  | nil => exact List.pairwise_singleton _ _
  | cons x xs ih =>
    obtain ⟨hx, hxs⟩ := List.pairwise_cons.mp h
    unfold State.place
    split
    · next hcx =>
      refine List.pairwise_cons.mpr ⟨fun b hb => ?_, h⟩
      have hxb : b = x ∨ s.before b x = false := (List.mem_cons.mp hb).imp id (hx b)
      rw [Bool.eq_false_iff, ne_eq, before_iff]
      rw [before_iff] at hcx
      rcases hxb with rfl | hxb
      · omega
      · rw [Bool.eq_false_iff, ne_eq, before_iff] at hxb
        omega
    · next hcx =>
      refine List.pairwise_cons.mpr ⟨fun b hb => ?_, ih hxs⟩
      rcases (mem_place s c b xs).mp hb with rfl | hb
      · exact Bool.eq_false_iff.mpr hcx
      · exact hx b hb

theorem mem_dueQueue (c : Nat) :
    c ∈ s.dueQueue ↔ c < s.count ∧ (s.comp c).underHold = true ∧ s.due c = true := by
  have hplaced (l : List Nat) : c ∈ l.foldr s.place [] ↔ c ∈ l := by
    induction l with
    | nil => rfl
    | cons x xs ih => rw [List.foldr_cons, mem_place, ih, List.mem_cons]
  simp [State.dueQueue, hplaced]

theorem inOrder_dueQueue : s.InOrder s.dueQueue := by
  unfold State.dueQueue
  generalize (List.range s.count).filter _ = l
  induction l with
  | nil => exact List.Pairwise.nil
  | cons x xs ih => exact inOrder_place s x ih

/-! ## The candidate (R48, R50) -/

/-- What `find?` takes from a list in order: nothing that qualifies goes before it. -/
theorem find?_of_inOrder {l : List Nat} (h : s.InOrder l) {ok : Nat → Bool} {c : Nat} (hc : l.find? ok = some c) :
    ∀ d ∈ l, ok d = true → s.before d c = false := by
  obtain ⟨-, as, bs, rfl, hfirst⟩ := List.find?_eq_some_iff_append.mp hc
  intro d hd hok
  obtain ⟨-, hcs, -⟩ := List.pairwise_append.mp h
  obtain ⟨hbs, -⟩ := List.pairwise_cons.mp hcs
  rcases List.mem_append.mp hd with hd | hd
  · exact absurd hok (by simpa using hfirst d hd)
  · rcases List.mem_cons.mp hd with rfl | hd
    · rw [Bool.eq_false_iff, ne_eq, before_iff]
      omega
    · exact hbs d hd

theorem eligible_of_firstEligible {s : State} {c : Nat} (hc : s.firstEligible = some c) : s.eligible c = true :=
  List.find?_some hc

theorem firstEligible_eq_some_iff (c : Nat) :
    s.firstEligible = some c ↔ (c ∈ s.dueQueue ∧ s.eligible c = true)
      ∧ ∀ d, (d ∈ s.dueQueue ∧ s.eligible d = true) → d ≠ c → s.before c d = true := by
  have hleast {c : Nat} (hc : s.firstEligible = some c) (d : Nat) (hd : d ∈ s.dueQueue ∧ s.eligible d = true)
      (hdc : d ≠ c) : s.before c d = true := by
    obtain ⟨hd, hok⟩ := hd
    have hle := find?_of_inOrder s (inOrder_dueQueue s) hc d hd hok
    rw [Bool.eq_false_iff, ne_eq, before_iff] at hle
    rw [before_iff]
    omega
  constructor
  · exact fun hc => ⟨⟨List.mem_of_find?_eq_some hc, eligible_of_firstEligible hc⟩, hleast hc⟩
  · rintro ⟨⟨hmem, hok⟩, hmin⟩
    cases hf : s.firstEligible with
    | none => exact absurd hok (List.find?_eq_none.mp hf c hmem)
    | some d =>
      by_contra hne
      have hdc : d ≠ c := fun h => hne (by rw [h])
      have h1 := hleast hf c ⟨hmem, hok⟩ hdc.symm
      have h2 := hmin d ⟨List.mem_of_find?_eq_some hf, eligible_of_firstEligible hf⟩ hdc
      rw [before_iff] at h1 h2
      omega

/-- The eligible entries of the due queue, read off the records. -/
theorem candidate_iff (c : Nat) :
    (c ∈ s.dueQueue ∧ s.eligible c = true)
      ↔ c < s.count ∧ (s.comp c).state = .holding ∧ s.due c = true ∧ (s.door c).kitchen.state = .latched
        ∧ (s.door c).counter.state = .latched ∧ .on c ∉ s.psc.channels := by
  have hunder : (s.comp c).state = .holding → (s.comp c).underHold = true := fun h => by simp [CompRec.underHold, h]
  simp only [mem_dueQueue, State.eligible, DoorRec.bothLatched, State.connected, Bool.and_eq_true, decide_eq_true_eq,
    Bool.not_eq_true', List.contains_eq_mem, decide_eq_false_iff_not]
  tauto

/-! ## The request and the answers (R50, R71, R72) -/

theorem requestClaim_cases (m : Nat) : (s.requestClaim m).1 = .claiming ∨ (s.requestClaim m).2 = s := by
  unfold State.requestClaim
  split
  · exact .inr rfl
  · split
    · exact .inl rfl
    · split
      · exact .inr rfl
      · split
        · exact .inl rfl
        · exact .inr rfl

/-- Only a request answered CLAIMING changes anything (R72). -/
theorem requestDraw_cases (m : Nat) : (s.requestDraw m).1 = .claiming ∨ (s.requestDraw m).2 = s := by
  unfold State.requestDraw
  split
  · exact .inr rfl
  · split
    · exact .inr rfl
    · split
      · exact .inr rfl
      · split
        · exact .inr rfl
        · split
          · exact requestClaim_cases s m
          · exact .inr rfl

theorem staggerEnded_iff : s.staggerEnded = true ↔ ∀ t, s.psc.lastActivation = some t → t + 500 ≤ s.now := by
  unfold State.staggerEnded
  cases s.psc.lastActivation with
  | none => simp
  | some t => exact decide_eq_true_iff.trans (by simp [Config.stagger])

theorem idleChannel_eq_some_iff (ch : Nat) :
    s.idleChannel = some ch ↔ s.psc.channels[ch]? = some .idle ∧ ∀ j, j < ch → s.psc.channels[j]? ≠ some .idle := by
  unfold State.idleChannel
  rw [List.findIdx?_eq_some_iff_getElem]
  constructor
  · rintro ⟨hlt, hidle, hfirst⟩
    refine ⟨by simpa [hlt] using hidle, fun j hj => ?_⟩
    have := hfirst j hj
    simpa [hj.trans hlt] using this
  · rintro ⟨hidle, hfirst⟩
    obtain ⟨hlt, hidle⟩ := List.getElem?_eq_some_iff.mp hidle
    refine ⟨hlt, by simpa using hidle, fun j hj => ?_⟩
    simpa [hj.trans hlt] using hfirst j hj

theorem idleChannel_eq_none_iff : s.idleChannel = none ↔ .idle ∉ s.psc.channels := by
  unfold State.idleChannel
  rw [List.findIdx?_eq_none_iff]
  simp only [decide_eq_false_iff_not]
  exact ⟨fun h hi => h _ hi rfl, fun h x hx hxi => h (hxi ▸ hx)⟩

theorem canActivate_iff (a : Answer) :
    s.canActivate a = true ↔ a = .permitted ∧ .idle ∈ s.psc.channels ∧ s.staggerEnded = true := by
  rw [State.canActivate, Bool.and_eq_true, Bool.and_eq_true, decide_eq_true_eq, Option.isSome_iff_ne_none, ne_eq,
    idleChannel_eq_none_iff, not_not, and_assoc]

theorem any_isRest_iff (chs : List Channel) : chs.any Channel.isRest = true ↔ ∃ t, Channel.rest t ∈ chs := by
  rw [List.any_eq_true]
  constructor
  · rintro ⟨x, hx, hrest⟩
    cases x with
    | rest t => exact ⟨t, hx⟩
    | idle => cases hrest
    | on c => cases hrest
  · exact fun ⟨t, ht⟩ => ⟨_, ht, rfl⟩

/-- An urgent candidate finds a channel in REST or no victim (R61). -/
theorem preempt_of_preemptsNone {c : Nat} (hu : s.urgent c = true) (h : s.PreemptsNone c) : s.preempt c = s := by
  unfold State.preempt
  rcases h with hcalm | hrest | hnone
  · simp [hu] at hcalm
  · rw [if_pos ((any_isRest_iff _).mpr hrest)]
  · have hvictim : s.largest (s.isVictim c) = none := by
      rw [largest_eq_none_iff]
      exact fun v hv => Bool.eq_false_iff.mpr fun hok => hnone v ((isVictim_iff s c v).mp ⟨hv, hok⟩)
    rw [hvictim]
    split <;> rfl

/-! ## The attempt (R50) -/

section Attempt

variable {s} {c : Nat} {a : Answer}

theorem attempt_eq (hc : s.firstEligible = some c) :
    s.attempt = (s.requestDraw (s.margin c)).2.actOn c (s.requestDraw (s.margin c)).1 := by
  simp only [State.attempt, hc]

theorem actOn_of_canActivate {ch : Nat} (hact : s.canActivate a = true) (hch : s.idleChannel = some ch) :
    s.actOn c a = s.activate c ch := by
  rw [State.actOn, if_pos hact, hch, Option.getD_some]

/-- An answer that neither lets a pulse start nor calls for a preemption. -/
theorem actOn_of_neither (hact : s.canActivate a = false) (ha : a ≠ .refused)
    (hidle : a = .permitted → .idle ∈ s.psc.channels) : s.actOn c a = s := by
  rw [State.actOn, hact, if_neg Bool.false_ne_true, if_neg]
  simp only [Bool.and_eq_true, Bool.or_eq_true, decide_eq_true_eq, Option.isNone_iff_eq_none]
  rintro ⟨-, hrefused | ⟨hpermitted, hnone⟩⟩
  · exact ha hrefused
  · exact (idleChannel_eq_none_iff s).mp hnone (hidle hpermitted)

/-- Refused, or permitted without an IDLE channel: an urgent candidate may preempt (R61). -/
theorem actOn_of_unstarted (ha : a = .refused ∨ (a = .permitted ∧ .idle ∉ s.psc.channels)) :
    s.actOn c a = if s.urgent c then s.preempt c else s := by
  have hact : ¬s.canActivate a = true := by
    rw [canActivate_iff]
    rintro ⟨hp, hidle, -⟩
    rcases ha with rfl | ⟨-, hnone⟩
    · cases hp
    · exact hnone hidle
  have hwants : (a = .refused || (a = .permitted && s.idleChannel.isNone)) = true := by
    simpa [idleChannel_eq_none_iff] using ha
  rw [State.actOn, if_neg hact]
  simp only [hwants, Bool.and_true]

end Attempt

end Sys2Proof.Machine
end

section
/-! SUPPORT. The heater law in service (R43): each channel that is ON is paired with the RUNNING pulse of the
compartment it drives, and that compartment is HOLDING behind two LATCHED doors. -/

namespace Sys2Proof.Machine

/-! ## The law and the law but for one compartment -/

/-- What R43 asks of a compartment that a channel drives. -/
def State.Heatable (s : State) (c : Nat) : Prop := (s.comp c).state = .holding ∧ (s.door c).bothLatched = true

/-- The ON channels and the RUNNING pulses name each other. -/
def State.Paired (s : State) : Prop :=
  ∀ ch c, s.psc.channels[ch]? = some (.on c) ↔ (s.comp c).pulse.map Pulse.state = some (.running ch)

/-- In service, the heater law but for the state and the doors of compartment `c`. -/
structure State.WiredBut (s : State) (c : Nat) : Prop where
  running : s.running = true
  paired : s.Paired
  heatable : ∀ d, d ≠ c → s.connected d = true → s.Heatable d

/-- In service, the heater law. -/
structure State.Wired (s : State) : Prop where
  running : s.running = true
  paired : s.Paired
  heatable : ∀ d, s.connected d = true → s.Heatable d

variable {s t : State} {c : Nat}

theorem connected_iff (s : State) (c : Nat) :
    s.connected c = true ↔ ∃ ch : Nat, s.psc.channels[ch]? = some (Channel.on c) := by
  rw [State.connected, List.contains_iff_mem, List.mem_iff_getElem?]

theorem running_iff (s : State) : s.running = true ↔ s.sul.phase = .running := decide_eq_true_iff

theorem State.Wired.but (h : s.Wired) (c : Nat) : s.WiredBut c := ⟨h.running, h.paired, fun d _ => h.heatable d⟩

theorem State.WiredBut.wired (h : s.WiredBut c) (hc : s.connected c = true → s.Heatable c) : s.Wired := by
  refine ⟨h.running, h.paired, fun d hd => ?_⟩
  by_cases hdc : d = c
  · subst hdc
    exact hc hd
  · exact h.heatable d hdc hd

/-- Beyond the fitted compartments every record reads as FREE. -/
theorem comp_eq_free (s : State) (hc : ¬c < s.comps.length) : s.comp c = .free := by
  simp [State.comp, List.getD_eq_getElem?_getD, Nat.le_of_not_lt hc]

/-- A compartment that a channel drives is fitted: it has a pulse. -/
theorem State.Paired.lt_count (h : s.Paired) {ch : Nat} (hch : s.psc.channels[ch]? = some (.on c)) :
    c < s.comps.length := by
  have hp := (h ch c).mp hch
  by_contra hlt
  simp [comp_eq_free s hlt, CompRec.free] at hp

/-- Outside a cold start the heater law is the pairing, and what R43 asks of the driven compartments. -/
theorem heaterLaw_iff (hphase : s.sul.phase ≠ .coldStart) :
    s.HeaterLaw ↔ s.Paired ∧ ∀ c, s.connected c = true → s.Heatable c := by
  simp only [connected_iff]
  constructor
  · rintro ⟨hon, hrun, -⟩
    refine ⟨fun ch c => ⟨fun hch => ?_, hrun ch c⟩, fun c hc => ?_⟩
    · obtain ⟨-, -, -, hp⟩ := hon ch c hch
      exact hp
    · obtain ⟨ch, hch⟩ := hc
      obtain ⟨-, hst, hd, -⟩ := hon ch c hch
      exact ⟨hst, hd⟩
  · rintro ⟨hpaired, hheat⟩
    refine ⟨fun ch c hch => ?_, fun ch c => (hpaired ch c).mpr, fun hp => absurd hp hphase⟩
    obtain ⟨hst, hd⟩ := hheat c ⟨ch, hch⟩
    exact ⟨hpaired.lt_count hch, hst, hd, (hpaired ch c).mp hch⟩

theorem State.Wired.heaterLaw (h : s.Wired) : s.HeaterLaw := by
  have hphase := (running_iff s).mp h.running
  exact (heaterLaw_iff (by simp [hphase])).mpr ⟨h.paired, h.heatable⟩

theorem State.HeaterLaw.wired (h : s.HeaterLaw) (hrun : s.running = true) : s.Wired := by
  have hphase := (running_iff s).mp hrun
  obtain ⟨hpaired, hheat⟩ := (heaterLaw_iff (by simp [hphase])).mp h
  exact ⟨hrun, hpaired, hheat⟩

/-! ## Changes that no channel sees -/

@[simp] theorem wake_channels (s : State) : s.wake.psc.channels = s.psc.channels := rfl
@[simp] theorem drawSettled_channels (s : State) : s.drawSettled.psc.channels = s.psc.channels := rfl
@[simp] theorem asleep_channels (s : State) : s.asleep.psc.channels = s.psc.channels := rfl
@[simp] theorem peerDrawFell_channels (s : State) : s.peerDrawFell.psc.channels = s.psc.channels := rfl

/-- `t` has the phase, the compartment and door records and the channels of `s`, all that the heater law reads. -/
@[simp] def State.HeatsAs (t s : State) : Prop :=
  t.sul.phase = s.sul.phase ∧ t.comps = s.comps ∧ t.doors = s.doors ∧ t.psc.channels = s.psc.channels

theorem State.Wired.frame (h : s.Wired) (hkept : t.HeatsAs s) : t.Wired := by
  obtain ⟨hphase, hcomps, hdoors, hchannels⟩ := hkept
  obtain ⟨hrun, hpaired, hheat⟩ := h
  refine ⟨?_, ?_, ?_⟩
  · simpa only [State.running, hphase] using hrun
  · simpa only [State.Paired, State.comp, hcomps, hchannels] using hpaired
  · simpa only [State.Heatable, State.connected, State.comp, State.door, hcomps, hdoors, hchannels] using hheat

theorem State.Wired.modReading (h : s.Wired) (c : Nat) (f : ReadingRec → ReadingRec) : (s.modReading c f).Wired :=
  h.frame (by simp)

theorem State.HeaterLaw.frame (h : s.HeaterLaw) (hkept : t.HeatsAs s) : t.HeaterLaw := by
  obtain ⟨hphase, hcomps, hdoors, hchannels⟩ := hkept
  simpa only [State.HeaterLaw, State.comp, State.door, hphase, hcomps, hdoors, hchannels] using h

/-! ## Updates of one record -/

/-- An update of a record that keeps its pulse keeps the pairing. -/
theorem State.Paired.modComp (h : s.Paired) {f : CompRec → CompRec} (hpulse : (f (s.comp c)).pulse = (s.comp c).pulse) :
    (s.modComp c f).Paired := by
  intro ch d
  have hp : ((s.modComp c f).comp d).pulse = (s.comp d).pulse := by
    rw [comp_modComp]
    split
    · next hcd =>
      obtain ⟨rfl, -⟩ := hcd
      exact hpulse
    · rfl
  rw [hp]
  exact h ch d

theorem State.WiredBut.modComp (h : s.WiredBut c) {f : CompRec → CompRec}
    (hpulse : (f (s.comp c)).pulse = (s.comp c).pulse) : (s.modComp c f).WiredBut c := by
  refine ⟨h.running, h.paired.modComp hpulse, fun d hdc hd => ?_⟩
  obtain ⟨hst, hlatched⟩ := h.heatable d hdc hd
  exact ⟨by rwa [comp_modComp, if_neg (fun hcd => hdc hcd.1.symm)], hlatched⟩

/-- An update of a record that keeps its pulse, and HOLDING where a channel drives it. -/
theorem State.Wired.modComp (h : s.Wired) {f : CompRec → CompRec} (hpulse : (f (s.comp c)).pulse = (s.comp c).pulse)
    (hstate : s.connected c = true → (f (s.comp c)).state = .holding) : (s.modComp c f).Wired := by
  refine ((h.but c).modComp hpulse).wired fun hc => ?_
  obtain ⟨hst, hlatched⟩ := h.heatable c hc
  refine ⟨?_, hlatched⟩
  rw [comp_modComp]
  split
  · exact hstate hc
  · exact hst

/-- An update of a record that keeps its state and its pulse. -/
theorem State.Wired.annotate (h : s.Wired) (c : Nat) {f : CompRec → CompRec}
    (hpulse : (f (s.comp c)).pulse = (s.comp c).pulse) (hstate : (f (s.comp c)).state = (s.comp c).state) :
    (s.modComp c f).Wired :=
  h.modComp hpulse fun hc => hstate.trans (h.heatable c hc).1

/-- An update of the record of a compartment that is not HOLDING: no channel drives it. -/
theorem State.Wired.modComp_of_not_holding (h : s.Wired) (hst : (s.comp c).state ≠ .holding) {f : CompRec → CompRec}
    (hpulse : (f (s.comp c)).pulse = (s.comp c).pulse) : (s.modComp c f).Wired :=
  h.modComp hpulse fun hc => absurd (h.heatable c hc).1 hst

theorem State.WiredBut.modDoor (h : s.WiredBut c) (g : DoorRec → DoorRec) : (s.modDoor c g).WiredBut c := by
  refine ⟨h.running, h.paired, fun d hdc hd => ?_⟩
  obtain ⟨hst, hlatched⟩ := h.heatable d hdc hd
  exact ⟨hst, by rwa [door_modDoor, if_neg (fun hcd => hdc hcd.1.symm)]⟩

/-- A change of doors that leaves both sides LATCHED where they were. -/
theorem State.Wired.modDoor (h : s.Wired) {g : DoorRec → DoorRec}
    (hg : (s.door c).bothLatched = true → (g (s.door c)).bothLatched = true) : (s.modDoor c g).Wired := by
  refine ((h.but c).modDoor g).wired fun hc => ?_
  obtain ⟨hst, hlatched⟩ := h.heatable c hc
  refine ⟨hst, ?_⟩
  rw [door_modDoor]
  split
  · exact hg hlatched
  · exact hlatched

/-! ## The end of heating (R37, R42, R55, R56, R59) -/

/-- `t` is `s` with nothing heating `c`: its channel released, its pulse off or gone, the other records as they were. -/
structure State.HeatOff (s : State) (c : Nat) (t : State) : Prop where
  phase : t.sul.phase = s.sul.phase
  doors : t.doors = s.doors
  channels : t.psc.channels = releasedChannels c s.now s.psc.channels
  pulse : ∀ ch, (t.comp c).pulse.map Pulse.state ≠ some (.running ch)
  others : ∀ d, d ≠ c → t.comp d = s.comp d

theorem releasedChannels_on_iff (c d : Nat) (now : Time) (chs : List Channel) (ch : Nat) :
    (releasedChannels c now chs)[ch]? = some (.on d) ↔ d ≠ c ∧ chs[ch]? = some (.on d) := by
  simp only [releasedChannels, List.getElem?_map, Option.map_eq_some_iff]
  constructor
  · rintro ⟨x, hx, hon⟩
    split at hon
    · cases hon
    · next hne =>
      subst hon
      exact ⟨fun hdc => hne (by rw [hdc]), hx⟩
  · rintro ⟨hne, hx⟩
    exact ⟨_, hx, if_neg (by simpa using hne)⟩

theorem State.HeatOff.connected (h : s.HeatOff c t) : t.connected c = false := by
  rw [Bool.eq_false_iff, ne_eq, connected_iff]
  rintro ⟨ch, hch⟩
  rw [h.channels, releasedChannels_on_iff] at hch
  exact hch.1 rfl

/-- With nothing heating `c`, the law that held but for `c` holds. -/
theorem State.WiredBut.heatOff (h : s.WiredBut c) (ht : s.HeatOff c t) : t.Wired := by
  refine ⟨?_, fun ch d => ?_, fun d hd => ?_⟩
  · simpa only [State.running, ht.phase] using h.running
  · rw [ht.channels, releasedChannels_on_iff]
    by_cases hdc : d = c
    · subst hdc
      simpa using ht.pulse ch
    · rw [ht.others d hdc]
      simpa [hdc] using h.paired ch d
  · obtain ⟨ch, hch⟩ := (connected_iff t d).mp hd
    rw [ht.channels, releasedChannels_on_iff] at hch
    obtain ⟨hdc, hch⟩ := hch
    obtain ⟨hst, hlatched⟩ := h.heatable d hdc ((connected_iff s d).mpr ⟨ch, hch⟩)
    exact ⟨by rwa [ht.others d hdc], by simpa only [State.door, ht.doors] using hlatched⟩

/-! ## Operations on one compartment -/

theorem comp_setEst (s : State) (c d : Nat) (e : Option Estimate) :
    (s.setEst c e).comp d = (s.modComp c fun r => { r with est := e }).comp d := by
  unfold State.comp
  rw [setEst_comps]
  rfl

theorem comp_setEst_of_ne (s : State) {c d : Nat} (hdc : d ≠ c) (e : Option Estimate) :
    (s.setEst c e).comp d = s.comp d := by
  rw [comp_setEst, comp_modComp, if_neg (fun hcd => hdc hcd.1.symm)]

theorem comp_creditPoint_of_ne (s : State) {c d : Nat} (hdc : d ≠ c) : (s.creditPoint c).comp d = s.comp d := by
  unfold State.creditPoint
  split
  · rfl
  · exact comp_setEst_of_ne s hdc _

theorem comp_setPulse_of_ne (s : State) {c d : Nat} (hdc : d ≠ c) (p : Option Pulse) :
    (s.setPulse c p).comp d = s.comp d := by
  rw [State.setPulse, comp_modComp, if_neg (fun hcd => hdc hcd.1.symm)]

/-- A pulse record that is not RUNNING takes the place of the one of `c`. -/
theorem setPulse_not_running (s : State) (c : Nat) {p : Option Pulse}
    (hp : ∀ ch, p.map Pulse.state ≠ some (.running ch)) (ch : Nat) :
    ((s.setPulse c p).comp c).pulse.map Pulse.state ≠ some (.running ch) := by
  rw [State.setPulse, comp_modComp]
  split
  · exact hp ch
  · next hc =>
    simp [comp_eq_free s (fun hlt => hc ⟨rfl, hlt⟩), CompRec.free]

theorem release_comp (s : State) (c d : Nat) : (s.release c).comp d = s.comp d := by simp [State.comp]

theorem heatOff_endPulse (s : State) (c : Nat) (p : Pulse) : s.HeatOff c (s.endPulse c p) where
  phase := by simp
  doors := by simp
  channels := (creditPoint_channels _ c).trans (release_channels s c)
  pulse := setPulse_not_running _ c (by simp)
  others := fun d hdc => by
    show (((s.release c).creditPoint c).setPulse c none).comp d = s.comp d
    rw [comp_setPulse_of_ne _ hdc, comp_creditPoint_of_ne _ hdc, release_comp]

theorem heatOff_suspend (s : State) {c : Nat} {p : Pulse} (hp : s.runningPulse c = some p) :
    s.HeatOff c (s.suspend c) where
  phase := by simp
  doors := by simp
  channels := suspend_channels s c (by simp [hp])
  pulse := by
    unfold State.suspend
    rw [hp]
    dsimp only [State.suspendPulse]
    split
    · exact (heatOff_endPulse s c p).pulse
    · refine setPulse_not_running _ c fun ch => ?_
      split <;> simp
  others := fun d hdc => by
    unfold State.suspend
    rw [hp]
    dsimp only [State.suspendPulse]
    split
    · exact (heatOff_endPulse s c p).others d hdc
    · rw [comp_setPulse_of_ne _ hdc]
      show ((s.release c).creditPoint c).comp d = s.comp d
      rw [comp_creditPoint_of_ne _ hdc, release_comp]

theorem comp_dropHold (s : State) (c d : Nat) :
    (s.dropHold c).comp d = (s.modComp c fun r => { r with est := none, pulse := none }).comp d := by
  unfold State.comp
  rw [dropHold_comps]
  rfl

theorem dropHold_pulse (s : State) (c : Nat) : ((s.dropHold c).comp c).pulse = none := by
  rw [comp_dropHold, comp_modComp]
  split
  · rfl
  · next hc => rw [comp_eq_free s (fun hlt => hc ⟨rfl, hlt⟩), CompRec.free]

theorem heatOff_dropHold (s : State) (c : Nat) : s.HeatOff c (s.dropHold c) where
  phase := by simp
  doors := by simp
  channels := by
    refine (setEst_channels _ c none).trans ((release_channels (s.cutRun c) c).trans ?_)
    rw [cutRun_psc, cutRun_now]
  pulse := fun ch => by simp [dropHold_pulse]
  others := fun d hdc => by rw [comp_dropHold, comp_modComp, if_neg (fun hcd => hdc hcd.1.symm)]

end Sys2Proof.Machine
end

section
/-! SUPPORT. Pulses, draw and start attempts keep the heater law (R41 to R43, R50, R55 to R61, R81). -/

namespace Sys2Proof.Machine

variable {s : State} {c : Nat}

/-! ## Pulses -/

theorem State.Wired.endPulse (h : s.Wired) (c : Nat) (p : Pulse) : (s.endPulse c p).Wired :=
  (h.but c).heatOff (heatOff_endPulse s c p)

/-- A suspension restores the law where a compartment ceased to be HOLDING behind LATCHED doors (R57). -/
theorem State.WiredBut.suspend (h : s.WiredBut c) : (s.suspend c).Wired := by
  cases hp : s.runningPulse c with
  | some p => exact h.heatOff (heatOff_suspend s hp)
  | none =>
    rw [suspend_of_not_running s c hp]
    refine h.wired fun hc => ?_
    obtain ⟨ch, hch⟩ := (connected_iff s c).mp hc
    obtain ⟨p, hpulse, hstate⟩ := Option.map_eq_some_iff.mp ((h.paired ch c).mp hch)
    rw [runningPulse_eq s hpulse hstate] at hp
    cases hp

theorem State.Wired.suspend (h : s.Wired) (c : Nat) : (s.suspend c).Wired := (h.but c).suspend

theorem State.Wired.dropHold (h : s.Wired) (c : Nat) : (s.dropHold c).Wired := (h.but c).heatOff (heatOff_dropHold s c)

/-- A hold dropped within an update of its record (R37, R59). -/
theorem State.Wired.dropHold_modComp (h : s.Wired) (c : Nat) {f : CompRec → CompRec}
    (hf : ∀ r, r.pulse = none → (f r).pulse = none) : ((s.dropHold c).modComp c f).Wired := by
  have hoff := (heatOff_dropHold s c).connected
  have hp := dropHold_pulse s c
  exact (h.dropHold c).modComp ((hf _ hp).trans hp.symm) fun hc => by simp [hoff] at hc

theorem State.Wired.setEst (h : s.Wired) (c : Nat) (e : Option Estimate) : (s.setEst c e).Wired := by
  have hset : (s.modComp c fun r => { r with est := e }).Wired := h.annotate c rfl rfl
  exact hset.frame ⟨by simp, setEst_comps s c e, by simp, setEst_channels s c e⟩

/-! ## Activation (R41, R48, R52) -/

/-- `t` is `s` with channel `ch` driving `c`, the other records as they were. -/
structure State.HeatOn (s : State) (c ch : Nat) (t : State) : Prop where
  phase : t.sul.phase = s.sul.phase
  doors : t.doors = s.doors
  channels : t.psc.channels = s.psc.channels.set ch (.on c)
  pulse : (t.comp c).pulse.map Pulse.state = some (.running ch)
  state : (t.comp c).state = (s.comp c).state
  others : ∀ d, d ≠ c → t.comp d = s.comp d

theorem heatOn_activate (s : State) {c : Nat} {e : Estimate} (hc : c < s.count) (he : (s.comp c).est = some e)
    (ch : Nat) : s.HeatOn c ch (s.activate c ch) := by
  have hself := comp_modComp_self s c (fun r => { r with
    pulse := some { state := .running ch, planned := runLength (s.mealClass r) e.temp r.pulse, run := 0,
                    start := s.now } }) hc
  rw [activate_eq s he ch]
  refine ⟨rfl, rfl, rfl, ?_, ?_, fun d hdc => (comp_modComp s c d _).trans (if_neg fun hcd => hdc hcd.1.symm)⟩
  · exact congrArg (fun r => r.pulse.map Pulse.state) hself
  · exact (congrArg CompRec.state hself :)

theorem set_on_iff {chs : List Channel} {ch : Nat} (hidle : chs[ch]? = some .idle) (c i d : Nat) :
    (chs.set ch (.on c))[i]? = some (.on d) ↔ (i = ch ∧ d = c) ∨ chs[i]? = some (.on d) := by
  obtain ⟨hlt, -⟩ := List.getElem?_eq_some_iff.mp hidle
  rw [List.getElem?_set]
  by_cases hi : ch = i
  · subst hi
    rw [hidle]
    simp [hlt, eq_comm]
  · simp [hi, Ne.symm hi]

theorem eligible_iff (s : State) (c : Nat) : s.eligible c = true ↔ s.Heatable c ∧ s.connected c = false := by
  simp [State.eligible, State.Heatable]

/-- An IDLE channel that takes an eligible compartment keeps the law. -/
theorem State.Wired.heatOn (h : s.Wired) {t : State} {ch : Nat} (hc : s.eligible c = true)
    (hidle : s.psc.channels[ch]? = some .idle) (ht : s.HeatOn c ch t) : t.Wired := by
  obtain ⟨⟨hst, hlatched⟩, hoff⟩ := (eligible_iff s c).mp hc
  have hon (i d : Nat) :
      t.psc.channels[i]? = some (.on d) ↔ (i = ch ∧ d = c) ∨ s.psc.channels[i]? = some (.on d) := by
    rw [ht.channels, set_on_iff hidle]
  have hdoor (d : Nat) : t.door d = s.door d := by simp only [State.door, ht.doors]
  refine ⟨by simpa only [State.running, ht.phase] using h.running, fun i d => ?_, fun d hd => ?_⟩
  · rw [hon]
    by_cases hdc : d = c
    · subst hdc
      have hnone : ¬s.psc.channels[i]? = some (.on d) := fun hi => by
        simp [(connected_iff s d).mpr ⟨i, hi⟩] at hoff
      rw [ht.pulse]
      simp [hnone, eq_comm]
    · rw [ht.others d hdc]
      simpa [hdc] using h.paired i d
  · obtain ⟨i, hi⟩ := (connected_iff t d).mp hd
    by_cases hdc : d = c
    · subst hdc
      exact ⟨ht.state.trans hst, by rwa [hdoor]⟩
    · have hi := ((hon i d).mp hi).resolve_left fun hcd => hdc hcd.2
      obtain ⟨hst, hlatched⟩ := h.heatable d ((connected_iff s d).mpr ⟨i, hi⟩)
      exact ⟨by rwa [ht.others d hdc], by rwa [hdoor]⟩

theorem State.Wired.activate (h : s.Wired) {ch : Nat} (hc : s.eligible c = true)
    (hidle : s.psc.channels[ch]? = some .idle) : (s.activate c ch).Wired := by
  obtain ⟨⟨hst, -⟩, -⟩ := (eligible_iff s c).mp hc
  cases he : (s.comp c).est with
  | none => simpa [State.activate, he] using h
  | some e => exact h.heatOn hc hidle (heatOn_activate s (lt_count_of_not_free s c (by simp [hst])) he ch)

/-! ## Reductions, draw and start attempts -/

/-- A reduction order is a run of suspensions (R58). -/
theorem State.Wired.reduce (h : s.Wired) (limit n : Nat) : (reduce limit n s).Wired := by
  induction n generalizing s with
  | zero => exact h
  | succ n ih =>
    unfold Machine.reduce
    split
    · exact h
    · split
      · exact h
      · exact ih (h.suspend _)

theorem State.Wired.reduceTo (h : s.Wired) (limit : Nat) : (s.reduceTo limit).Wired := h.reduce limit _

theorem State.Wired.overrunTest (h : s.Wired) : s.overrunTest.Wired := by
  have hdropped : s.dropClaim.Wired := h.frame (by simp)
  unfold State.overrunTest
  split
  · exact (hdropped.reduceTo s.share).frame (by simp)
  · exact h

theorem State.Wired.settleDraw (h : s.Wired) : s.settleDraw.Wired := by
  have hqueued : s.drawSettled.queueDraw.Wired := h.frame (by simp)
  unfold State.settleDraw
  dsimp only
  split
  · split
    · exact hqueued.overrunTest.frame (by simp)
    · exact hqueued.overrunTest
  · exact h

theorem State.Wired.preempt (h : s.Wired) (c : Nat) : (s.preempt c).Wired := by
  unfold State.preempt
  split
  · exact h
  · split
    · exact h
    · exact h.suspend _

theorem State.Wired.actOn (h : s.Wired) (hc : s.eligible c = true) (a : Answer) : (s.actOn c a).Wired := by
  unfold State.actOn
  split
  · next hact =>
    obtain ⟨-, hidle, -⟩ := (canActivate_iff s a).mp hact
    obtain ⟨ch, hch⟩ := Option.ne_none_iff_exists'.mp (mt (idleChannel_eq_none_iff s).mp (not_not.mpr hidle))
    obtain ⟨hch', -⟩ := (idleChannel_eq_some_iff s ch).mp hch
    rw [hch]
    exact h.activate hc hch'
  · split
    · exact h.preempt c
    · exact h

theorem State.Wired.attempt (h : s.Wired) : s.attempt.Wired := by
  unfold State.attempt
  split
  · exact h
  · next c hc =>
    have hasked : (s.requestDraw (s.margin c)).2.Wired := h.frame (by simp)
    refine hasked.actOn ?_ _
    rw [← eligible_of_firstEligible hc]
    simp [State.eligible, State.comp, State.door, State.connected]

theorem State.Wired.useGrant (h : s.Wired) : s.useGrant.Wired := by
  unfold State.useGrant
  split
  · exact h.frame (by simp)
  · next c hc =>
    have hacted := h.actOn (eligible_of_firstEligible hc) .permitted
    split
    · exact hacted
    · exact hacted.frame (by simp)

theorem State.Wired.runAttempts (h : s.Wired) (n : Nat) : (runAttempts n s).Wired := by
  induction n generalizing s with
  | zero => exact h.frame (by simp [Machine.runAttempts])
  | succ n ih =>
    have hasleep : s.asleep.Wired := h.frame (by simp)
    unfold Machine.runAttempts
    split
    · exact ih hasleep.attempt.settleDraw
    · exact h

/-- The end of an event keeps the law. -/
theorem State.Wired.close (h : s.Wired) : s.close.Wired :=
  (h.settleDraw.runAttempts 4).frame (by simp [State.close])

end Sys2Proof.Machine
end

section
/-! SUPPORT. The Compartment Table and the Door Arbiter keep the heater law (R7 to R18, R57, R116 to R128). -/

namespace Sys2Proof.Machine

variable {s : State} {c : Nat}

/-! ## Operations of the Compartment Table -/

@[simp] theorem setService_phase (s : State) (m : ServiceMode) : (s.setService m).sul.phase = s.sul.phase := by
  simp [State.setService]

@[simp] theorem shutIfEmptied_phase (before s : State) : (before.shutIfEmptied s).sul.phase = s.sul.phase := by
  unfold State.shutIfEmptied
  split <;> simp

theorem State.Wired.condemn (h : s.Wired) (c : Nat) (reason : CondemnReason) : (s.condemn c reason).Wired := by
  have hcondemned : ((s.dropHold c).modComp c fun r =>
      { r with state := .condemned, condemn := some reason, prior := none }).Wired :=
    h.dropHold_modComp c fun _ hr => hr
  exact hcondemned.frame (by simp [State.condemn])

theorem State.Wired.condemnReport (h : s.Wired) (c : Nat) (reason : CondemnReason) :
    (s.condemnReport c reason).Wired := by
  unfold State.condemnReport
  split
  · exact h.condemn c reason
  · exact h

theorem State.Wired.forcedReport (h : s.Wired) (c : Nat) : (s.forcedReport c).Wired := by
  unfold State.forcedReport
  split
  · exact h.condemn c .forced
  · split
    · exact h.annotate c rfl rfl
    · exact h

theorem State.Wired.faultEntry (h : s.Wired) (c : Nat) (reason : FaultReason) : (s.faultEntry c reason).Wired := by
  have hfaulted : ((s.dropHold c).modComp c fun q =>
      { q with state := .faulted, fault := some reason, mealPresent := some (s.presence c), probe := none,
               condemn := (s.comp c).faultCondemn (s.presence c) }).Wired :=
    h.dropHold_modComp c fun _ hr => hr
  unfold State.faultEntry
  dsimp only
  split
  · exact hfaulted.frame (by simp)
  · exact hfaulted.frame (by simp)

theorem State.Wired.faultAttending (h : s.Wired) (c : Nat) (reason : FaultReason) :
    (s.faultAttending c reason).Wired := by
  have hnoted : (s.modComp c fun q =>
      { q with fault := some reason, mealPresent := some (s.presence c) }).Wired := h.annotate c rfl rfl
  unfold State.faultAttending
  dsimp only
  generalize (s.modComp c fun q => { q with fault := some reason, mealPresent := some (s.presence c) }) = s1
    at hnoted ⊢
  split
  · have hdropped : ((s1.dropHold c).modComp c fun q =>
        { q with prior := some .faulted, condemn := some .fault }).Wired :=
      hnoted.dropHold_modComp c fun _ hr => hr
    exact hdropped.frame (by simp)
  · have hmoved : (s1.modComp c fun q => { q with prior := some .faulted }).Wired := hnoted.annotate c rfl rfl
    exact hmoved.frame (by simp)
  · exact hnoted
  · exact hnoted

theorem State.Wired.faultReport (h : s.Wired) (c : Nat) (reason : FaultReason) : (s.faultReport c reason).Wired := by
  have hentry : (s.shutIfEmptied (s.faultEntry c reason)).Wired := (h.faultEntry c reason).frame (by simp)
  unfold State.faultReport
  split
  case h_6 => exact h.faultAttending c reason
  case h_7 => exact h.annotate c rfl rfl
  case h_8 => exact h
  all_goals exact hentry

/-! ## Ends of door holds (R7 to R13, R17) -/

theorem State.Wired.makeFree (h : s.Wired) (c : Nat) : (s.makeFree c).Wired :=
  h.dropHold_modComp c (f := fun _ => CompRec.free) fun _ _ => rfl

theorem State.Wired.recheck (h : s.Wired) (c : Nat) : (s.recheck c).Wired := by
  unfold State.recheck
  split
  · exact h.condemn c _
  · exact h.modComp rfl fun _ => rfl

theorem State.Wired.holdStarts (h : s.Wired) (c : Nat) : (s.holdStarts c).Wired := by
  have hnoted : (s.modComp c fun q => { q with holdStart := some s.now, probe := none }).Wired := h.annotate c rfl rfl
  unfold State.holdStarts
  dsimp only
  split
  · exact hnoted.condemn c .forced
  · split
    · exact hnoted
    · next m _ =>
      have hheld : ((s.modComp c fun q => { q with holdStart := some s.now, probe := none }).modComp c fun q =>
          { q with state := .holding }).Wired := hnoted.modComp rfl fun _ => rfl
      exact (hheld.setEst c (some (Estimate.start (s.cls m.cls) (s.comp c).probe s.now m.limit))).frame (by simp)

theorem State.Wired.loadingEnd (h : s.Wired) (c : Nat) (k : HoldEnd) : (s.loadingEnd c k).Wired := by
  unfold State.loadingEnd
  split
  · exact h.holdStarts c
  · exact h.makeFree c
  · exact (h.makeFree c).frame (by simp)
  · exact h.makeFree c

theorem State.Wired.queueGone (h : s.Wired) (c : Nat) (reason : GoneReason) : (s.queueGone c reason).Wired :=
  h.frame (by simp)

theorem State.Wired.collectionEnd (h : s.Wired) (c : Nat) (k : HoldEnd) : (s.collectionEnd c k).Wired := by
  unfold State.collectionEnd
  split
  · exact (h.queueGone c _).makeFree c
  · dsimp only
    split
    · exact (h.recheck c).annotate c rfl rfl
    · exact h.recheck c

/-- No channel drives an ATTENDING compartment, so any state may follow. -/
theorem State.Wired.attendanceEnd (h : s.Wired) (hst : (s.comp c).state = .attending) (k : HoldEnd) :
    (s.attendanceEnd c k).Wired := by
  have hoff : (s.comp c).state ≠ .holding := by simp [hst]
  unfold State.attendanceEnd
  split
  case h_1 =>
    refine State.Wired.modReading (State.Wired.makeFree ?_ c) c _
    split
    · exact h.queueGone c _
    · exact h
  case h_2 => exact h.recheck c
  case h_6 => exact h
  all_goals exact h.modComp_of_not_holding hoff rfl

theorem State.Wired.faultedEnd (h : s.Wired) (c : Nat) (k : HoldEnd) : (s.faultedEnd c k).Wired := by
  unfold State.faultedEnd
  split
  · exact h.annotate c rfl rfl
  · exact h

theorem State.Wired.tableHoldEnd (h : s.Wired) (c : Nat) (k : HoldEnd) : (s.tableHoldEnd c k).Wired := by
  unfold State.tableHoldEnd
  split
  case h_1 => exact h.loadingEnd c k
  case h_2 => exact h.collectionEnd c k
  case h_3 hst => exact h.attendanceEnd hst k
  case h_4 => exact h.faultedEnd c k
  all_goals exact h

/-! ## Seizes and requests (R10, R12, R57, R116, R123 to R125) -/

/-- A granted seize suspends the pulse that the opened side puts out of the law (R57). -/
theorem State.WiredBut.grantSeize (h : s.WiredBut c) (sd : Side) : (s.grantSeize c sd).Wired :=
  (h.modDoor _).suspend

theorem State.Wired.enterAttending (h : s.Wired) (c : Nat) : (s.enterAttending c).Wired :=
  ((h.but c).modComp (f := fun r => { r with state := .attending, prior := r.state.asPrior }) rfl).grantSeize .kitchen

theorem State.Wired.grantCollection (h : s.Wired) (c : Nat) : (s.grantCollection c).Wired :=
  ((h.but c).modComp (f := fun r => { r with state := .collecting }) rfl).grantSeize .counter

theorem State.Wired.acceptLoad (h : s.Wired) (c tag code cls limit : Nat) (probe : Option Nat) :
    (s.acceptLoad c tag code cls limit probe).Wired :=
  State.WiredBut.grantSeize ((h.but c).modComp rfl) .kitchen

theorem State.Wired.forget (h : s.Wired) (c : Nat) (sd : Side) : (s.forget c sd).Wired :=
  h.modDoor fun hd => by cases sd <;> exact hd

theorem State.Wired.reevalKitchen (h : s.Wired) (c : Nat) : (s.reevalKitchen c).Wired := by
  have hforgot := h.forget c .kitchen
  unfold State.reevalKitchen
  split
  · exact h
  · split
    · exact h
    · split
      · split
        · exact (hforgot.enterAttending c).frame (by simp)
        · exact h
      · exact hforgot.frame (by simp)

theorem State.Wired.reevalCounter (h : s.Wired) (c : Nat) : (s.reevalCounter c).Wired := by
  have hforgot := h.forget c .counter
  unfold State.reevalCounter
  split
  · exact h
  · split
    · exact h
    · split
      · split
        · exact (hforgot.grantCollection c).frame (by simp)
        · exact h
      · exact hforgot.frame (by simp)

theorem State.Wired.reeval (h : s.Wired) (sd : Side) (c : Nat) : (s.reeval sd c).Wired := by
  cases sd with
  | kitchen => exact h.reevalKitchen c
  | counter => exact h.reevalCounter c

theorem State.Wired.reevalSide (h : s.Wired) (sd : Side) : (s.reevalSide sd).Wired :=
  List.foldlRecOn (motive := State.Wired) _ _ h fun _ ht c _ => ht.reeval sd c

theorem State.Wired.reevalBoth (h : s.Wired) (c : Nat) : (s.reevalBoth c).Wired := by
  have hboth := (h.reeval .kitchen c).reeval .counter c
  unfold State.reevalBoth
  split
  · split
    · exact hboth
    · exact (h.reeval .counter c).reeval .kitchen c
  · exact hboth

/-! ## The course of a hold (R118 to R122, R127) -/

theorem bothLatched_iff (d : DoorRec) : d.bothLatched = true ↔ ∀ sd, (d.side sd).state = .latched := by
  simp only [DoorRec.bothLatched, Bool.and_eq_true, decide_eq_true_eq]
  exact ⟨fun ⟨hk, hc⟩ sd => by cases sd <;> assumption, fun h => ⟨h .kitchen, h .counter⟩⟩

/-- A side that latches leaves the other as it was (R122). -/
theorem bothLatched_latch {d : DoorRec} (sd : Side) (h : d.bothLatched = true) :
    (d.modSide sd SideRec.latch).bothLatched = true := by
  simp only [DoorRec.bothLatched, Bool.and_eq_true, decide_eq_true_eq] at h ⊢
  obtain ⟨hk, hc⟩ := h
  cases sd
  · exact ⟨rfl, hc⟩
  · exact ⟨hk, rfl⟩

theorem State.Wired.holdEnd (h : s.Wired) (c : Nat) (sd : Side) (k : HoldEnd) : (s.holdEnd c sd k).Wired := by
  have hlatched : (s.modDoor c fun d => { (d.modSide sd SideRec.latch) with holder := none }).Wired :=
    h.modDoor (bothLatched_latch sd)
  unfold State.holdEnd
  dsimp only
  generalize (s.modDoor c fun d => { (d.modSide sd SideRec.latch) with holder := none }) = s1 at hlatched ⊢
  have hended : (s1.shutIfEmptied (s1.tableHoldEnd c k)).Wired := (hlatched.tableHoldEnd c k).frame (by simp)
  exact ((hended.reeval (otherSide sd) c).reevalSide sd).frame (by simp)

/-- A change of a side that is not LATCHED: no channel drives its compartment. -/
theorem State.Wired.modSide (h : s.Wired) {sd : Side} (hside : s.sideState c sd ≠ .latched) (f : SideRec → SideRec) :
    (s.modSide c sd f).Wired :=
  h.modDoor fun hd => absurd ((bothLatched_iff _).mp hd sd) hside

/-- A forced door suspends the pulse behind it (R57, R127). -/
theorem State.Wired.forceDoor (h : s.Wired) (c : Nat) (sd : Side) : (s.forceDoor c sd).Wired := by
  have hopened : (s.modSide c sd (SideRec.open_ sd s.now)).WiredBut c := (h.but c).modDoor _
  exact (hopened.suspend.forcedReport c).frame (by simp [State.forceDoor])

/-- A notice of an ajar door leaves both sides in their states (R119). -/
theorem State.Wired.noticeAjar (h : s.Wired) (c : Nat) (sd : Side) : (s.noticeAjar c sd).Wired := by
  have hnoted : (s.modSide c sd fun r => { r with ajarNoticed := true }).Wired :=
    h.modDoor fun hd => by cases sd <;> exact hd
  unfold State.noticeAjar
  split <;> exact hnoted.frame (by simp)

theorem State.Wired.lapseRequest (h : s.Wired) (c : Nat) (sd : Side) : (s.lapseRequest c sd).Wired := by
  unfold State.lapseRequest
  split
  · exact (h.forget c .kitchen).frame (by simp)
  · exact (h.forget c .counter).frame (by simp)

end Sys2Proof.Machine
end

section
/-! SUPPORT. The Court Line, the ports, the scan, the timed events and start-up keep the heater law (R43). -/

namespace Sys2Proof.Machine

variable {s : State} {c : Nat}

/-! ## The Court Line (R80 to R101) -/

theorem State.Wired.limitDraw (h : s.Wired) (limit : Option Nat) : (s.limitDraw limit).Wired := by
  cases limit with
  | none => exact h
  | some l => exact h.reduceTo l

/-- A change of line mode touches the channels by its reduction only (R82). -/
theorem State.Wired.changeMode (h : s.Wired) (m : LineMode) : (s.changeMode m).Wired := by
  have hset : (s.modLif fun l => { l with mode := some m }).Wired := h.frame (by simp)
  unfold State.changeMode
  dsimp only
  generalize (s.modLif fun l => { l with mode := some m }) = s1 at hset ⊢
  have hdropped : (if m.apart then s1.dropClaim else s1).Wired := by
    split
    · exact hset.frame (by simp)
    · exact hset
  have hlimited := hdropped.limitDraw ((if m.apart then s1.dropClaim else s1).entryLimit m)
  split
  · exact hlimited.frame (by simp)
  · exact hlimited.frame (by simp)

theorem State.Wired.enterIsolated (h : s.Wired) : s.enterIsolated.Wired := by
  unfold State.enterIsolated
  exact State.Wired.changeMode (h.frame (by simp)) _

theorem State.Wired.clash (h : s.Wired) : s.clash.Wired := by
  unfold State.clash State.enterClash
  split
  · exact h
  · exact State.Wired.changeMode (h.frame (by simp)) _

theorem State.Wired.compareParams (h : s.Wired) (wc wr wg n : Nat) : (s.compareParams wc wr wg n).Wired := by
  unfold State.compareParams State.enterParameters
  split
  · exact h
  · split
    · exact State.Wired.changeMode (h.frame (by simp)) _
    · exact h.frame (by simp)
    · exact h.frame (by simp)
    all_goals exact h

theorem State.Wired.afterPeerChange (h : s.Wired) (before : Nat) : (s.afterPeerChange before).Wired := by
  unfold State.afterPeerChange
  split
  · exact State.Wired.overrunTest (h.frame (by simp))
  · exact h.overrunTest

theorem running_of_reads (h : s.reads = true) : s.running = true := Bool.and_elim_left h

/-- A frame on the line, where the block that acts on it keeps the law (R94). -/
theorem State.HeaterLaw.receive (h : s.HeaterLaw) (sender : Nat) (ok : Bool) {act : State → State}
    (hact : ∀ t : State, t.Wired → (act t).Wired) : (s.receive sender ok act).HeaterLaw := by
  unfold State.receive
  split
  · exact h
  · next hreads =>
    have hw := h.wired (running_of_reads (by simpa using hreads))
    have hheard : s.heardPeer.Wired := hw.frame (by simp)
    split
    · exact hw.clash.close.heaterLaw
    · split
      · exact (hact _ hheard).close.heaterLaw
      · exact (State.Wired.close (hheard.frame (by simp))).heaterLaw

theorem State.Wired.modPeer (h : s.Wired) (a : Nat) (f : PeerEntry → PeerEntry) : (s.modPeer a f).Wired :=
  h.frame (by simp)

theorem State.Wired.helloFreshHeard (h : s.Wired) (sender wc wr wg n : Nat) :
    (s.helloFreshHeard sender wc wr wg n).Wired := by
  have hnoted : ((s.queueHelloAnswer.modPeer sender fun _ =>
      { PeerEntry.empty sender with heard := some s.now, live := true }).modCdir (Cdir.purge sender)).Wired :=
    h.frame (by simp)
  exact (hnoted.afterPeerChange _).compareParams wc wr wg n

theorem State.Wired.failAttempt (h : s.Wired) : s.failAttempt.Wired := by
  have hfailed : (s.modLif fun l => { l.returnFrame with failed := min Config.maxFailed (l.failed + 1) }).Wired :=
    h.frame (by simp)
  unfold State.failAttempt
  dsimp only
  split
  · exact hfailed.enterIsolated
  · exact hfailed

theorem State.Wired.completeAttempt (h : s.Wired) (b : Buffered) : (s.completeAttempt b).Wired := by
  have hreported : ((s.modLif fun l => { l with failed := 0, buffer := none }).reportCompleted b).Wired :=
    h.frame (by simp)
  unfold State.completeAttempt State.rejoinCourt
  dsimp only
  split
  · exact State.Wired.changeMode (hreported.frame (by simp)) _
  · exact hreported

theorem State.Wired.claimResult (h : s.Wired) (granted : Bool) : (s.claimResult granted).Wired := by
  have hended : (s.modDsu fun d => { d with claim := .noClaim }).Wired := h.frame (by simp)
  unfold State.claimResult
  dsimp only
  split
  · exact hended.useGrant
  · exact hended.frame (by simp)

/-! ## The ports (R145, R147, R158) -/

theorem State.Wired.outcomeKitchen (h : s.Wired) (o : KOutcome) (c arg : Option Nat) :
    (s.outcomeKitchen o c arg).Wired :=
  h.frame (by simp)

theorem State.Wired.replyCounter (h : s.Wired) (o : COutcome) (arg : Option Nat) : (s.replyCounter o arg).Wired :=
  h.frame (by simp)

/-- A kitchen record, where its decision keeps the law. -/
theorem State.HeaterLaw.takeKitchen (h : s.HeaterLaw) (kind : Nat) {decide : State → State}
    (hdecide : ∀ t : State, t.Wired → (decide t).Wired) : (s.takeKitchen kind decide).HeaterLaw := by
  have hcleared : s.clearKitchenPartial.HeaterLaw := h.frame (by simp)
  unfold State.takeKitchen
  dsimp only
  split
  · exact h
  · exact hcleared
  · exact hcleared.frame (by simp)
  · next hphase =>
    have hw := hcleared.wired ((running_iff _).mpr hphase)
    split
    · exact (State.Wired.close (hw.frame (by simp))).heaterLaw
    · exact (hdecide _ hw).close.heaterLaw

/-- A counter record, where its decision keeps the law. -/
theorem State.HeaterLaw.takeCounter (h : s.HeaterLaw) (kind : Nat) (busy : State → Bool) {decide : State → State}
    (hdecide : ∀ t : State, t.Wired → (decide t).Wired) : (s.takeCounter kind busy decide).HeaterLaw := by
  have hcleared : s.clearCounterPartial.HeaterLaw := h.frame (by simp)
  unfold State.takeCounter
  dsimp only
  split
  · exact h
  · exact hcleared
  · exact hcleared.frame (by simp)
  · next hphase =>
    have hw := hcleared.wired ((running_iff _).mpr hphase)
    split
    · exact (State.Wired.close (hw.frame (by simp))).heaterLaw
    · exact (hdecide _ hw).close.heaterLaw

/-- A request that names a compartment ends with a reply or with its decision. -/
theorem State.Wired.onCompartment (h : s.Wired) (kind len want c : Nat) (form check : Bool) {decide : State → State}
    (hdecide : (decide s).Wired) : (s.onCompartment kind len want c form check decide).Wired := by
  unfold State.onCompartment
  split
  · exact h.outcomeKitchen _ _ _
  · split
    · exact h.outcomeKitchen _ _ _
    · split
      · exact h.outcomeKitchen _ _ _
      · exact hdecide

/-- A condition answered with a reply. -/
theorem State.Wired.unlessReplied (h : s.Wired) {p : Prop} [Decidable p] (o : KOutcome) (d arg : Option Nat) {t : State}
    (ht : t.Wired) : (if p then s.outcomeKitchen o d arg else t).Wired := by
  split
  · exact h.outcomeKitchen o d arg
  · exact ht

/-! ## Kitchen requests -/

theorem State.Wired.decideLoad (h : s.Wired) (len tag code cls reach limit probe : Nat) :
    (s.decideLoad len tag code cls reach limit probe).Wired := by
  refine h.unlessReplied _ _ _ ?_
  split
  · exact h.outcomeKitchen _ _ _
  · exact (h.acceptLoad _ tag code cls limit _).outcomeKitchen _ _ _

theorem State.Wired.seizeKitchen (h : s.Wired) (c : Nat) : (s.seizeKitchen c).Wired := by
  unfold State.seizeKitchen
  split
  · exact (h.enterAttending c).outcomeKitchen _ _ _
  · exact h.outcomeKitchen _ _ _

/-- A remembered request touches no side of a door. -/
theorem State.Wired.rememberKitchen (h : s.Wired) (c : Nat) (kind : KitchenKind) :
    (s.rememberKitchen c kind).Wired := by
  have hstored : (s.modDoor c fun d =>
      { d with kitchenReq := some ⟨kind, s.now, s.now + Config.rememberTime, s.requestSerial⟩ }).Wired := h.modDoor id
  exact hstored.frame ⟨rfl, rfl, rfl, rfl⟩

theorem State.Wired.rememberCounter (h : s.Wired) (c tag : Nat) : (s.rememberCounter c tag).Wired := by
  have hstored : (s.modDoor c fun d =>
      { d with counterReq := some ⟨tag, s.now, s.now + Config.rememberTime, s.requestSerial⟩ }).Wired := h.modDoor id
  exact hstored.frame ⟨rfl, rfl, rfl, rfl⟩

theorem State.Wired.waitKitchen (h : s.Wired) (c : Nat) (kind : KitchenKind) : (s.waitKitchen c kind).Wired :=
  (h.rememberKitchen c kind).outcomeKitchen _ _ _

theorem State.Wired.decideAttend (h : s.Wired) (c : Nat) : (s.decideAttend c).Wired := by
  unfold State.decideAttend
  split
  · exact h.waitKitchen c _
  · split
    · exact h.seizeKitchen c
    · exact h.outcomeKitchen _ _ _

theorem State.Wired.decideReset (h : s.Wired) (c : Nat) : (s.decideReset c).Wired := by
  unfold State.decideReset
  split
  · split
    · exact h.seizeKitchen c
    · exact h.waitKitchen c _
    · exact h.outcomeKitchen _ _ _
  · exact h.outcomeKitchen _ _ _

theorem State.Wired.decideRelease (h : s.Wired) (c : Nat) : (s.decideRelease c).Wired := by
  unfold State.decideRelease
  split
  · exact (h.holdEnd c _ _).outcomeKitchen _ _ _
  · exact h.outcomeKitchen _ _ _

/-- SERVICE moves a compartment that no channel drives (R19). -/
theorem State.Wired.decideService (h : s.Wired) (c : Nat) {old : CState} (hold : old ≠ .holding) (new : CState) :
    (s.decideService c old new).Wired := by
  unfold State.decideService
  split
  · next hst =>
    have hmoved : (s.modComp c fun r => { r with state := new }).Wired :=
      h.modComp_of_not_holding (hst ▸ hold) rfl
    exact hmoved.outcomeKitchen _ _ _
  · exact h.outcomeKitchen _ _ _

theorem State.Wired.decideClose (h : s.Wired) : s.decideClose.Wired := by
  unfold State.decideClose State.replyMode
  split <;> exact h.frame (by simp)

theorem State.Wired.decideOpen (h : s.Wired) : s.decideOpen.Wired := by
  unfold State.decideOpen State.replyMode
  split <;> exact h.frame (by simp)

/-! ## Counter requests -/

theorem State.Wired.rightCode (h : s.Wired) (c tag : Nat) : (s.rightCode c tag).Wired := by
  unfold State.rightCode
  split
  · split
    · exact (h.grantCollection c).replyCounter _ _
    · exact h.replyCounter _ _
  · split
    · exact (h.rememberCounter c tag).replyCounter _ _
    · exact h.replyCounter _ _

theorem State.Wired.codeCheck (h : s.Wired) (c tag code : Nat) : (s.codeCheck c tag code).Wired := by
  unfold State.codeCheck
  split
  · exact h.replyCounter _ _
  · split
    · exact State.Wired.rightCode (h.annotate c rfl rfl) c tag
    · split
      · exact State.Wired.replyCounter (h.annotate c rfl rfl) _ _
      · exact State.Wired.replyCounter (h.annotate c rfl rfl) _ _

theorem State.Wired.collectRecord (h : s.Wired) (c tag code : Nat) : (s.collectRecord c tag code).Wired := by
  have hmeal : (if (s.door c).counterReq.isSome then s.replyCounter .busy none else s.codeCheck c tag code).Wired := by
    split
    · exact h.replyCounter _ _
    · exact h.codeCheck c tag code
  unfold State.collectRecord
  split
  case h_5 => exact hmeal
  case h_6 =>
    split
    · exact hmeal
    · exact h.replyCounter _ _
  all_goals exact h.replyCounter _ _

theorem State.Wired.lookUp (h : s.Wired) (tag : Nat) : (s.lookUp tag).Wired := by
  unfold State.lookUp
  split
  · exact h.replyCounter _ _
  · split
    · exact h.frame (by simp)
    · exact h.replyCounter _ _

theorem State.Wired.decideCollect (h : s.Wired) (len tag code : Nat) : (s.decideCollect len tag code).Wired := by
  unfold State.decideCollect
  split
  · exact h.replyCounter _ _
  · split
    · exact h.collectRecord _ tag code
    · exact h.lookUp tag

theorem State.Wired.decideCancel (h : s.Wired) (len : Nat) : (s.decideCancel len).Wired := by
  unfold State.decideCancel
  split
  · exact h.replyCounter _ _
  · split
    · exact h.frame (by simp)
    · split
      · exact (h.forget _ .counter).replyCounter _ _
      · exact h.replyCounter _ _

/-! ## The scan and the decay step (R27 to R31, R132 to R140) -/

theorem State.Wired.sensorCheck (h : s.Wired) (c : Nat) : (s.sensorCheck c).Wired := by
  unfold State.sensorCheck
  split
  · exact h.faultReport c _
  · exact h

theorem State.Wired.overheatCheck (h : s.Wired) (c t : Nat) : (s.overheatCheck c t).Wired := by
  unfold State.overheatCheck
  split
  · exact h.faultReport c _
  · exact h

theorem State.Wired.elementCheck (h : s.Wired) (c t : Nat) : (s.elementCheck c t).Wired := by
  have hcompared : (if (s.reading c).pending then s.modReading c (ReadingRec.compare t) else s).Wired := by
    split
    · exact h.modReading c _
    · exact h
  unfold State.elementCheck
  dsimp only
  split
  · exact hcompared.faultReport c _
  · exact hcompared

theorem State.Wired.coldCheck (h : s.Wired) (c t : Nat) : (s.coldCheck c t).Wired := by
  unfold State.coldCheck
  split
  · exact h.modReading c _
  · split
    · exact h.modReading c _
    · exact (h.condemnReport c _).modReading c _

theorem State.Wired.scan (h : s.Wired) (c : Nat) (v : Option Nat) : (s.scan c v).Wired := by
  have hrecorded := h.modReading c (ReadingRec.record v)
  unfold State.scan
  dsimp only
  split
  · exact hrecorded.sensorCheck c
  · exact ((hrecorded.overheatCheck c _).elementCheck c _).coldCheck c _

theorem State.Wired.decay (h : s.Wired) (c : Nat) (e : Estimate) : (s.decay c e).Wired := by
  unfold State.decay
  dsimp only
  split
  · exact h.condemn c .cold
  · exact h.setEst c _

/-! ## Rest ends (R42) -/

/-- A channel that rests drives nothing, and becomes IDLE. -/
theorem State.Wired.restEnd (h : s.Wired) {ch : Nat}
    (hrest : (s.psc.channels[ch]?).any (Channel.restOver s.now) = true) :
    (s.modPsc fun p => { p with channels := p.channels.set ch .idle }).Wired := by
  have hon (i d : Nat) :
      (s.psc.channels.set ch .idle)[i]? = some (.on d) ↔ s.psc.channels[i]? = some (.on d) := by
    rw [List.getElem?_set]
    split
    · next hi =>
      subst hi
      have hoff : s.psc.channels[ch]? ≠ some (.on d) := fun hd => by simp [hd, Channel.restOver] at hrest
      simp [hoff]
    · rfl
  refine ⟨h.running, fun i d => (hon i d).trans (h.paired i d), fun d hd => h.heatable d ?_⟩
  obtain ⟨i, hi⟩ := (connected_iff _ d).mp hd
  exact (connected_iff s d).mpr ⟨i, (hon i d).mp hi⟩

/-! ## Start-up (R165, R169) -/

theorem heaterLaw_coldStart (s : State) : s.coldStart.HeaterLaw := by
  have hidle : ∀ ch ∈ Psc.cold.channels, ch = .idle := by decide
  refine ⟨fun ch c hch => ?_, fun ch c hp => ?_, fun _ => hidle⟩
  · cases hidle _ (List.mem_of_getElem? hch)
  · cases hp

/-- At the end of start-up every channel is IDLE and no record has a pulse (R2, R40). -/
theorem State.HeaterLaw.setUpTables (h : s.HeaterLaw) (hcold : s.sul.phase = .coldStart) (r : ConfigRec) :
    (s.setUpTables r).Wired := by
  obtain ⟨-, -, hidle⟩ := h
  have hoff (i d : Nat) : s.psc.channels[i]? ≠ some (.on d) := fun hd => by
    cases hidle hcold _ (List.mem_of_getElem? hd)
  have hpulse (d : Nat) : ((s.setUpTables r).comp d).pulse = none := by
    have hnone (present : Bool) : (CompRec.atColdStart present).pulse = none := by cases present <;> rfl
    unfold State.comp
    rw [getD_map_eq CompRec.pulse]
    simp only [State.setUpTables, List.map_map, Function.comp_def, hnone, List.getD_eq_getElem?_getD,
      List.getElem?_map]
    cases (List.range r.count)[d]? <;> rfl
  refine ⟨rfl, fun i d => ?_, fun d hd => ?_⟩
  · rw [hpulse]
    exact iff_of_false (hoff i d) nofun
  · obtain ⟨i, hi⟩ := (connected_iff _ d).mp hd
    exact absurd hi (hoff i d)

theorem State.Wired.startUpDoor (h : s.Wired) (c : Nat) (sd : Side) : (s.startUpDoor c sd).Wired := by
  unfold State.startUpDoor
  split
  · exact h.forceDoor c sd
  · exact h

theorem State.Wired.startUpDoors (h : s.Wired) : s.startUpDoors.Wired :=
  List.foldlRecOn (motive := State.Wired) _ _ h fun _ ht c _ => (ht.startUpDoor c .kitchen).startUpDoor c .counter

theorem State.Wired.firstLineMode (h : s.Wired) : s.firstLineMode.Wired := by
  unfold State.firstLineMode
  split <;> exact h.frame (by simp)

theorem State.HeaterLaw.endOfStartUp (h : s.HeaterLaw) (hcold : s.sul.phase = .coldStart) (r : ConfigRec) :
    (s.endOfStartUp r).HeaterLaw := by
  have hserving : ((s.setUpTables r).modSul fun u => { u with service := some (s.setUpTables r).firstService }).Wired :=
    (h.setUpTables hcold r).frame (by simp)
  exact hserving.firstLineMode.startUpDoors.close.heaterLaw

end Sys2Proof.Machine
end

section
/-! SUPPORT. Every command, every byte taken and the clock's step keep the heater law (R43). -/

namespace Sys2Proof.Machine

variable {s : State}

/-! ## Commands that act under a condition -/

/-- A command that acts in service only, and keeps the law there. -/
theorem State.HeaterLaw.serving (h : s.HeaterLaw) {p : Prop} [Decidable p] {t : State} (hp : p → s.running = true)
    (ht : p → s.Wired → t.Wired) : (if p then t else s).HeaterLaw := by
  split
  · next hact => exact (ht hact (h.wired (hp hact))).heaterLaw
  · exact h

/-- A command that changes nothing that the law reads. -/
theorem State.HeaterLaw.aside (h : s.HeaterLaw) {p : Prop} [Decidable p] {t : State} (ht : t.HeatsAs s) :
    (if p then t else s).HeaterLaw := by
  split
  · exact h.frame ht
  · exact h

/-! ## Commands of several cases -/

/-- A phase in which no cold start is in progress keeps what the law says of channels and pulses. -/
theorem State.HeaterLaw.ofPhase (h : s.HeaterLaw) {f : Sul → Sul} (hphase : (f s.sul).phase ≠ .coldStart) :
    (s.modSul f).HeaterLaw := by
  obtain ⟨hon, hrun, -⟩ := h
  exact ⟨hon, hrun, fun hp => absurd hp hphase⟩

theorem State.HeaterLaw.execResetAsserted (h : s.HeaterLaw) : NextKeeps State.HeaterLaw (execResetAsserted s) := by
  have hasserted : (s.modSul fun u => { u with phase := .resetAsserted }).HeaterLaw := h.ofPhase nofun
  exact nextKeeps_next (hasserted.frame (by simp))

theorem State.HeaterLaw.execConfigReadDone (h : s.HeaterLaw) (first second : ConfigRead) :
    NextKeeps State.HeaterLaw (execConfigReadDone first second s) := by
  refine nextKeeps_next ?_
  split
  · next hcold =>
    split
    · exact h.ofPhase (by simp)
    · exact h.endOfStartUp hcold _
  · exact h

theorem State.HeaterLaw.execAttemptCompleted (h : s.HeaterLaw) :
    NextKeeps State.HeaterLaw (execAttemptCompleted s) := by
  refine nextKeeps_next ?_
  split
  · next hreads _ => exact ((h.wired (running_of_reads hreads)).completeAttempt _).close.heaterLaw
  · exact h

theorem State.HeaterLaw.execFrameDiscarded (h : s.HeaterLaw) (layer : DiscardLayer) :
    NextKeeps State.HeaterLaw (execFrameDiscarded layer s) := by
  refine nextKeeps_next ?_
  split
  · exact h
  · cases layer with
    | framing => exact h.frame (by simp)
    | crc => exact h.frame (by simp)
    | content => exact h.frame (by simp)

theorem State.HeaterLaw.execClaimWindowEnd (h : s.HeaterLaw) : NextKeeps State.HeaterLaw (execClaimWindowEnd s) := by
  refine nextKeeps_next ?_
  split
  · next hrun _ => exact h.serving (fun _ => hrun) fun _ hw => (hw.claimResult _).close
  · exact h

theorem State.HeaterLaw.execDecayStep (h : s.HeaterLaw) (c : Nat) : NextKeeps State.HeaterLaw (execDecayStep c s) := by
  refine nextKeeps_next ?_
  split
  · next hrun _ => exact h.serving (fun _ => hrun) fun _ hw => (hw.decay c _).close
  · exact h

theorem State.HeaterLaw.execHoldLimitExpiry (h : s.HeaterLaw) (c : Nat) :
    NextKeeps State.HeaterLaw (execHoldLimitExpiry c s) := by
  refine nextKeeps_next ?_
  split
  · next hrun _ => exact h.serving (fun _ => hrun) fun _ hw => ((hw.setEst c _).condemnReport c _).close
  · exact h

theorem State.HeaterLaw.execPulseEnd (h : s.HeaterLaw) (c : Nat) : NextKeeps State.HeaterLaw (execPulseEnd c s) := by
  refine nextKeeps_next ?_
  split
  · next hrun _ => exact h.serving (fun _ => hrun) fun _ hw => (hw.endPulse c _).close
  · exact h

theorem State.HeaterLaw.execJoiningTimerExpiry (h : s.HeaterLaw) :
    NextKeeps State.HeaterLaw (execJoiningTimerExpiry s) := by
  refine nextKeeps_next (h.serving (by simp +contextual) fun _ hw => State.Wired.close ?_)
  have hstopped : (s.modLif fun l => { l with joiningAt := none }).Wired := hw.frame (by simp)
  split
  · exact hstopped.changeMode .court
  · exact hstopped

theorem State.HeaterLaw.execGoneFrame (h : s.HeaterLaw) (sender tag comp reason : Nat) :
    NextKeeps State.HeaterLaw (execGoneFrame sender tag comp reason s) := by
  refine nextKeeps_next (h.receive sender _ fun t ht => ?_)
  split
  · exact ht.frame (by simp)
  · exact ht

/-- A door event that takes a side out of RELEASED, SETTLING or a held OPEN (R118 to R120). -/
theorem State.HeaterLaw.doorEvent (h : s.HeaterLaw) {p : Prop} [Decidable p] {c : Nat} {sd : Side}
    (hp : p → s.running = true ∧ s.sideState c sd ≠ .latched) (f : SideRec → SideRec) :
    (if p then (s.takeDoorChange c sd).modSide c sd f else s).HeaterLaw := by
  refine h.serving (fun hact => (hp hact).1) fun hact hw => ?_
  have htaken : (s.takeDoorChange c sd).Wired := hw.frame (by simp)
  exact htaken.modSide (hp hact).2 f

theorem State.HeaterLaw.execForcedDoorClosed (h : s.HeaterLaw) (c : Nat) (sd : Side) :
    NextKeeps State.HeaterLaw (execForcedDoorClosed c sd s) := by
  refine nextKeeps_next (h.serving (by simp +contextual [State.closes]) fun hp hw => ?_)
  have htaken : (s.takeDoorChange c sd).Wired := hw.frame (by simp)
  have hclosed : ((s.takeDoorChange c sd).modSide c sd SideRec.latch).Wired := htaken.modDoor (bothLatched_latch sd)
  exact State.Wired.close ((hclosed.reevalBoth c).frame (by simp))

/-! ## Every command -/

theorem State.HeaterLaw.exec (h : s.HeaterLaw) (i : Instr) : NextKeeps State.HeaterLaw (exec i s) :=
  match i with
  | .coldStart => nextKeeps_next (heaterLaw_coldStart s)
  | .resetAsserted => h.execResetAsserted
  | .configReadDone first second => h.execConfigReadDone first second
  | .load len tag code cls reach limit probe =>
    nextKeeps_next (h.takeKitchen 1 fun _ hw => hw.decideLoad len tag code cls reach limit probe)
  | .attend len c =>
    nextKeeps_next (h.takeKitchen 2 fun _ hw =>
      hw.onCompartment 2 len 4 c true true (hw.unlessReplied _ _ _ (hw.decideAttend c)))
  | .compartmentReset len c =>
    nextKeeps_next (h.takeKitchen 5 fun _ hw =>
      hw.onCompartment 5 len 4 c true false (hw.unlessReplied _ _ _ (hw.decideReset c)))
  | .release len c =>
    nextKeeps_next (h.takeKitchen 3 fun _ hw => hw.onCompartment 3 len 4 c true true (hw.decideRelease c))
  | .serviceOut len c _ =>
    nextKeeps_next (h.takeKitchen 4 fun _ hw => hw.onCompartment 4 len 5 c _ true (hw.decideService c (by decide) _))
  | .serviceIn len c _ =>
    nextKeeps_next (h.takeKitchen 4 fun _ hw => hw.onCompartment 4 len 5 c _ true (hw.decideService c (by decide) _))
  | .bankClose _ => nextKeeps_next (h.takeKitchen 6 fun _ hw => hw.unlessReplied _ _ _ hw.decideClose)
  | .bankOpen _ => nextKeeps_next (h.takeKitchen 7 fun _ hw => hw.unlessReplied _ _ _ hw.decideOpen)
  | .statusCompartment len c =>
    nextKeeps_next (h.takeKitchen 8 fun _ hw => hw.onCompartment 8 len 4 c true false (hw.frame (by simp)))
  | .statusStation _ => nextKeeps_next (h.takeKitchen 8 fun _ hw => hw.unlessReplied _ _ _ (hw.frame (by simp)))
  | .clearFaults _ => nextKeeps_next (h.takeKitchen 9 fun _ hw => hw.unlessReplied _ _ _ (hw.frame (by simp)))
  | .whereTag _ _ => nextKeeps_next (h.takeKitchen 10 fun _ hw => hw.unlessReplied _ _ _ (hw.frame (by simp)))
  | .kitchenBadRecord => nextKeeps_next (h.frame (by simp))
  | .kitchenGapExpiry => nextKeeps_next (h.aside (by simp))
  | .kitchenTxDone => nextKeeps_next (by split <;> exact h.frame (by simp))
  | .collect len tag code =>
    nextKeeps_next (h.takeCounter 1 State.counterBusy fun _ hw => hw.decideCollect len tag code)
  | .cancel len => nextKeeps_next (h.takeCounter 2 State.cancelBusy fun _ hw => hw.decideCancel len)
  | .counterBadRecord => nextKeeps_next (h.frame (by simp))
  | .counterGapExpiry => nextKeeps_next (h.aside (by simp))
  | .counterTxDone => nextKeeps_next (by split <;> exact h.frame (by simp))
  | .lockoutEnd c => nextKeeps_next (h.serving (by simp +contextual) fun _ hw => hw.annotate c rfl rfl)
  | .lookupWaitEnd =>
    nextKeeps_next (h.serving (by simp +contextual) fun _ hw => State.Wired.close (hw.frame (by simp)))
  | .attemptStart => nextKeeps_next (h.aside (by simp))
  | .attemptLost => nextKeeps_next (h.aside (by simp))
  | .attemptFailed =>
    nextKeeps_next (h.serving (by simp +contextual [State.reads]) fun _ hw => hw.failAttempt.close)
  | .attemptCompleted => h.execAttemptCompleted
  | .frameDiscarded layer => h.execFrameDiscarded layer
  | .ownAddressFrame => nextKeeps_next (h.serving running_of_reads fun _ hw => hw.clash.close)
  | .unknownKindFrame sender => nextKeeps_next (h.receive sender true fun _ hw => hw)
  | .claimFrame sender _ _ _ => nextKeeps_next (h.receive sender true fun _ hw => hw.modPeer sender _)
  | .drawFrame sender _ _ _ _ _ _ _ =>
    nextKeeps_next (h.receive sender _ fun _ hw => (hw.modPeer sender _).afterPeerChange _)
  | .goneFrame sender tag comp reason => h.execGoneFrame sender tag comp reason
  | .stowedFrame sender _ _ _ => nextKeeps_next (h.receive sender _ fun _ hw => hw.frame (by simp))
  | .queryFrame sender _ => nextKeeps_next (h.receive sender _ fun _ hw => hw.frame (by simp))
  | .helloFresh sender wc wr wg n _ =>
    nextKeeps_next (h.receive sender _ fun _ hw => hw.helloFreshHeard sender wc wr wg n)
  | .helloAnswer sender wc wr wg n _ =>
    nextKeeps_next (h.receive sender _ fun _ hw => ((hw.modPeer sender _).afterPeerChange _).compareParams wc wr wg n)
  | .drawTimerExpiry => nextKeeps_next (h.aside (by simp))
  | .silenceTimerExpiry => nextKeeps_next (h.serving (by simp +contextual) fun _ hw => hw.enterIsolated.close)
  | .joiningTimerExpiry => h.execJoiningTimerExpiry
  | .entryLapse addr =>
    nextKeeps_next (h.serving (by simp +contextual) fun _ hw => ((hw.modPeer addr _).afterPeerChange _).close)
  | .claimWindowEnd => h.execClaimWindowEnd
  | .lostBackoffEnd =>
    nextKeeps_next (h.serving (by simp +contextual) fun _ hw => State.Wired.close (hw.frame (by simp)))
  | .overrunHoldEnd =>
    nextKeeps_next (h.serving (by simp +contextual) fun _ hw => State.Wired.close (hw.frame (by simp)))
  | .decayStep c => h.execDecayStep c
  | .holdLimitExpiry c => h.execHoldLimitExpiry c
  | .pulseEnd c => h.execPulseEnd c
  | .channelRestEnd _ =>
    nextKeeps_next (h.serving (by simp +contextual) fun hp hw =>
      State.Wired.close ((hw.restEnd (Bool.and_elim_right hp)).frame (by simp)))
  | .staggerEnd =>
    nextKeeps_next (h.serving (by simp +contextual) fun _ hw => State.Wired.close (hw.frame (by simp)))
  | .doorOpened _ _ => nextKeeps_next (h.doorEvent (by simp +contextual [State.opens]) _)
  | .doorReopened _ _ => nextKeeps_next (h.doorEvent (by simp +contextual [State.opens]) _)
  | .doorClosed _ _ => nextKeeps_next (h.doorEvent (by simp +contextual [State.closes]) _)
  | .doorForced c sd =>
    nextKeeps_next (h.serving (by simp +contextual [State.opens]) fun _ hw =>
      (State.Wired.forceDoor (hw.frame (by simp)) c sd).close)
  | .forcedDoorClosed c sd => h.execForcedDoorClosed c sd
  | .releaseWindowLapse c sd =>
    nextKeeps_next (h.serving (by simp +contextual) fun _ hw => (hw.holdEnd c sd _).close)
  | .ajarTime c sd => nextKeeps_next (h.serving (by simp +contextual) fun _ hw => (hw.noticeAjar c sd).close)
  | .settleEnd c sd => nextKeeps_next (h.serving (by simp +contextual) fun _ hw => (hw.holdEnd c sd _).close)
  | .waitLapse c sd => nextKeeps_next (h.serving (by simp +contextual) fun _ hw => (hw.lapseRequest c sd).close)
  | .sensorReading _ =>
    nextKeeps_next (h.serving (by simp +contextual [State.slotDue]) fun _ hw =>
      (State.Wired.scan (hw.frame (by simp)) _ _).close)
  | .ambientReading _ => nextKeeps_next (h.aside (by simp))
  | .inputChainSample _ => nextKeeps_next (h.aside (by simp))
  | .kitchenUnknownKind kind => nextKeeps_next (h.takeKitchen kind fun _ hw => hw.outcomeKitchen _ _ _)
  | .counterUnknownKind kind =>
    nextKeeps_next (h.takeCounter kind State.counterBusy fun _ hw => hw.replyCounter _ _)

/-! ## Every step -/

/-- A byte on a panel's line: the receiver takes it, and the record it completes runs. -/
theorem State.HeaterLaw.takeByte (h : s.HeaterLaw) (sd : Side) (b : Byte) :
    NextKeeps State.HeaterLaw (s.takeByte sd b) := by
  have hrow (row : Option Instr) {t : State} (ht : t.HeaterLaw) : NextKeeps State.HeaterLaw (State.runRow row t) := by
    cases row with
    | none => exact nextKeeps_next ht
    | some i => exact ht.exec i
  unfold State.takeByte
  dsimp only
  split
  · exact nextKeeps_next (h.frame (by simp))
  · cases sd with
    | kitchen => exact hrow _ (h.frame (by simp))
    | counter => exact hrow _ (h.frame (by simp))

theorem heat_state (r : CompRec) : r.heat.state = r.state := by
  unfold CompRec.heat
  split
  · rfl
  · split <;> rfl

theorem heat_pulse_state (r : CompRec) : r.heat.pulse.map Pulse.state = r.pulse.map Pulse.state := by
  unfold CompRec.heat
  split
  · rfl
  · next p hp => split <;> simp [hp]

/-- The clock's step changes no channel, no door, and of a pulse its run-so-far only. -/
theorem State.HeaterLaw.tick (h : s.HeaterLaw) : s.tick.HeaterLaw := by
  have hstate (c : Nat) : (s.tick.comp c).state = (s.comp c).state := by
    rw [tick_comp]
    split
    · exact heat_state _
    · rfl
  have hpulse (c : Nat) : (s.tick.comp c).pulse.map Pulse.state = (s.comp c).pulse.map Pulse.state := by
    rw [tick_comp]
    split
    · exact heat_pulse_state _
    · rfl
  have hdoor (c : Nat) : s.tick.door c = s.door c := rfl
  have hpsc : s.tick.psc = s.psc := rfl
  have hsul : s.tick.sul = s.sul := rfl
  simpa only [State.HeaterLaw, tick_comps_length, hstate, hpulse, hdoor, hpsc, hsul] using h

theorem State.HeaterLaw.step (h : s.HeaterLaw) : NextKeeps State.HeaterLaw (step s) := by
  unfold Machine.step
  split
  · exact State.HeaterLaw.exec (h.frame (by simp)) _
  · split
    · exact h.takeByte _ _
    · split
      · exact h.exec _
      · exact nextKeeps_next h.tick

end Sys2Proof.Machine
end

section
/-! The statements about heater channels and pulse scheduling. -/

namespace Sys2Proof.Proofs

open Sys2Proof Sys2Proof.Machine

/-- Settles O58: every command, every byte taken and the clock's step keep the pairing of channels and pulses and what
R43 asks of a driven compartment. -/
theorem heaterInvariant : Obligations.HeaterInvariant := fun _ t h hs => h.step t hs

/-- Settles O45: the equations of a suspension, of the end it is at the planned length, and of a cut. -/
theorem suspendedPulse : Obligations.SuspendedPulse := by
  refine ⟨fun s c ch p e h => ⟨fun hover => ?ended, fun hlt hdue => ?kept, dropHold_eq s h⟩, fun s c hrun => ?idle⟩
  case ended =>
    rw [suspend_eq s h]
    by_cases hle : p.planned ≤ p.run
    · rw [State.suspendPulse, if_pos hle, endPulse_eq s c ch p e h]
    · have hdue : (s.credited c e).due = false := hover.resolve_left hle
      rw [suspendPulse_eq s h (Nat.lt_of_not_le hle), hdue]
      rfl
  case kept =>
    have hdue : (s.credited c e).due = true := hdue
    rw [suspend_eq s h, suspendPulse_eq s h hlt, if_pos hdue]
    rfl
  case idle =>
    refine ⟨suspend_of_not_running s c hrun, fun hoff => ⟨fun hdue => ?_, fun hdue => ?_⟩⟩
    · simp [dropHold_of_not_heated s hrun hoff, hdue]
    · simp [dropHold_of_not_heated s hrun hoff, hdue]

/-- Settles O46: the candidate of the due queue, then each answer to its request. -/
theorem startAttempt : Obligations.StartAttempt := by
  intro s ready staggerOver
  have hready (c : Nat) : (c ∈ s.dueQueue ∧ s.eligible c = true) ↔ ready c := candidate_iff s c
  refine ⟨fun c => ?candidate, fun hnone => ?none, fun c a w hc hask => ?answer⟩
  case candidate =>
    simp only [firstEligible_eq_some_iff, hready, before_iff]
  case none => simp only [State.attempt, hnone]
  case answer =>
    have hattempt : s.attempt = w.actOn c a := by rw [attempt_eq hc, hask]
    have hcases : a = .claiming ∨ w = s := by simpa only [hask] using requestDraw_cases s (s.margin c)
    have hkept (ha : a ≠ .claiming) : w = s := hcases.resolve_left ha
    refine ⟨fun ch e ha hover hidle hfirst he => ?starts, fun ha => ?claiming, fun ha hidle hover => ?staggered,
      fun ha => ?unstarted⟩
    case starts =>
      have hch := (idleChannel_eq_some_iff s ch).mpr ⟨hidle, hfirst⟩
      have hact := (canActivate_iff s a).mpr ⟨ha, List.mem_of_getElem? hidle, (staggerEnded_iff s).mpr hover⟩
      rw [hattempt, hkept (by simp [ha]), actOn_of_canActivate hact hch]
      exact activate_eq s he ch
    case claiming =>
      rw [hattempt]
      exact actOn_of_neither (by simp [State.canActivate, ha]) (by simp [ha]) (by simp [ha])
    case staggered =>
      have hact : s.canActivate a = false := by
        rw [Bool.eq_false_iff, ne_eq, canActivate_iff, staggerEnded_iff]
        exact fun ⟨_, _, hended⟩ => hover hended
      rw [hattempt, hkept (by simp [ha])]
      exact actOn_of_neither hact (by simp [ha]) fun _ => hidle
    case unstarted =>
      have hw : w = s := hkept (by rcases ha with rfl | ⟨rfl, -⟩ <;> simp)
      rw [hattempt, hw, actOn_of_unstarted ha]
      refine ⟨fun hnone => ?_, fun v hv => ?_⟩
      · split
        · next hu => exact preempt_of_preemptsNone s hu hnone
        · rfl
      · have ⟨hu, _, _⟩ := hv
        rw [if_pos hu, preempt_of_preempts s hv]

/-- Settles O47: the laws of `close`, and its two parts written out. -/
theorem endOfEvent : Obligations.EndOfEvent := by
  refine ⟨fun u => ⟨close_sameButHeating u, close_quiet u, close_of_quiet u⟩, fun _ => rfl, fun _ _ => rfl, fun u => ?_⟩
  exact ⟨settleDraw_of_still u, settleDraw_of_moved u⟩

end Sys2Proof.Proofs
end

section
/-! SUPPORT. Reduction orders in every phase (R58): D comes to the limit, and the heater law goes on to hold. -/

namespace Sys2Proof.Machine

variable {s : State} {c : Nat}

/-! ## A suspension under the heater law -/

/-- A RUNNING pulse has its channel ON, which no channel is during a cold start (R43). -/
theorem State.HeaterLaw.not_coldStart_of_runs (h : s.HeaterLaw) (hc : s.Runs c) : s.sul.phase ≠ .coldStart := by
  obtain ⟨-, hrun, hidle⟩ := h
  obtain ⟨-, p, ch, hp, hstate⟩ := hc
  have hch := hrun ch c (by simp [hp, hstate])
  intro hphase
  cases hidle hphase _ (List.mem_of_getElem? hch)

/-- `s` in service, the rest as it was. -/
def State.inService (s : State) : State := s.modSul fun u => { u with phase := .running }

/-- What ends the heating of `c` outside a cold start keeps the law: the phase is no part of the pairing. -/
theorem State.HeaterLaw.heatOff {t : State} (h : s.HeaterLaw) (hphase : s.sul.phase ≠ .coldStart) (ht : s.HeatOff c t) :
    t.HeaterLaw := by
  obtain ⟨hpaired, hheat⟩ := (heaterLaw_iff hphase).mp h
  have hserving : s.inService.Wired := ⟨rfl, hpaired, hheat⟩
  have hoff : s.inService.HeatOff c t.inService := ⟨rfl, ht.doors, ht.channels, ht.pulse, ht.others⟩
  obtain ⟨-, hpaired', hheat'⟩ := (hserving.but c).heatOff hoff
  exact (heaterLaw_iff (ht.phase ▸ hphase)).mpr ⟨hpaired', hheat'⟩

theorem State.HeaterLaw.suspend (h : s.HeaterLaw) (hc : s.Runs c) : (s.suspend c).HeaterLaw := by
  obtain ⟨-, hrun⟩ := (runs_iff s c).mpr hc
  obtain ⟨p, hp⟩ := Option.isSome_iff_exists.mp hrun
  exact h.heatOff (h.not_coldStart_of_runs hc) (heatOff_suspend s hp)

/-! ## The order -/

/-- While D is above a limit there is a RUNNING pulse to suspend, and one of largest margin (R58). -/
theorem State.HeaterLaw.exists_largestOf_runs (h : s.HeaterLaw) {limit : Nat} (hd : limit < s.draw) :
    ∃ v, s.LargestOf s.Runs v := by
  obtain ⟨hon, -⟩ := h
  have hcount : 0 < s.psc.channels.countP Channel.isOn := Nat.pos_of_mul_pos_right (Nat.zero_lt_of_lt hd)
  obtain ⟨x, hx, hxon⟩ := List.countP_pos_iff.mp hcount
  obtain ⟨ch, hch⟩ := List.mem_iff_getElem?.mp hx
  cases x with
  | idle => cases hxon
  | rest t => cases hxon
  | on c =>
    obtain ⟨hc, -, -, hpulse⟩ := hon ch c hch
    obtain ⟨p, hp, hstate⟩ := Option.map_eq_some_iff.mp hpulse
    obtain ⟨hlt, hrun⟩ := (runs_iff s c).mpr ⟨hc, p, ch, hp, hstate⟩
    cases hl : s.largest fun u => (s.runningPulse u).isSome with
    | none => simp [(largest_eq_none_iff s _).mp hl c hlt] at hrun
    | some v => exact ⟨v, by simpa only [runs_iff] using (largest_eq_some_iff s _ v).mp hl⟩

/-- A reduction order brings D to its limit and keeps the heater law (R58). -/
theorem State.HeaterLaw.reduceTo (h : s.HeaterLaw) (limit : Nat) :
    (s.reduceTo limit).draw ≤ limit ∧ (s.reduceTo limit).HeaterLaw := by
  induction hn : s.psc.channels.countP Channel.isOn generalizing s with
  | zero =>
    have hd : s.draw = 0 := by rw [State.draw, hn, Nat.zero_mul]
    rw [reduceTo_within s limit (by omega)]
    exact ⟨by omega, h⟩
  | succ n ih =>
    by_cases hd : s.draw ≤ limit
    · rw [reduceTo_within s limit hd]
      exact ⟨hd, h⟩
    · obtain ⟨v, hv⟩ := h.exists_largestOf_runs (Nat.lt_of_not_le hd)
      have hless := suspend_countP s v h hv.1
      rw [reduceTo_above s limit v h (Nat.lt_of_not_le hd) hv]
      exact ih (h.suspend hv.1) (by omega)

/-! ## The overrun test (R81) -/

theorem overrunMet_iff (s : State) : s.overrunMet = true ↔ s.wAvail < s.draw + s.peerDraw ∧ s.share < s.draw := by
  simp [State.overrunMet]

@[simp] theorem dropClaim_claim (s : State) : s.dropClaim.dsu.claim = .noClaim := by
  unfold State.dropClaim
  split
  · assumption
  · rfl
  · rfl

@[simp] theorem dropClaim_mode (s : State) : s.dropClaim.lif.mode = s.lif.mode := by
  unfold State.dropClaim
  split <;> rfl

end Sys2Proof.Machine
end

section
/-! SUPPORT. The claim set and its walk (R76, R77). -/

namespace Sys2Proof.Machine

/-! ## The order of the claim set (R76) -/

/-- The order of R76: margin, then address. -/
def SetClaim.Ahead (a b : SetClaim) : Prop := a.margin < b.margin ∨ (a.margin = b.margin ∧ a.address < b.address)

theorem SetClaim.before_iff (a b : SetClaim) : a.before b = true ↔ a.Ahead b := by
  simp [SetClaim.before, SetClaim.Ahead]

theorem SetClaim.Ahead.trans {a b c : SetClaim} (hab : a.Ahead b) (hbc : b.Ahead c) : a.Ahead c := by
  unfold SetClaim.Ahead at *
  omega

theorem SetClaim.ahead_of_not_before {a b : SetClaim} (hne : a.address ≠ b.address) (h : ¬a.before b = true) :
    b.Ahead a := by
  rw [SetClaim.before_iff] at h
  unfold SetClaim.Ahead at *
  omega

theorem mem_insertClaim (c x : SetClaim) (l : List SetClaim) : x ∈ insertClaim c l ↔ x = c ∨ x ∈ l := by
  induction l with
  | nil => simp [insertClaim]
  | cons d ds ih =>
    unfold insertClaim
    split
    · exact List.mem_cons
    · rw [List.mem_cons, ih, List.mem_cons, or_left_comm]

/-- A claim of another address takes its place in a set in order. -/
theorem insertClaim_pairwise (c : SetClaim) {l : List SetClaim} (hne : ∀ d ∈ l, c.address ≠ d.address)
    (h : l.Pairwise SetClaim.Ahead) : (insertClaim c l).Pairwise SetClaim.Ahead := by
  induction l with
  | nil => exact List.pairwise_singleton _ _
  | cons d ds ih =>
    obtain ⟨hd, hds⟩ := List.pairwise_cons.mp h
    obtain ⟨hcd, hcds⟩ := List.forall_mem_cons.mp hne
    unfold insertClaim
    split
    · next hb =>
      have hb := (SetClaim.before_iff c d).mp hb
      exact List.pairwise_cons.mpr ⟨List.forall_mem_cons.mpr ⟨hb, fun x hx => hb.trans (hd x hx)⟩, h⟩
    · next hb =>
      refine List.pairwise_cons.mpr ⟨fun x hx => ?_, ih hcds hds⟩
      rcases (mem_insertClaim c x ds).mp hx with rfl | hx
      · exact SetClaim.ahead_of_not_before hcd hb
      · exact hd x hx

theorem mem_foldr_insertClaim (x : SetClaim) (l : List SetClaim) : x ∈ l.foldr insertClaim [] ↔ x ∈ l := by
  induction l with
  | nil => rfl
  | cons c cs ih => rw [List.foldr_cons, mem_insertClaim, ih, List.mem_cons]

/-- Claims of distinct addresses are put in order. -/
theorem foldr_insertClaim_pairwise {l : List SetClaim} (h : (l.map SetClaim.address).Nodup) :
    (l.foldr insertClaim []).Pairwise SetClaim.Ahead := by
  induction l with
  | nil => exact List.Pairwise.nil
  | cons c cs ih =>
    obtain ⟨hc, hcs⟩ := List.nodup_cons.mp h
    refine insertClaim_pairwise c (fun d hd heq => hc ?_) (ih hcs)
    exact heq ▸ List.mem_map_of_mem ((mem_foldr_insertClaim d cs).mp hd)

/-! ## The members of the claim set (R76) -/

theorem inWindow_eq_some_iff (p : PeerEntry) (f e : Time) (x : SetClaim) :
    p.inWindow f e = some x ↔ ∃ c, p.claim = some c ∧ f ≤ c.heard + 250 ∧ c.heard ≤ e
      ∧ x = { address := p.address, amount := c.amount, margin := c.margin } := by
  unfold PeerEntry.inWindow
  cases p.claim with
  | none => simp
  | some c =>
    dsimp only
    rw [Option.ite_none_right_eq_some]
    simp [Config.claimHalfWindow, and_assoc, eq_comm (a := x)]

theorem inWindow_address {p : PeerEntry} {f e : Time} {x : SetClaim} (h : p.inWindow f e = some x) :
    x.address = p.address := by
  obtain ⟨c, -, -, -, rfl⟩ := (inWindow_eq_some_iff p f e x).mp h
  rfl

theorem mem_claimSet (s : State) (own x : SetClaim) (f e : Time) :
    x ∈ s.claimSet own f e ↔ x = own ∨ ∃ p ∈ s.peers, p.inWindow f e = some x := by
  rw [State.claimSet, mem_foldr_insertClaim, List.mem_cons, List.mem_filterMap]

/-- The addresses of the peers' claims are some of the peers' addresses, in the same order. -/
theorem filterMap_inWindow_addresses (f e : Time) (l : List PeerEntry) :
    ((l.filterMap (PeerEntry.inWindow f e)).map SetClaim.address).Sublist (l.map PeerEntry.address) := by
  induction l with
  | nil => exact List.Sublist.slnil
  | cons p ps ih =>
    cases hp : p.inWindow f e with
    | none =>
      rw [List.filterMap_cons_none hp]
      exact ih.cons _
    | some x =>
      rw [List.filterMap_cons_some hp, List.map_cons, List.map_cons, inWindow_address hp]
      exact ih.cons_cons _

theorem claimSet_pairwise (s : State) (own : SetClaim) (f e : Time) (hown : ∀ p ∈ s.peers, p.address ≠ own.address)
    (hpeers : (s.peers.map PeerEntry.address).Nodup) : (s.claimSet own f e).Pairwise SetClaim.Ahead := by
  have hsub := filterMap_inWindow_addresses f e s.peers
  refine foldr_insertClaim_pairwise (List.nodup_cons.mpr ⟨fun hmem => ?_, hpeers.sublist hsub⟩)
  obtain ⟨p, hp, heq⟩ := List.mem_map.mp (hsub.subset hmem)
  exact hown p hp heq

/-! ## The walk (R77) -/

theorem walk_cons (h : Int) (own sum : Nat) (c : SetClaim) (l : List SetClaim) :
    walk h own sum (c :: l) =
      if ((sum + c.amount : Nat) : Int) ≤ h then (c.address = own || walk h own (sum + c.amount) l)
      else (c.address ≠ own && walk h own sum l) := by
  rw [walk]
  by_cases hown : c.address = own <;> simp [hown]

/-- A claim granted by the walk fits, whatever is granted ahead of it. -/
theorem le_of_walk {h : Int} {own sum a : Nat} {l : List SetClaim} (hown : ∀ x ∈ l, x.address = own → x.amount = a)
    (hw : walk h own sum l = true) : ((sum + a : Nat) : Int) ≤ h := by
  induction l generalizing sum with
  | nil => cases hw
  | cons c cs ih =>
    obtain ⟨hc, hcs⟩ := List.forall_mem_cons.mp hown
    rw [walk_cons] at hw
    split at hw
    · next hfits =>
      rcases Bool.or_eq_true_iff.mp hw with heq | hrest
      · rwa [hc (of_decide_eq_true heq)] at hfits
      · have := ih hcs hrest
        omega
    · obtain ⟨-, hrest⟩ := Bool.and_eq_true_iff.mp hw
      exact ih hcs hrest

/-- A granted claim fits in W_avail beside D, where no peer has the own address (R70, R77). -/
theorem draw_add_le_of_ownGranted {s : State} (hpeers : s.cfg.address ∉ s.peers.map PeerEntry.address)
    {amount margin : Nat} {f e : Time} (hg : s.ownGranted amount margin f e = true) :
    s.draw + amount ≤ s.wAvail := by
  have hown : ∀ x ∈ s.claimSet { address := s.cfg.address, amount := amount, margin := margin } f e,
      x.address = s.cfg.address → x.amount = amount := by
    intro x hx hxa
    rcases (mem_claimSet s _ x f e).mp hx with rfl | ⟨p, hp, hxp⟩
    · rfl
    · exact absurd (List.mem_map.mpr ⟨p, hp, (inWindow_address hxp).symm.trans hxa⟩) hpeers
  have hfits := le_of_walk hown hg
  unfold State.headroom at hfits
  omega

end Sys2Proof.Machine
end

section
/-! SUPPORT. The answer to a request for draw, one case of R71 and R72 at a time. -/

namespace Sys2Proof.Machine

variable {s : State} {margin : Nat} {m : LineMode}

theorem apart_iff (m : LineMode) :
    m.apart = true ↔ m = .isolated ∨ m = .mismatchedParameters ∨ m = .mismatchedClash := by
  cases m <;> simp [LineMode.apart]

theorem withinShare_iff (s : State) : s.withinShare = true ↔ s.draw + s.cfg.power ≤ s.share := decide_eq_true_iff

theorem withinIsolated_iff (s : State) : s.withinIsolated = true ↔ s.draw + s.cfg.power ≤ s.cfg.isolated :=
  decide_eq_true_iff

/-! ## By overrun hold and line mode (R71) -/

theorem requestDraw_of_overrunHold (hm : s.lif.mode = some m) (hhold : s.dsu.overrunUntil ≠ none) :
    s.requestDraw margin = (if s.draw + s.cfg.power ≤ s.share
      ∧ (m.apart = true → s.draw + s.cfg.power ≤ s.cfg.isolated) then .permitted else .refused, s) := by
  have hiff : (s.withinShare && (!m.apart || s.withinIsolated)) = true ↔ s.draw + s.cfg.power ≤ s.share
      ∧ (m.apart = true → s.draw + s.cfg.power ≤ s.cfg.isolated) := by
    rw [Bool.and_eq_true, Bool.or_eq_true, Bool.not_eq_true', withinShare_iff, withinIsolated_iff, ← Bool.not_eq_true,
      imp_iff_not_or]
  unfold State.requestDraw
  rw [hm]
  dsimp only
  rw [if_pos (Option.isSome_iff_ne_none.mpr hhold)]
  simp only [hiff]

theorem requestDraw_of_apart (hm : s.lif.mode = some m) (hfree : s.dsu.overrunUntil = none) (happ : m.apart = true) :
    s.requestDraw margin = (if s.draw + s.cfg.power ≤ s.cfg.isolated
      ∧ (s.draw + s.cfg.power ≤ s.share ∨ (s.cfg.power : Int) ≤ s.headroom) then .permitted else .refused, s) := by
  have hiff : (s.withinIsolated && (s.withinShare || decide ((s.cfg.power : Int) ≤ s.headroom))) = true
      ↔ s.draw + s.cfg.power ≤ s.cfg.isolated
        ∧ (s.draw + s.cfg.power ≤ s.share ∨ (s.cfg.power : Int) ≤ s.headroom) := by
    rw [Bool.and_eq_true, Bool.or_eq_true, decide_eq_true_eq, withinShare_iff, withinIsolated_iff]
  unfold State.requestDraw
  rw [hm, hfree]
  dsimp only
  rw [if_neg (by simp), if_pos happ]
  simp only [hiff]

/-- In JOINING and COURT the floor share is free; beyond it only COURT claims (R71). -/
theorem requestDraw_of_joined (hm : s.lif.mode = some m) (hfree : s.dsu.overrunUntil = none) (happ : m.apart = false) :
    s.requestDraw margin = if s.draw + s.cfg.power ≤ s.share then (.permitted, s)
      else if m = .court then s.requestClaim margin else (.refused, s) := by
  unfold State.requestDraw
  rw [hm, hfree]
  dsimp only
  rw [if_neg (by simp), if_neg (by simp [happ])]
  simp only [withinShare_iff]

/-! ## Beyond the floor share in COURT (R72) -/

theorem requestClaim_alone (hone : s.cfg.courtSize = 1) : s.requestClaim margin = (.refused, s) := if_pos hone

theorem outstanding_iff (r : ClaimRec) : r.outstanding = true ↔ r ≠ .noClaim := by
  cases r <;> simp [ClaimRec.outstanding]

theorem requestClaim_outstanding (hcourt : s.cfg.courtSize ≠ 1) (hclaim : s.dsu.claim ≠ .noClaim) :
    s.requestClaim margin = (.claiming, s) := by
  rw [State.requestClaim, if_neg hcourt, if_pos ((outstanding_iff _).mpr hclaim)]

section NoClaim

variable (hcourt : s.cfg.courtSize ≠ 1) (hclaim : s.dsu.claim = .noClaim)
include hcourt hclaim

theorem requestClaim_backoff (hlost : s.dsu.lostUntil ≠ none) : s.requestClaim margin = (.refused, s) := by
  rw [State.requestClaim, if_neg hcourt, hclaim, if_neg (by simp [ClaimRec.outstanding]),
    if_pos (by simp [Option.isSome_iff_ne_none.mpr hlost])]

theorem requestClaim_ready (hlost : s.dsu.lostUntil = none) (hover : s.dsu.overrunUntil = none) :
    s.requestClaim margin = if s.readySoon then (.claiming, s.makeClaim margin) else (.refused, s) := by
  rw [State.requestClaim, if_neg hcourt, hclaim, if_neg (by simp [ClaimRec.outstanding]), hlost, hover,
    if_neg (by simp)]

end NoClaim

theorem readySoon_iff (s : State) :
    s.readySoon = true ↔ (∃ t, s.channelMoment = some t ∧ t ≤ s.now + 250) ∧ s.staggerMoment ≤ s.now + 250 := by
  unfold State.readySoon
  cases s.channelMoment with
  | none => simp
  | some t =>
    dsimp only
    rw [Bool.and_eq_true, decide_eq_true_eq, decide_eq_true_eq]
    simp [Config.claimHalfWindow]

/-- Beyond the floor share nothing is permitted: it is claimed or refused (R72). -/
theorem requestClaim_ne_permitted (s : State) (margin : Nat) : (s.requestClaim margin).1 ≠ .permitted := by
  unfold State.requestClaim
  split_ifs <;> nofun

/-- A request changes the state in COURT only, by making a claim (R71, R72). -/
theorem requestDraw_snd (s : State) (margin : Nat) :
    (s.requestDraw margin).2 = s
      ∨ (s.lif.mode = some .court ∧ (s.requestDraw margin).2 = s.makeClaim margin) := by
  have hclaim : (s.requestClaim margin).2 = s ∨ (s.requestClaim margin).2 = s.makeClaim margin := by
    unfold State.requestClaim
    split_ifs <;> simp
  cases hm : s.lif.mode with
  | none => simp [State.requestDraw, hm]
  | some m =>
    by_cases hfree : s.dsu.overrunUntil = none
    · cases happ : m.apart with
      | true => simp [requestDraw_of_apart hm hfree happ]
      | false =>
        rw [requestDraw_of_joined hm hfree happ]
        split
        · exact .inl rfl
        · split
          · next hcourt => exact hclaim.imp_right fun h => ⟨by rw [hcourt], h⟩
          · exact .inl rfl
    · simp [requestDraw_of_overrunHold hm hfree]

/-- The sequence counter goes round at 255 (R74). -/
theorem next_sequence {q : Nat} (hq : q < 256) : (q + 1) % 256 = if q = 255 then 0 else q + 1 := by
  split <;> omega

end Sys2Proof.Machine
end

section
/-! SUPPORT. The draw law in service (R82): what it reads, and the operations that draw no more. -/

namespace Sys2Proof.Machine

variable {s t : State} {c : Nat}

/-! ## The law, clause by clause -/

/-- The amount an outstanding claim is for (R74). -/
def ClaimRec.amount? : ClaimRec → Option Nat
  | .noClaim => none
  | .queued amount _ _ => some amount
  | .window amount _ _ _ _ => some amount

/-- In service, the draw law (R82, R74, R65). -/
structure State.Metered (s : State) : Prop where
  running : s.running = true
  avail : s.draw ≤ s.wAvail
  apart : ∀ m, s.lif.mode = some m → m.apart = true → s.draw ≤ s.cfg.isolated
  joining : s.lif.mode = some .joining → s.draw ≤ s.share
  claim : ∀ a, s.dsu.claim.amount? = some a → a = s.cfg.power ∧ s.lif.mode = some .court
  peers : s.cfg.address ∉ s.peers.map PeerEntry.address

theorem State.Metered.drawLaw (h : s.Metered) : s.DrawLaw := by
  obtain ⟨hrun, havail, hapart, hjoining, hclaim, hpeers⟩ := h
  refine ⟨havail, ?_, hjoining, ?_, fun p hp heq => hpeers (List.mem_map.mpr ⟨p, hp, heq⟩), fun hphase => ?_⟩
  · rintro (hm | hm | hm) <;> exact hapart _ hm rfl
  · split
    · exact trivial
    · next hc => exact hclaim _ (by rw [hc, ClaimRec.amount?])
    · next hc => exact hclaim _ (by rw [hc, ClaimRec.amount?])
  · simp [(running_iff s).mp hrun] at hphase

theorem State.DrawLaw.metered (h : s.DrawLaw) (hrun : s.running = true) : s.Metered := by
  obtain ⟨havail, hapart, hjoining, hclaim, hpeers, -⟩ := h
  refine ⟨hrun, havail, fun m hm happ => hapart ?_, hjoining, fun a ha => ?_, fun hmem => ?_⟩
  · rcases (apart_iff m).mp happ with rfl | rfl | rfl <;> simp [hm]
  · cases hc : s.dsu.claim <;> rw [hc] at hclaim ha <;> cases ha <;> exact hclaim
  · obtain ⟨p, hp, heq⟩ := List.mem_map.mp hmem
    exact hpeers p hp heq

/-- Outside COURT no claim is outstanding (R74, R80). -/
theorem State.Metered.claim_eq_noClaim (h : s.Metered) (hm : s.lif.mode ≠ some .court) : s.dsu.claim = .noClaim := by
  cases hc : s.dsu.claim with
  | noClaim => rfl
  | queued a _ _ => exact absurd (h.claim a (by rw [hc, ClaimRec.amount?])).2 hm
  | window a _ _ _ _ => exact absurd (h.claim a (by rw [hc, ClaimRec.amount?])).2 hm

/-! ## Changes that the law does not see -/

/-- `t` has the phase, the configuration, the line mode, the claim and the peers' addresses of `s`, and no more channels
ON: all that the draw law reads. -/
@[simp] def State.MetersAs (t s : State) : Prop :=
  t.sul.phase = s.sul.phase ∧ t.sul.config = s.sul.config ∧ t.lif.mode = s.lif.mode ∧ t.dsu.claim = s.dsu.claim
    ∧ t.peers.map PeerEntry.address = s.peers.map PeerEntry.address
    ∧ t.psc.channels.countP Channel.isOn ≤ s.psc.channels.countP Channel.isOn

theorem cfg_of_config (h : t.sul.config = s.sul.config) : t.cfg = s.cfg := by simp only [State.cfg, h]

/-- D falls with the number of channels that are ON (R44). -/
theorem draw_le_of_countP (hcfg : t.cfg = s.cfg)
    (hon : t.psc.channels.countP Channel.isOn ≤ s.psc.channels.countP Channel.isOn) : t.draw ≤ s.draw := by
  unfold State.draw
  rw [hcfg]
  exact Nat.mul_le_mul_right _ hon

theorem State.Metered.frame (h : s.Metered) (hkept : t.MetersAs s) : t.Metered := by
  obtain ⟨hphase, hconfig, hmode, hclaim, hpeers, hon⟩ := hkept
  have hcfg := cfg_of_config hconfig
  have hdraw := draw_le_of_countP hcfg hon
  refine ⟨?_, ?_, fun m hm happ => ?_, fun hm => ?_, ?_, ?_⟩
  · simpa only [State.running, hphase] using h.running
  · simpa only [State.wAvail, hcfg] using hdraw.trans h.avail
  · rw [hcfg]
    exact hdraw.trans (h.apart m (hmode ▸ hm) happ)
  · simpa only [State.share, hcfg] using hdraw.trans (h.joining (hmode ▸ hm))
  · simpa only [hclaim, hcfg, hmode] using h.claim
  · simpa only [hcfg, hpeers] using h.peers

/-- Outside service too, what the law does not see keeps it. -/
theorem State.DrawLaw.frame (h : s.DrawLaw) (hkept : t.MetersAs s) : t.DrawLaw := by
  obtain ⟨havail, hapart, hjoining, hclaim, hpeers, hcold⟩ := h
  obtain ⟨hphase, hconfig, hmode, hsame, haddresses, hon⟩ := hkept
  have hcfg := cfg_of_config hconfig
  have hdraw := draw_le_of_countP hcfg hon
  refine ⟨?_, fun hm => ?_, fun hm => ?_, ?_, fun p hp heq => ?_, by rwa [hphase, hsame]⟩
  · simpa only [State.wAvail, hcfg] using hdraw.trans havail
  · rw [hcfg]
    exact hdraw.trans (hapart (by simpa only [hmode] using hm))
  · simpa only [State.share, hcfg] using hdraw.trans (hjoining (hmode ▸ hm))
  · rw [hsame, hcfg, hmode]
    exact hclaim
  · have hmem : p.address ∈ s.peers.map PeerEntry.address := haddresses ▸ List.mem_map_of_mem hp
    obtain ⟨q, hq, hqp⟩ := List.mem_map.mp hmem
    exact hpeers q hq (hqp.trans (heq.trans (by rw [hcfg])))

/-! ## The line mode (R95) -/

theorem mode_of_standing (h : t.lif.standing = s.lif.standing) : t.lif.mode = s.lif.mode :=
  (congrArg Lif.mode h :)


@[simp] theorem returnFrame_mode (l : Lif) : l.returnFrame.mode = l.mode := by
  unfold Lif.returnFrame
  split
  · rfl
  · split <;> rfl

@[simp] theorem queueDraw_mode (s : State) : s.queueDraw.lif.mode = s.lif.mode := mode_of_standing (by simp)
@[simp] theorem queueFinalDraw_mode (s : State) : s.queueFinalDraw.lif.mode = s.lif.mode := rfl
@[simp] theorem makeClaim_mode (s : State) (m : Nat) : (s.makeClaim m).lif.mode = s.lif.mode :=
  mode_of_standing (by simp)

@[simp] theorem queueNote_mode (s : State) (f : Frame) : (s.queueNote f).lif.mode = s.lif.mode := by
  unfold State.queueNote
  split
  · rw [modLif_lif]
    split <;> rfl
  · rfl

@[simp] theorem queueHelloAnswer_mode (s : State) : s.queueHelloAnswer.lif.mode = s.lif.mode := by
  unfold State.queueHelloAnswer
  split <;> simp

@[simp] theorem queueGone_mode (s : State) (c : Nat) (reason : GoneReason) :
    (s.queueGone c reason).lif.mode = s.lif.mode := by
  unfold State.queueGone
  split <;> simp

@[simp] theorem queryHeard_mode (s : State) (tag : Nat) : (s.queryHeard tag).lif.mode = s.lif.mode := by
  unfold State.queryHeard
  split
  · rfl
  · split <;> simp

@[simp] theorem startAttempt_mode (s : State) : s.startAttempt.lif.mode = s.lif.mode := by
  unfold State.startAttempt
  split <;> rfl

@[simp] theorem heardPeer_mode (s : State) : s.heardPeer.lif.mode = s.lif.mode := rfl
@[simp] theorem rxError_mode (s : State) : s.rxError.lif.mode = s.lif.mode := rfl
@[simp] theorem clearSticky_mode (s : State) : s.clearSticky.lif.mode = s.lif.mode := rfl

@[simp] theorem reportMismatch_mode (s : State) : s.reportMismatch.lif.mode = s.lif.mode := by
  simp [State.reportMismatch]

@[simp] theorem reportCompleted_mode (s : State) (b : Buffered) : (s.reportCompleted b).lif.mode = s.lif.mode := by
  unfold State.reportCompleted
  split
  · rfl
  · split
    · simp
    · split <;> rfl
    all_goals rfl

/-! ## The configuration under a change of the service mode (R171, R172) -/

@[simp] theorem setService_config (s : State) (m : ServiceMode) : (s.setService m).sul.config = s.sul.config := by
  simp [State.setService]

@[simp] theorem setService_mode (s : State) (m : ServiceMode) : (s.setService m).lif.mode = s.lif.mode := by
  simp [State.setService]

@[simp] theorem shutIfEmptied_config (before s : State) : (before.shutIfEmptied s).sul.config = s.sul.config := by
  unfold State.shutIfEmptied
  split <;> simp

@[simp] theorem shutIfEmptied_mode (before s : State) : (before.shutIfEmptied s).lif.mode = s.lif.mode := by
  unfold State.shutIfEmptied
  split <;> simp

/-! ## Estimates and the end of heating (R42, R44, R55, R56, R59) -/

theorem countP_releasedChannels_le (c : Nat) (now : Time) (chs : List Channel) :
    (releasedChannels c now chs).countP Channel.isOn ≤ chs.countP Channel.isOn := by
  rw [countP_released c now chs]
  exact Nat.le_add_right _ _

/-- A channel released draws no more. -/
theorem State.Metered.heatOff (h : s.Metered) (ht : s.HeatOff c t) (hconfig : t.sul.config = s.sul.config)
    (hlif : t.lif = s.lif) (hdsu : t.dsu = s.dsu) (hpeers : t.peers = s.peers) : t.Metered := by
  refine h.frame ⟨ht.phase, hconfig, by rw [hlif], by rw [hdsu], by rw [hpeers], ?_⟩
  rw [ht.channels]
  exact countP_releasedChannels_le c s.now _

theorem State.Metered.setEst (h : s.Metered) (c : Nat) (e : Option Estimate) : (s.setEst c e).Metered :=
  h.frame (by simp [setEst_channels])

theorem State.Metered.endPulse (h : s.Metered) (c : Nat) (p : Pulse) : (s.endPulse c p).Metered :=
  h.heatOff (heatOff_endPulse s c p) (by simp) (by simp) (by simp) (by simp)

theorem State.Metered.suspend (h : s.Metered) (c : Nat) : (s.suspend c).Metered := by
  cases hp : s.runningPulse c with
  | none => rwa [suspend_of_not_running s c hp]
  | some p => exact h.heatOff (heatOff_suspend s hp) (by simp) (by simp) (by simp) (by simp)

theorem State.Metered.dropHold (h : s.Metered) (c : Nat) : (s.dropHold c).Metered :=
  h.heatOff (heatOff_dropHold s c) (by simp) (by simp) (by simp) (by simp)

theorem State.Metered.modComp (h : s.Metered) (c : Nat) (f : CompRec → CompRec) : (s.modComp c f).Metered :=
  h.frame (by simp)

theorem State.Metered.modDoor (h : s.Metered) (c : Nat) (f : DoorRec → DoorRec) : (s.modDoor c f).Metered :=
  h.frame (by simp)

theorem State.Metered.modReading (h : s.Metered) (c : Nat) (f : ReadingRec → ReadingRec) :
    (s.modReading c f).Metered :=
  h.frame (by simp)

theorem State.Metered.queueDraw (h : s.Metered) : s.queueDraw.Metered := h.frame (by simp)

theorem State.Metered.queueGone (h : s.Metered) (c : Nat) (reason : GoneReason) : (s.queueGone c reason).Metered :=
  h.frame (by simp)

theorem State.Metered.queueNote (h : s.Metered) (f : Frame) : (s.queueNote f).Metered := h.frame (by simp)

theorem State.Metered.notifyKitchen (h : s.Metered) (n : KNotice) : (s.notifyKitchen n).Metered := h.frame (by simp)

theorem State.Metered.wake (h : s.Metered) : s.wake.Metered := h.frame (by simp)

/-- A run of suspensions (R58). -/
theorem reduceTo_metersAs (s : State) (limit : Nat) : (s.reduceTo limit).MetersAs s := by
  have hon (n : Nat) (u : State) :
      (reduce limit n u).psc.channels.countP Channel.isOn ≤ u.psc.channels.countP Channel.isOn := by
    induction n generalizing u with
    | zero => exact le_rfl
    | succ n ih =>
      unfold Machine.reduce
      split
      · exact le_rfl
      · split
        · exact le_rfl
        · next v hv =>
          obtain ⟨⟨-, hrun⟩, -⟩ := (largest_eq_some_iff u _ v).mp hv
          refine (ih _).trans ?_
          rw [suspend_channels u v hrun]
          exact countP_releasedChannels_le v u.now _
  exact ⟨by simp, by simp, by simp, by simp, by simp, hon _ s⟩

theorem State.Metered.reduceTo (h : s.Metered) (limit : Nat) : (s.reduceTo limit).Metered :=
  h.frame (reduceTo_metersAs s limit)

/-! ## Claims (R74, R75, R80) -/

/-- Another claim record, for one element's draw in COURT or none. -/
theorem State.Metered.modDsu (h : s.Metered) {f : Dsu → Dsu}
    (hclaim : ∀ a, (f s.dsu).claim.amount? = some a → a = s.cfg.power ∧ s.lif.mode = some .court) :
    (s.modDsu f).Metered :=
  ⟨h.running, h.avail, h.apart, h.joining, hclaim, h.peers⟩

theorem State.Metered.dropClaim (h : s.Metered) : s.dropClaim.Metered := by
  have hdropped : (s.modDsu fun d => { d with claim := .noClaim }).Metered := h.modDsu nofun
  unfold State.dropClaim
  split
  · exact h
  · exact hdropped.frame (by simp [Lif.removeClaim])
  · exact hdropped

theorem State.Metered.makeClaim (h : s.Metered) (hm : s.lif.mode = some .court) (margin : Nat) :
    (s.makeClaim margin).Metered := by
  have hmade : (s.modDsu fun d => { d with claim := .queued s.cfg.power margin s.dsu.sequence,
                                           sequence := (s.dsu.sequence + 1) % 256 }).Metered :=
    h.modDsu fun a ha => ⟨(Option.some.inj ha).symm, hm⟩
  exact hmade.frame ⟨by simp [State.makeClaim], by simp [State.makeClaim], by rw [makeClaim_mode]; rfl,
    by simp [State.makeClaim], by simp, by simp⟩

/-- A window opens on the claim as it was made (R75). -/
theorem State.Metered.openWindow (h : s.Metered) : s.openWindow.Metered := by
  unfold State.openWindow
  split
  · next hc => exact h.modDsu fun a ha => h.claim a (by rw [hc]; exact ha)
  · exact h
  · exact h

/-! ## The overrun test and changes of D (R44, R81) -/

theorem State.Metered.overrunTest (h : s.Metered) : s.overrunTest.Metered := by
  have hreduced := h.dropClaim.reduceTo s.share
  unfold State.overrunTest
  split
  · exact hreduced.modDsu hreduced.claim
  · exact h

theorem State.Metered.settleDraw (h : s.Metered) : s.settleDraw.Metered := by
  have hsettled (u : State) (hu : u.Metered) : u.drawSettled.queueDraw.Metered := hu.frame (by simp)
  have htested := (hsettled s h).overrunTest
  unfold State.settleDraw
  dsimp only
  split
  · split
    · exact hsettled _ htested
    · exact htested
  · exact h

/-! ## One element more (R41, R71, R72, R77) -/

/-- D + P stays within the limits of R82. -/
structure State.FitsOneMore (s : State) : Prop where
  avail : s.draw + s.cfg.power ≤ s.wAvail
  apart : ∀ m, s.lif.mode = some m → m.apart = true → s.draw + s.cfg.power ≤ s.cfg.isolated
  joining : s.lif.mode = some .joining → s.draw + s.cfg.power ≤ s.share

theorem share_le_wAvail (s : State) : s.share ≤ s.wAvail := Nat.div_le_self _ _

/-- A request for draw is permitted only where one element more fits (R71, R82). -/
theorem fitsOneMore_of_permitted {margin : Nat} (h : (s.requestDraw margin).1 = .permitted) : s.FitsOneMore := by
  have hshare := share_le_wAvail s
  cases hm : s.lif.mode with
  | none => simp [State.requestDraw, hm] at h
  | some m =>
    have hmode {m' : LineMode} (hm' : s.lif.mode = some m') : m' = m := Option.some.inj (hm'.symm.trans hm)
    by_cases hfree : s.dsu.overrunUntil = none
    · cases happ : m.apart with
      | true =>
        rw [requestDraw_of_apart hm hfree happ] at h
        split at h
        · next hok =>
          obtain ⟨hW, hfits⟩ := hok
          refine ⟨?_, fun _ _ _ => hW, fun hj => by simp [← hmode hj, LineMode.apart] at happ⟩
          rcases hfits with hF | hH
          · exact hF.trans hshare
          · unfold State.headroom at hH
            omega
        · cases h
      | false =>
        rw [requestDraw_of_joined hm hfree happ] at h
        split at h
        · next hF =>
          exact ⟨hF.trans hshare, fun m' hm' happ' => by simp [hmode hm', happ] at happ', fun _ => hF⟩
        · split at h
          · exact absurd h (requestClaim_ne_permitted s margin)
          · cases h
    · rw [requestDraw_of_overrunHold hm hfree] at h
      split at h
      · next hok =>
        obtain ⟨hF, hW⟩ := hok
        exact ⟨hF.trans hshare, fun m' hm' happ => hW (hmode hm' ▸ happ), fun _ => hF⟩
      · cases h

theorem countP_set_on {chs : List Channel} {ch : Nat} (hidle : chs[ch]? = some .idle) (c : Nat) :
    (chs.set ch (.on c)).countP Channel.isOn = chs.countP Channel.isOn + 1 := by
  obtain ⟨hlt, hget⟩ := List.getElem?_eq_some_iff.mp hidle
  simp [List.countP_set, hlt, hget, Channel.isOn]

/-- An activation where one element more fits (R41). -/
theorem State.Metered.activate (h : s.Metered) (hfits : s.FitsOneMore) {ch : Nat}
    (hidle : s.psc.channels[ch]? = some .idle) (c : Nat) : (s.activate c ch).Metered := by
  cases he : (s.comp c).est with
  | none => simpa [State.activate, he] using h
  | some e =>
    have hdraw : (s.activate c ch).draw = s.draw + s.cfg.power := by
      rw [activate_eq s he ch]
      show (s.psc.channels.set ch (.on c)).countP Channel.isOn * s.cfg.power = _
      rw [countP_set_on hidle c, Nat.add_mul, Nat.one_mul]
      rfl
    rw [activate_eq s he ch] at hdraw ⊢
    exact ⟨h.running, hdraw.le.trans hfits.avail, fun m hm happ => hdraw.le.trans (hfits.apart m hm happ),
      fun hm => hdraw.le.trans (hfits.joining hm), h.claim, h.peers⟩

/-! ## Start attempts (R50, R54, R61) -/

theorem State.Metered.preempt (h : s.Metered) (c : Nat) : (s.preempt c).Metered := by
  unfold State.preempt
  split
  · exact h
  · split
    · exact h
    · exact h.suspend _

theorem State.Metered.actOn (h : s.Metered) {a : Answer} (hfits : a = .permitted → s.FitsOneMore) (c : Nat) :
    (s.actOn c a).Metered := by
  unfold State.actOn
  split
  · next hact =>
    obtain ⟨ha, hidle, -⟩ := (canActivate_iff s a).mp hact
    obtain ⟨ch, hch⟩ := Option.ne_none_iff_exists'.mp (mt (idleChannel_eq_none_iff s).mp (not_not.mpr hidle))
    obtain ⟨hch', -⟩ := (idleChannel_eq_some_iff s ch).mp hch
    rw [hch]
    exact h.activate (hfits ha) hch' c
  · split
    · exact h.preempt c
    · exact h

theorem State.Metered.requestDraw (h : s.Metered) (margin : Nat) : (s.requestDraw margin).2.Metered := by
  rcases requestDraw_snd s margin with hsame | ⟨hcourt, hmade⟩
  · rwa [hsame]
  · rw [hmade]
    exact h.makeClaim hcourt margin

theorem State.Metered.attempt (h : s.Metered) : s.attempt.Metered := by
  unfold State.attempt
  split
  · exact h
  · next c _ =>
    refine (h.requestDraw _).actOn (fun hp => ?_) c
    rw [(requestDraw_cases s (s.margin c)).resolve_left (by simp [hp])]
    exact fitsOneMore_of_permitted hp

theorem State.Metered.useGrant (h : s.Metered) (hfits : s.FitsOneMore) : s.useGrant.Metered := by
  unfold State.useGrant
  split
  · exact h.queueDraw
  · have hacted := fun c => h.actOn (a := .permitted) (fun _ => hfits) c
    split
    · exact hacted _
    · exact (hacted _).queueDraw

/-- A granted claim is for one element, in COURT, and fits beside D (R72, R77). -/
theorem State.Metered.claimResult (h : s.Metered) {amount margin sequence : Nat} {f e : Time}
    (hclaim : s.dsu.claim = .window amount margin sequence f e) :
    (s.claimResult (s.ownGranted amount margin f e)).Metered := by
  obtain ⟨hpower, hcourt⟩ := h.claim amount (by rw [hclaim, ClaimRec.amount?])
  have hended : (s.modDsu fun d => { d with claim := .noClaim }).Metered := h.modDsu nofun
  unfold State.claimResult
  dsimp only
  split
  · next hg =>
    have hfits := draw_add_le_of_ownGranted h.peers hg
    refine hended.useGrant ⟨hpower ▸ hfits, fun m hm happ => ?_, fun hm => ?_⟩
    · cases hcourt.symm.trans hm
      cases happ
    · cases hcourt.symm.trans hm
  · exact (hended.modDsu hended.claim).wake

theorem State.Metered.runAttempts (h : s.Metered) (n : Nat) : (runAttempts n s).Metered := by
  have hasleep (u : State) (hu : u.Metered) : u.asleep.Metered := hu.frame (by simp)
  induction n generalizing s with
  | zero => exact hasleep s h
  | succ n ih =>
    unfold Machine.runAttempts
    split
    · exact ih (hasleep s h).attempt.settleDraw
    · exact h

/-- The end of an event keeps the law. -/
theorem State.Metered.close (h : s.Metered) : s.close.Metered :=
  (h.settleDraw.runAttempts 4).frame (by simp [State.close])

end Sys2Proof.Machine
end

section
/-! SUPPORT. The Compartment Table, the Door Arbiter, the ports and the scan keep the draw law: they draw no more (R82). -/

namespace Sys2Proof.Machine

variable {s : State} {c : Nat}

/-! ## Operations of the Compartment Table (R7 to R18) -/

/-- A hold dropped within an update of its record (R37, R59). -/
theorem State.Metered.dropHold_modComp (h : s.Metered) (c : Nat) (f : CompRec → CompRec) :
    ((s.dropHold c).modComp c f).Metered :=
  (h.dropHold c).modComp c f

theorem State.Metered.condemn (h : s.Metered) (c : Nat) (reason : CondemnReason) : (s.condemn c reason).Metered :=
  ((h.dropHold_modComp c _).queueGone c _).notifyKitchen _

theorem State.Metered.condemnReport (h : s.Metered) (c : Nat) (reason : CondemnReason) :
    (s.condemnReport c reason).Metered := by
  unfold State.condemnReport
  split
  · exact h.condemn c reason
  · exact h

theorem State.Metered.forcedReport (h : s.Metered) (c : Nat) : (s.forcedReport c).Metered := by
  unfold State.forcedReport
  split
  · exact h.condemn c .forced
  · split
    · exact h.modComp c _
    · exact h

theorem State.Metered.faultEntry (h : s.Metered) (c : Nat) (reason : FaultReason) :
    (s.faultEntry c reason).Metered := by
  have hfaulted (f : CompRec → CompRec) := h.dropHold_modComp c f
  unfold State.faultEntry
  dsimp only
  split
  · exact (hfaulted _).notifyKitchen _
  · exact ((hfaulted _).queueGone c _).notifyKitchen _

theorem State.Metered.faultAttending (h : s.Metered) (c : Nat) (reason : FaultReason) :
    (s.faultAttending c reason).Metered := by
  have hnoted (f : CompRec → CompRec) := h.modComp c f
  unfold State.faultAttending
  dsimp only
  split
  · exact (((hnoted _).dropHold_modComp c _).queueGone c _).notifyKitchen _
  · exact ((hnoted _).modComp c _).notifyKitchen _
  · exact hnoted _
  · exact hnoted _

theorem State.Metered.shutIfEmptied {before : State} (h : s.Metered) : (before.shutIfEmptied s).Metered :=
  h.frame (by simp)

theorem State.Metered.faultReport (h : s.Metered) (c : Nat) (reason : FaultReason) :
    (s.faultReport c reason).Metered := by
  unfold State.faultReport
  split
  case h_6 => exact h.faultAttending c reason
  case h_7 => exact h.modComp c _
  case h_8 => exact h
  all_goals exact (h.faultEntry c reason).shutIfEmptied

theorem State.Metered.makeFree (h : s.Metered) (c : Nat) : (s.makeFree c).Metered := h.dropHold_modComp c _

theorem State.Metered.recheck (h : s.Metered) (c : Nat) : (s.recheck c).Metered := by
  unfold State.recheck
  split
  · exact h.condemn c _
  · exact h.modComp c _

theorem State.Metered.holdStarts (h : s.Metered) (c : Nat) : (s.holdStarts c).Metered := by
  have hnoted (f : CompRec → CompRec) := h.modComp c f
  unfold State.holdStarts
  dsimp only
  split
  · exact (hnoted _).condemn c .forced
  · split
    · exact hnoted _
    · exact (((hnoted _).modComp c _).setEst c _).queueNote _

theorem State.Metered.loadingEnd (h : s.Metered) (c : Nat) (k : HoldEnd) : (s.loadingEnd c k).Metered := by
  unfold State.loadingEnd
  split
  · exact h.holdStarts c
  · exact h.makeFree c
  · exact (h.makeFree c).notifyKitchen _
  · exact h.makeFree c

theorem State.Metered.collectionEnd (h : s.Metered) (c : Nat) (k : HoldEnd) : (s.collectionEnd c k).Metered := by
  unfold State.collectionEnd
  split
  · exact (h.queueGone c _).makeFree c
  · dsimp only
    split
    · exact (h.recheck c).modComp c _
    · exact h.recheck c

theorem State.Metered.attendanceEnd (h : s.Metered) (c : Nat) (k : HoldEnd) : (s.attendanceEnd c k).Metered := by
  unfold State.attendanceEnd
  split
  case h_1 =>
    refine State.Metered.modReading (State.Metered.makeFree ?_ c) c _
    split
    · exact h.queueGone c _
    · exact h
  case h_2 => exact h.recheck c
  case h_6 => exact h
  all_goals exact h.modComp c _

theorem State.Metered.tableHoldEnd (h : s.Metered) (c : Nat) (k : HoldEnd) : (s.tableHoldEnd c k).Metered := by
  unfold State.tableHoldEnd
  split
  case h_1 => exact h.loadingEnd c k
  case h_2 => exact h.collectionEnd c k
  case h_3 => exact h.attendanceEnd c k
  case h_4 => exact h.frame (by simp)
  all_goals exact h

/-! ## Seizes and requests (R10, R12, R57, R116, R123 to R125) -/

theorem State.Metered.grantSeize (h : s.Metered) (c : Nat) (sd : Side) : (s.grantSeize c sd).Metered :=
  (h.modDoor c _).suspend c

theorem State.Metered.enterAttending (h : s.Metered) (c : Nat) : (s.enterAttending c).Metered :=
  (h.modComp c _).grantSeize c .kitchen

theorem State.Metered.grantCollection (h : s.Metered) (c : Nat) : (s.grantCollection c).Metered :=
  (h.modComp c _).grantSeize c .counter

theorem State.Metered.acceptLoad (h : s.Metered) (c tag code cls limit : Nat) (probe : Option Nat) :
    (s.acceptLoad c tag code cls limit probe).Metered :=
  (h.modComp c _).grantSeize c .kitchen

theorem State.Metered.forget (h : s.Metered) (c : Nat) (sd : Side) : (s.forget c sd).Metered := h.modDoor c _

theorem State.Metered.reevalKitchen (h : s.Metered) (c : Nat) : (s.reevalKitchen c).Metered := by
  have hforgot := h.forget c .kitchen
  unfold State.reevalKitchen
  split
  · exact h
  · split
    · exact h
    · split
      · split
        · exact (hforgot.enterAttending c).notifyKitchen _
        · exact h
      · exact hforgot.notifyKitchen _

theorem State.Metered.reevalCounter (h : s.Metered) (c : Nat) : (s.reevalCounter c).Metered := by
  have hforgot := h.forget c .counter
  unfold State.reevalCounter
  split
  · exact h
  · split
    · exact h
    · split
      · split
        · exact (hforgot.grantCollection c).frame (by simp)
        · exact h
      · exact hforgot.frame (by simp)

theorem State.Metered.reeval (h : s.Metered) (sd : Side) (c : Nat) : (s.reeval sd c).Metered := by
  cases sd with
  | kitchen => exact h.reevalKitchen c
  | counter => exact h.reevalCounter c

theorem State.Metered.reevalSide (h : s.Metered) (sd : Side) : (s.reevalSide sd).Metered :=
  List.foldlRecOn (motive := State.Metered) _ _ h fun _ ht c _ => ht.reeval sd c

theorem State.Metered.reevalBoth (h : s.Metered) (c : Nat) : (s.reevalBoth c).Metered := by
  have hboth := (h.reeval .kitchen c).reeval .counter c
  unfold State.reevalBoth
  split
  · split
    · exact hboth
    · exact (h.reeval .counter c).reeval .kitchen c
  · exact hboth

/-! ## The course of a hold (R118 to R122, R127) -/

theorem State.Metered.holdEnd (h : s.Metered) (c : Nat) (sd : Side) (k : HoldEnd) : (s.holdEnd c sd k).Metered := by
  have hended (g : DoorRec → DoorRec) := ((h.modDoor c g).tableHoldEnd c k).shutIfEmptied (before := s.modDoor c g)
  exact (((hended _).reeval (otherSide sd) c).reevalSide sd).wake

theorem State.Metered.forceDoor (h : s.Metered) (c : Nat) (sd : Side) : (s.forceDoor c sd).Metered :=
  (((h.modDoor c _).suspend c).forcedReport c).notifyKitchen _

theorem State.Metered.noticeAjar (h : s.Metered) (c : Nat) (sd : Side) : (s.noticeAjar c sd).Metered := by
  unfold State.noticeAjar
  split <;> exact h.frame (by simp)

theorem State.Metered.lapseRequest (h : s.Metered) (c : Nat) (sd : Side) : (s.lapseRequest c sd).Metered := by
  unfold State.lapseRequest
  split <;> exact h.frame (by simp)

/-! ## Kitchen requests -/

theorem State.Metered.outcomeKitchen (h : s.Metered) (o : KOutcome) (c arg : Option Nat) :
    (s.outcomeKitchen o c arg).Metered :=
  h.frame (by simp)

/-- A condition answered with a reply. -/
theorem State.Metered.unlessReplied (h : s.Metered) {p : Prop} [Decidable p] (o : KOutcome) (d arg : Option Nat)
    {t : State} (ht : t.Metered) : (if p then s.outcomeKitchen o d arg else t).Metered := by
  split
  · exact h.outcomeKitchen o d arg
  · exact ht

/-- A request that names a compartment ends with a reply or with its decision. -/
theorem State.Metered.onCompartment (h : s.Metered) (kind len want c : Nat) (form check : Bool)
    {decide : State → State} (hdecide : (decide s).Metered) :
    (s.onCompartment kind len want c form check decide).Metered :=
  h.unlessReplied _ _ _ (h.unlessReplied _ _ _ (h.unlessReplied _ _ _ hdecide))

theorem State.Metered.decideLoad (h : s.Metered) (len tag code cls reach limit probe : Nat) :
    (s.decideLoad len tag code cls reach limit probe).Metered := by
  refine h.unlessReplied _ _ _ ?_
  split
  · exact h.outcomeKitchen _ _ _
  · exact (h.acceptLoad _ tag code cls limit _).outcomeKitchen _ _ _

theorem State.Metered.seizeKitchen (h : s.Metered) (c : Nat) : (s.seizeKitchen c).Metered := by
  unfold State.seizeKitchen
  split
  · exact (h.enterAttending c).outcomeKitchen _ _ _
  · exact h.outcomeKitchen _ _ _

theorem State.Metered.waitKitchen (h : s.Metered) (c : Nat) (kind : KitchenKind) : (s.waitKitchen c kind).Metered :=
  h.frame (by simp [State.waitKitchen])

theorem State.Metered.decideAttend (h : s.Metered) (c : Nat) : (s.decideAttend c).Metered := by
  unfold State.decideAttend
  split
  · exact h.waitKitchen c _
  · split
    · exact h.seizeKitchen c
    · exact h.outcomeKitchen _ _ _

theorem State.Metered.decideReset (h : s.Metered) (c : Nat) : (s.decideReset c).Metered := by
  unfold State.decideReset
  split
  · split
    · exact h.seizeKitchen c
    · exact h.waitKitchen c _
    · exact h.outcomeKitchen _ _ _
  · exact h.outcomeKitchen _ _ _

theorem State.Metered.decideRelease (h : s.Metered) (c : Nat) : (s.decideRelease c).Metered := by
  unfold State.decideRelease
  split
  · exact (h.holdEnd c _ _).outcomeKitchen _ _ _
  · exact h.outcomeKitchen _ _ _

theorem State.Metered.decideService (h : s.Metered) (c : Nat) (old new : CState) :
    (s.decideService c old new).Metered := by
  unfold State.decideService
  split
  · exact (h.modComp c _).outcomeKitchen _ _ _
  · exact h.outcomeKitchen _ _ _

theorem State.Metered.decideClose (h : s.Metered) : s.decideClose.Metered := by
  unfold State.decideClose State.replyMode
  split <;> exact h.frame (by simp)

theorem State.Metered.decideOpen (h : s.Metered) : s.decideOpen.Metered := by
  unfold State.decideOpen State.replyMode
  split <;> exact h.frame (by simp)

/-! ## Counter requests -/

theorem State.Metered.replyCounter (h : s.Metered) (o : COutcome) (arg : Option Nat) : (s.replyCounter o arg).Metered :=
  h.frame (by simp)

theorem State.Metered.rightCode (h : s.Metered) (c tag : Nat) : (s.rightCode c tag).Metered := by
  unfold State.rightCode
  split
  · split
    · exact (h.grantCollection c).replyCounter _ _
    · exact h.replyCounter _ _
  · split
    · exact h.frame (by simp)
    · exact h.replyCounter _ _

theorem State.Metered.codeCheck (h : s.Metered) (c tag code : Nat) : (s.codeCheck c tag code).Metered := by
  unfold State.codeCheck
  split
  · exact h.replyCounter _ _
  · split
    · exact (h.modComp c _).rightCode c tag
    · split
      · exact (h.modComp c _).replyCounter _ _
      · exact (h.modComp c _).replyCounter _ _

theorem State.Metered.collectRecord (h : s.Metered) (c tag code : Nat) : (s.collectRecord c tag code).Metered := by
  have hmeal :
      (if (s.door c).counterReq.isSome then s.replyCounter .busy none else s.codeCheck c tag code).Metered := by
    split
    · exact h.replyCounter _ _
    · exact h.codeCheck c tag code
  unfold State.collectRecord
  split
  case h_5 => exact hmeal
  case h_6 =>
    split
    · exact hmeal
    · exact h.replyCounter _ _
  all_goals exact h.replyCounter _ _

theorem State.Metered.lookUp (h : s.Metered) (tag : Nat) : (s.lookUp tag).Metered := by
  unfold State.lookUp
  split
  · exact h.replyCounter _ _
  · split
    · exact h.frame (by simp)
    · exact h.replyCounter _ _

theorem State.Metered.decideCollect (h : s.Metered) (len tag code : Nat) : (s.decideCollect len tag code).Metered := by
  unfold State.decideCollect
  split
  · exact h.replyCounter _ _
  · split
    · exact h.collectRecord _ tag code
    · exact h.lookUp tag

theorem State.Metered.decideCancel (h : s.Metered) (len : Nat) : (s.decideCancel len).Metered := by
  unfold State.decideCancel
  split
  · exact h.replyCounter _ _
  · split
    · exact h.frame (by simp)
    · split
      · exact (h.forget _ .counter).replyCounter _ _
      · exact h.replyCounter _ _

/-! ## The scan and the decay step (R27 to R31, R132 to R140) -/

theorem State.Metered.overheatCheck (h : s.Metered) (c t : Nat) : (s.overheatCheck c t).Metered := by
  unfold State.overheatCheck
  split
  · exact h.faultReport c _
  · exact h

theorem State.Metered.sensorCheck (h : s.Metered) (c : Nat) : (s.sensorCheck c).Metered := by
  unfold State.sensorCheck
  split
  · exact h.faultReport c _
  · exact h

theorem State.Metered.elementCheck (h : s.Metered) (c t : Nat) : (s.elementCheck c t).Metered := by
  have hcompared : (if (s.reading c).pending then s.modReading c (ReadingRec.compare t) else s).Metered := by
    split
    · exact h.modReading c _
    · exact h
  unfold State.elementCheck
  dsimp only
  split
  · exact hcompared.faultReport c _
  · exact hcompared

theorem State.Metered.coldCheck (h : s.Metered) (c t : Nat) : (s.coldCheck c t).Metered := by
  unfold State.coldCheck
  split
  · exact h.modReading c _
  · split
    · exact h.modReading c _
    · exact (h.condemnReport c _).modReading c _

theorem State.Metered.scan (h : s.Metered) (c : Nat) (v : Option Nat) : (s.scan c v).Metered := by
  have hrecorded := h.modReading c (ReadingRec.record v)
  unfold State.scan
  dsimp only
  split
  · exact hrecorded.sensorCheck c
  · exact ((hrecorded.overheatCheck c _).elementCheck c _).coldCheck c _

theorem State.Metered.decay (h : s.Metered) (c : Nat) (e : Estimate) : (s.decay c e).Metered := by
  unfold State.decay
  dsimp only
  split
  · exact h.condemn c .cold
  · exact h.setEst c _

end Sys2Proof.Machine
end

section
/-! SUPPORT. The Court Line keeps the draw law: a change of line mode takes D to the new limit (R80, R82, R94 to R101). -/

namespace Sys2Proof.Machine

variable {s : State} {m : LineMode}

/-! ## Changes of line mode -/

/-- `s` has entered mode `m` with no claim outstanding, D yet to be taken to the mode's limit. -/
structure State.Entered (s : State) (m : LineMode) : Prop where
  running : s.running = true
  mode : s.lif.mode = some m
  claim : s.dsu.claim = .noClaim
  avail : s.draw ≤ s.wAvail
  peers : s.cfg.address ∉ s.peers.map PeerEntry.address

/-- With D at or below the mode's limit the draw law holds. -/
theorem State.Entered.metered (h : s.Entered m) (hlimit : ∀ l, s.entryLimit m = some l → s.draw ≤ l) : s.Metered := by
  have hmode {m' : LineMode} (hm' : s.lif.mode = some m') : m' = m := Option.some.inj (hm'.symm.trans h.mode)
  refine ⟨h.running, h.avail, fun m' hm' happ => ?_, fun hm' => hlimit _ (by rw [← hmode hm', State.entryLimit]),
    fun a ha => by simp [h.claim, ClaimRec.amount?] at ha, h.peers⟩
  rw [hmode hm'] at happ
  cases m with
  | joining => cases happ
  | court => cases happ
  | isolated => exact hlimit _ rfl
  | mismatchedParameters => exact hlimit _ rfl
  | mismatchedClash => exact hlimit _ rfl

theorem State.Entered.reduceTo (h : s.Entered m) (l : Nat) : (s.reduceTo l).Entered m := by
  have hcfg : (s.reduceTo l).cfg = s.cfg := cfg_of_config (by simp)
  obtain ⟨-, -, -, -, -, hon⟩ := reduceTo_metersAs s l
  refine ⟨?_, by simp [h.mode], by simp [h.claim], ?_, ?_⟩
  · simpa [State.running] using h.running
  · simpa only [State.wAvail, hcfg] using (draw_le_of_countP hcfg hon).trans h.avail
  · simpa [hcfg] using h.peers

/-- The reduction of an entry brings D to the mode's limit (R82). -/
theorem State.Entered.limitDraw (h : s.Entered m) (hheat : s.HeaterLaw) :
    (s.limitDraw (s.entryLimit m)).Metered := by
  cases hl : s.entryLimit m with
  | none => exact h.metered (by simp [hl])
  | some l =>
    refine (h.reduceTo l).metered fun l' hl' => ?_
    have hsame : (s.reduceTo l).entryLimit m = s.entryLimit m := by
      cases m <;> simp [State.entryLimit, State.share, State.cfg]
    cases (hsame.symm.trans hl').symm.trans hl
    exact (hheat.reduceTo l).1

/-- `s` with mode `m` set, and its claim dropped where the mode stands apart (R80, R99). -/
def State.entering (m : LineMode) (s : State) : State :=
  let s1 := s.modLif fun l => { l with mode := some m }
  if m.apart then s1.dropClaim else s1

/-- A change of line mode is that entry, its reduction, and what is told of it (R82, R99). -/
theorem changeMode_eq (s : State) (m : LineMode) :
    let told := ((s.entering m).limitDraw ((s.entering m).entryLimit m)).wake
    s.changeMode m = (if m = .mismatchedClash then told.queueFinalDraw else told.queueDraw).notifyKitchen (.lineMode m) :=
  rfl

theorem State.HeaterLaw.entering (h : s.HeaterLaw) (m : LineMode) : (s.entering m).HeaterLaw := by
  unfold State.entering
  dsimp only
  split <;> exact h.frame (by simp)

/-- A claim outlives none but an entry to COURT from another mode, where there is none (R80). -/
theorem State.Metered.entering (h : s.Metered) (hm : m.apart = true ∨ s.lif.mode ≠ some .court) :
    (s.entering m).Entered m := by
  unfold State.entering
  dsimp only
  split
  · exact ⟨by simpa [State.running] using h.running, by simp, by simp,
      by simpa [State.draw, State.wAvail, State.cfg] using h.avail, by simpa [State.cfg] using h.peers⟩
  · next happ => exact ⟨h.running, rfl, h.claim_eq_noClaim (hm.resolve_left happ), h.avail, h.peers⟩

/-- A change of line mode keeps the draw law (R82). -/
theorem State.Metered.changeMode (h : s.Metered) (hw : s.Wired)
    (hm : m.apart = true ∨ s.lif.mode ≠ some .court) : (s.changeMode m).Metered := by
  have hlimited := (h.entering hm).limitDraw (hw.heaterLaw.entering m)
  rw [changeMode_eq]
  split
  · exact hlimited.frame (by simp)
  · exact hlimited.frame (by simp)

theorem State.Metered.enterIsolated (h : s.Metered) (hw : s.Wired) : s.enterIsolated.Metered := by
  unfold State.enterIsolated
  exact State.Metered.changeMode (h.frame (by simp)) (hw.frame (by simp)) (.inl rfl)

theorem State.Metered.clash (h : s.Metered) (hw : s.Wired) : s.clash.Metered := by
  unfold State.clash State.enterClash
  split
  · exact h
  · exact State.Metered.changeMode (h.frame (by simp)) (hw.frame (by simp)) (.inl rfl)

theorem State.Metered.compareParams (h : s.Metered) (hw : s.Wired) (wc wr wg n : Nat) :
    (s.compareParams wc wr wg n).Metered := by
  unfold State.compareParams State.enterParameters
  split
  · exact h
  · split
    · exact State.Metered.changeMode (h.frame (by simp)) (hw.frame (by simp)) (.inl rfl)
    · exact h.frame (by simp)
    · exact h.frame (by simp)
    all_goals exact h

/-! ## Attempts (R75, R90, R98) -/

theorem State.Metered.failAttempt (h : s.Metered) (hw : s.Wired) : s.failAttempt.Metered := by
  have hfailed : (s.modLif fun l => { l.returnFrame with failed := min Config.maxFailed (l.failed + 1) }).Metered :=
    h.frame (by simp)
  unfold State.failAttempt
  dsimp only
  split
  · exact hfailed.enterIsolated (hw.frame (by simp))
  · exact hfailed

theorem State.Metered.reportCompleted (h : s.Metered) (b : Buffered) : (s.reportCompleted b).Metered := by
  unfold State.reportCompleted
  split
  · exact h
  · split
    · exact h.openWindow
    · split
      · exact h.frame (by simp [State.silence])
      · exact h
    all_goals exact h

/-- A completed attempt; JOINING is entered from ISOLATED, where no claim is outstanding (R98). -/
theorem State.Metered.completeAttempt (h : s.Metered) (hw : s.Wired) (b : Buffered) :
    (s.completeAttempt b).Metered := by
  have hfreed : (s.modLif fun l => { l with failed := 0, buffer := none }).Metered := h.frame (by simp)
  have hreported := hfreed.reportCompleted b
  have hwired : ((s.modLif fun l => { l with failed := 0, buffer := none }).reportCompleted b).Wired :=
    hw.frame (by simp)
  unfold State.completeAttempt State.rejoinCourt
  dsimp only
  split
  · next hback =>
    obtain ⟨hm, -⟩ := Bool.and_eq_true_iff.mp hback
    refine State.Metered.changeMode (hreported.frame (by simp)) (hwired.frame (by simp)) (.inr ?_)
    rw [modLif_lif, of_decide_eq_true hm]
    nofun
  · exact hreported

/-! ## Frames heard (R66 to R69, R94) -/

/-- An entry changed keeps its address (R65). -/
theorem State.Metered.modPeer (h : s.Metered) {a : Nat} {f : PeerEntry → PeerEntry}
    (hf : ∀ e, e.address = a → (f e).address = a) : (s.modPeer a f).Metered := by
  refine h.frame ⟨rfl, rfl, rfl, rfl, ?_, le_rfl⟩
  rw [modPeer_peers, List.map_map]
  refine List.map_congr_left fun e _ => ?_
  rw [Function.comp_apply]
  split
  · next ha => exact (hf e ha).trans ha.symm
  · rfl

theorem State.Metered.afterPeerChange (h : s.Metered) (before : Nat) : (s.afterPeerChange before).Metered := by
  have hfell : s.peerDrawFell.Metered := (h.modDsu (f := fun d => { d with lostUntil := none }) h.claim).wake
  unfold State.afterPeerChange
  split
  · exact hfell.overrunTest
  · exact h.overrunTest

theorem State.Metered.helloFreshHeard (h : s.Metered) (hw : s.Wired) (sender wc wr wg n : Nat) :
    (s.helloFreshHeard sender wc wr wg n).Metered := by
  have hanswered : s.queueHelloAnswer.Metered := h.frame (by simp)
  have hreset : (s.queueHelloAnswer.modPeer sender fun _ =>
      { PeerEntry.empty sender with heard := some s.now, live := true }).Metered :=
    hanswered.modPeer fun _ _ => rfl
  have hpurged (u : State) (hu : u.Metered) : (u.modCdir (Cdir.purge sender)).Metered := hu.frame (by simp)
  exact ((hpurged _ hreset).afterPeerChange _).compareParams (State.Wired.afterPeerChange (hw.frame (by simp)) _)
    wc wr wg n

theorem State.Metered.helloAnswerHeard (h : s.Metered) (hw : s.Wired) (sender wc wr wg n : Nat) :
    (s.helloAnswerHeard sender wc wr wg n).Metered := by
  have hlive : (s.modPeer sender fun e => { e with heard := some s.now, live := true }).Metered :=
    h.modPeer fun _ ha => ha
  exact (hlive.afterPeerChange _).compareParams ((hw.modPeer sender _).afterPeerChange _) wc wr wg n

theorem State.Metered.goneHeard (h : s.Metered) (sender tag : Nat) (g : GoneReason) :
    (s.goneHeard sender tag g).Metered :=
  h.frame (by simp)

/-- A frame on the line, where the block that acts on it keeps the laws (R94). -/
theorem State.DrawLaw.receive (h : s.DrawLaw) (hh : s.HeaterLaw) (sender : Nat) (ok : Bool) {act : State → State}
    (hact : ∀ t : State, t.Metered → t.Wired → (act t).Metered) : (s.receive sender ok act).DrawLaw := by
  unfold State.receive
  split
  · exact h
  · next hreads =>
    have hrun := running_of_reads (by simpa using hreads)
    have hm := h.metered hrun
    have hw := hh.wired hrun
    have hheard : s.heardPeer.Metered := hm.frame (by simp)
    split
    · exact (hm.clash hw).close.drawLaw
    · split
      · exact (hact _ hheard (hw.frame (by simp))).close.drawLaw
      · exact (State.Metered.close (hheard.frame (by simp))).drawLaw

/-! ## Records at the ports (R144, R158) -/

/-- A kitchen record, where its decision keeps the law. -/
theorem State.DrawLaw.takeKitchen (h : s.DrawLaw) (kind : Nat) {decide : State → State}
    (hdecide : ∀ t : State, t.Metered → (decide t).Metered) : (s.takeKitchen kind decide).DrawLaw := by
  have hcleared : s.clearKitchenPartial.DrawLaw := h.frame (by simp)
  unfold State.takeKitchen
  dsimp only
  split
  · exact h
  · exact hcleared
  · exact hcleared.frame (by simp)
  · next hphase =>
    have hm := hcleared.metered ((running_iff _).mpr hphase)
    split
    · exact (State.Metered.close (hm.frame (by simp))).drawLaw
    · exact (hdecide _ hm).close.drawLaw

/-- A counter record, where its decision keeps the law. -/
theorem State.DrawLaw.takeCounter (h : s.DrawLaw) (kind : Nat) (busy : State → Bool) {decide : State → State}
    (hdecide : ∀ t : State, t.Metered → (decide t).Metered) : (s.takeCounter kind busy decide).DrawLaw := by
  have hcleared : s.clearCounterPartial.DrawLaw := h.frame (by simp)
  unfold State.takeCounter
  dsimp only
  split
  · exact h
  · exact hcleared
  · exact hcleared.frame (by simp)
  · next hphase =>
    have hm := hcleared.metered ((running_iff _).mpr hphase)
    split
    · exact (State.Metered.close (hm.frame (by simp))).drawLaw
    · exact (hdecide _ hm).close.drawLaw

/-! ## Start-up (R165, R169) -/

theorem drawLaw_reset : State.reset.DrawLaw := by
  have hle (l : Nat) : State.reset.draw ≤ l := by
    rw [show State.reset.draw = 0 by decide]
    exact Nat.zero_le l
  exact ⟨hle _, fun _ => hle _, fun _ => hle _, trivial, fun _ hp => absurd hp List.not_mem_nil, fun _ => rfl⟩

theorem drawLaw_coldStart (s : State) : s.coldStart.DrawLaw := drawLaw_reset.frame (by simp [State.coldStart])

/-- With every channel off and no claim outstanding the law holds in every line mode. -/
theorem metered_of_draw_eq_zero (hrun : s.running = true) (hdraw : s.draw = 0) (hclaim : s.dsu.claim = .noClaim)
    (hpeers : s.cfg.address ∉ s.peers.map PeerEntry.address) : s.Metered := by
  have hle (l : Nat) : s.draw ≤ l := hdraw.le.trans (Nat.zero_le l)
  exact ⟨hrun, hle _, fun _ _ _ => hle _, fun _ => hle _, by simp [hclaim, ClaimRec.amount?], hpeers⟩

theorem State.Metered.startUpDoors (h : s.Metered) : s.startUpDoors.Metered := by
  have hdoor (t : State) (ht : t.Metered) (c : Nat) (sd : Side) : (t.startUpDoor c sd).Metered := by
    unfold State.startUpDoor
    split
    · exact ht.forceDoor c sd
    · exact ht
  exact List.foldlRecOn (motive := State.Metered) _ _ h fun t ht c _ => hdoor _ (hdoor t ht c .kitchen) c .counter

/-- The first line mode is entered with every channel off (R96). -/
theorem metered_firstLineMode (hrun : s.running = true) (hoff : s.psc.channels.countP Channel.isOn = 0)
    (hclaim : s.dsu.claim = .noClaim) (hpeers : s.cfg.address ∉ s.peers.map PeerEntry.address) :
    s.firstLineMode.Metered := by
  have hcfg : s.firstLineMode.cfg = s.cfg := cfg_of_config (by unfold State.firstLineMode; split <;> simp)
  refine metered_of_draw_eq_zero ?_ ?_ ?_ (hcfg ▸ ?_)
  all_goals unfold State.firstLineMode; split
  · exact hrun
  · simpa [State.running] using hrun
  · simp [State.draw, hoff]
  · simp [State.draw, hoff]
  · exact hclaim
  · simpa using hclaim
  · exact hpeers
  · simpa using hpeers

/-- At the end of start-up every channel is IDLE, no claim is outstanding, and the table of peers leaves the own address
out (R40, R65, R74). -/
theorem State.DrawLaw.endOfStartUp (h : s.DrawLaw) (hh : s.HeaterLaw) (hcold : s.sul.phase = .coldStart)
    (r : ConfigRec) : (s.endOfStartUp r).DrawLaw := by
  obtain ⟨-, -, hidle⟩ := hh
  obtain ⟨-, -, -, -, -, hclaim⟩ := h
  have hoff : s.psc.channels.countP Channel.isOn = 0 := by
    rw [List.countP_eq_zero]
    intro ch hch
    rw [hidle hcold ch hch]
    nofun
  have hpeers : r.address ∉ (((List.range 32).filter fun a => a ≠ r.address).map PeerEntry.empty).map
      PeerEntry.address := by
    simp [PeerEntry.empty]
  have hserving : ((s.setUpTables r).modSul fun u =>
      { u with service := some (s.setUpTables r).firstService }).firstLineMode.Metered :=
    metered_firstLineMode rfl hoff (hclaim hcold) hpeers
  exact hserving.startUpDoors.close.drawLaw

end Sys2Proof.Machine
end

section
/-! SUPPORT. Every command, every byte taken and the clock's step keep the draw law (R82). -/

namespace Sys2Proof.Machine

variable {s : State}

/-! ## Commands that act under a condition -/

/-- A command that acts in service only, and keeps the law there. -/
theorem State.DrawLaw.serving (h : s.DrawLaw) {p : Prop} [Decidable p] {t : State} (hp : p → s.running = true)
    (ht : p → s.Metered → t.Metered) : (if p then t else s).DrawLaw := by
  split
  · next hact => exact (ht hact (h.metered (hp hact))).drawLaw
  · exact h

/-- A command that changes nothing that the law reads. -/
theorem State.DrawLaw.aside (h : s.DrawLaw) {p : Prop} [Decidable p] {t : State} (ht : t.MetersAs s) :
    (if p then t else s).DrawLaw := by
  split
  · exact h.frame ht
  · exact h

/-! ## Commands of several cases -/

/-- A phase in which no cold start is in progress. -/
theorem State.DrawLaw.ofPhase (h : s.DrawLaw) {ph : Phase} (hphase : ph ≠ .coldStart) :
    (s.modSul fun u => { u with phase := ph }).DrawLaw := by
  obtain ⟨havail, hapart, hjoining, hclaim, hpeers, -⟩ := h
  exact ⟨havail, hapart, hjoining, hclaim, hpeers, fun hp => absurd hp hphase⟩

theorem State.DrawLaw.execResetAsserted (h : s.DrawLaw) : NextKeeps State.DrawLaw (execResetAsserted s) := by
  have hasserted := h.ofPhase (ph := .resetAsserted) nofun
  exact nextKeeps_next (hasserted.frame (by simp))

theorem State.DrawLaw.execConfigReadDone (h : s.DrawLaw) (hh : s.HeaterLaw) (first second : ConfigRead) :
    NextKeeps State.DrawLaw (execConfigReadDone first second s) := by
  refine nextKeeps_next ?_
  split
  · next hcold =>
    split
    · exact h.ofPhase nofun
    · exact h.endOfStartUp hh hcold _
  · exact h

theorem State.DrawLaw.execAttemptCompleted (h : s.DrawLaw) (hh : s.HeaterLaw) :
    NextKeeps State.DrawLaw (execAttemptCompleted s) := by
  refine nextKeeps_next ?_
  split
  · next hreads _ =>
    have hrun := running_of_reads hreads
    exact ((h.metered hrun).completeAttempt (hh.wired hrun) _).close.drawLaw
  · exact h

theorem State.DrawLaw.execFrameDiscarded (h : s.DrawLaw) (layer : DiscardLayer) :
    NextKeeps State.DrawLaw (execFrameDiscarded layer s) := by
  refine nextKeeps_next ?_
  split
  · exact h
  · cases layer with
    | framing => exact h.frame (by simp)
    | crc => exact h.frame (by simp)
    | content => exact h.frame (by simp)

theorem State.DrawLaw.execClaimFrame (h : s.DrawLaw) (hh : s.HeaterLaw) (sender amount margin sequence : Nat) :
    NextKeeps State.DrawLaw (execClaimFrame sender amount margin sequence s) :=
  nextKeeps_next (h.receive hh sender true fun _ hm _ => hm.modPeer fun _ ha => by split <;> exact ha)

theorem State.DrawLaw.execDrawFrame (h : s.DrawLaw) (hh : s.HeaterLaw)
    (sender service line draw power margin due holding : Nat) :
    NextKeeps State.DrawLaw (execDrawFrame sender service line draw power margin due holding s) :=
  nextKeeps_next (h.receive hh sender _ fun t hm _ =>
    have hheard : (t.modPeer sender
        (PeerEntry.withDraw t.wAvail t.now service line draw power margin due holding)).Metered :=
      hm.modPeer fun _ ha => ha
    hheard.afterPeerChange _)

theorem State.DrawLaw.execGoneFrame (h : s.DrawLaw) (hh : s.HeaterLaw) (sender tag comp reason : Nat) :
    NextKeeps State.DrawLaw (execGoneFrame sender tag comp reason s) := by
  refine nextKeeps_next (h.receive hh sender _ fun t ht _ => ?_)
  split
  · exact ht.goneHeard sender tag _
  · exact ht

theorem State.DrawLaw.execEntryLapse (h : s.DrawLaw) (addr : Nat) :
    NextKeeps State.DrawLaw (execEntryLapse addr s) := by
  refine nextKeeps_next (h.serving (by simp +contextual) fun _ hm => State.Metered.close ?_)
  have hlapsed : (s.modPeer addr fun e => { e with live := false }).Metered := hm.modPeer fun _ ha => ha
  exact hlapsed.afterPeerChange _

theorem State.DrawLaw.execJoiningTimerExpiry (h : s.DrawLaw) (hh : s.HeaterLaw) :
    NextKeeps State.DrawLaw (execJoiningTimerExpiry s) := by
  refine nextKeeps_next (h.serving (by simp +contextual) fun hp hm => State.Metered.close ?_)
  have hw := hh.wired (Bool.and_elim_left hp)
  have hstopped : (s.modLif fun l => { l with joiningAt := none }).Metered := hm.frame (by simp)
  split
  · next hjoining => exact hstopped.changeMode (hw.frame (by simp)) (.inr (by rw [hjoining]; nofun))
  · exact hstopped

theorem State.DrawLaw.execClaimWindowEnd (h : s.DrawLaw) : NextKeeps State.DrawLaw (execClaimWindowEnd s) := by
  refine nextKeeps_next ?_
  split
  · next hrun hclaim => exact h.serving (fun _ => hrun) fun _ hm => (hm.claimResult hclaim).close
  · exact h

theorem State.DrawLaw.execDecayStep (h : s.DrawLaw) (c : Nat) : NextKeeps State.DrawLaw (execDecayStep c s) := by
  refine nextKeeps_next ?_
  split
  · next hrun _ => exact h.serving (fun _ => hrun) fun _ hm => (hm.decay c _).close
  · exact h

theorem State.DrawLaw.execHoldLimitExpiry (h : s.DrawLaw) (c : Nat) :
    NextKeeps State.DrawLaw (execHoldLimitExpiry c s) := by
  refine nextKeeps_next ?_
  split
  · next hrun _ => exact h.serving (fun _ => hrun) fun _ hm => ((hm.setEst c _).condemnReport c _).close
  · exact h

theorem State.DrawLaw.execPulseEnd (h : s.DrawLaw) (c : Nat) : NextKeeps State.DrawLaw (execPulseEnd c s) := by
  refine nextKeeps_next ?_
  split
  · next hrun _ => exact h.serving (fun _ => hrun) fun _ hm => (hm.endPulse c _).close
  · exact h

/-- A channel that becomes IDLE draws nothing (R42). -/
theorem State.Metered.restEnd (h : s.Metered) (ch : Nat) :
    (s.modPsc fun p => { p with channels := p.channels.set ch .idle }).Metered := by
  refine h.frame ⟨rfl, rfl, rfl, rfl, rfl, ?_⟩
  rw [modPsc_psc]
  by_cases hlt : ch < s.psc.channels.length
  · rw [List.countP_set hlt]
    simp [Channel.isOn]
  · rw [List.set_eq_of_length_le (Nat.le_of_not_lt hlt)]

theorem State.DrawLaw.execForcedDoorClosed (h : s.DrawLaw) (c : Nat) (sd : Side) :
    NextKeeps State.DrawLaw (execForcedDoorClosed c sd s) := by
  refine nextKeeps_next (h.serving (by simp +contextual [State.closes]) fun _ hm => State.Metered.close ?_)
  have htaken : (s.takeDoorChange c sd).Metered := hm.frame (by simp)
  exact ((htaken.modDoor c _).reevalBoth c).wake

/-! ## Every command -/

theorem State.DrawLaw.exec (h : s.DrawLaw) (hh : s.HeaterLaw) (i : Instr) : NextKeeps State.DrawLaw (exec i s) :=
  match i with
  | .coldStart => nextKeeps_next (drawLaw_coldStart s)
  | .resetAsserted => h.execResetAsserted
  | .configReadDone first second => h.execConfigReadDone hh first second
  | .load len tag code cls reach limit probe =>
    nextKeeps_next (h.takeKitchen 1 fun _ hm => hm.decideLoad len tag code cls reach limit probe)
  | .attend len c =>
    nextKeeps_next (h.takeKitchen 2 fun _ hm =>
      hm.onCompartment 2 len 4 c true true (hm.unlessReplied _ _ _ (hm.decideAttend c)))
  | .compartmentReset len c =>
    nextKeeps_next (h.takeKitchen 5 fun _ hm =>
      hm.onCompartment 5 len 4 c true false (hm.unlessReplied _ _ _ (hm.decideReset c)))
  | .release len c =>
    nextKeeps_next (h.takeKitchen 3 fun _ hm => hm.onCompartment 3 len 4 c true true (hm.decideRelease c))
  | .serviceOut len c _ =>
    nextKeeps_next (h.takeKitchen 4 fun _ hm => hm.onCompartment 4 len 5 c _ true (hm.decideService c _ _))
  | .serviceIn len c _ =>
    nextKeeps_next (h.takeKitchen 4 fun _ hm => hm.onCompartment 4 len 5 c _ true (hm.decideService c _ _))
  | .bankClose _ => nextKeeps_next (h.takeKitchen 6 fun _ hm => hm.unlessReplied _ _ _ hm.decideClose)
  | .bankOpen _ => nextKeeps_next (h.takeKitchen 7 fun _ hm => hm.unlessReplied _ _ _ hm.decideOpen)
  | .statusCompartment len c =>
    nextKeeps_next (h.takeKitchen 8 fun _ hm => hm.onCompartment 8 len 4 c true false (hm.frame (by simp)))
  | .statusStation _ => nextKeeps_next (h.takeKitchen 8 fun _ hm => hm.unlessReplied _ _ _ (hm.frame (by simp)))
  | .clearFaults _ => nextKeeps_next (h.takeKitchen 9 fun _ hm => hm.unlessReplied _ _ _ (hm.frame (by simp)))
  | .whereTag _ _ => nextKeeps_next (h.takeKitchen 10 fun _ hm => hm.unlessReplied _ _ _ (hm.frame (by simp)))
  | .kitchenBadRecord => nextKeeps_next (h.frame (by simp))
  | .kitchenGapExpiry => nextKeeps_next (h.aside (by simp))
  | .kitchenTxDone => nextKeeps_next (by split <;> exact h.frame (by simp))
  | .collect len tag code =>
    nextKeeps_next (h.takeCounter 1 State.counterBusy fun _ hm => hm.decideCollect len tag code)
  | .cancel len => nextKeeps_next (h.takeCounter 2 State.cancelBusy fun _ hm => hm.decideCancel len)
  | .counterBadRecord => nextKeeps_next (h.frame (by simp))
  | .counterGapExpiry => nextKeeps_next (h.aside (by simp))
  | .counterTxDone => nextKeeps_next (by split <;> exact h.frame (by simp))
  | .lockoutEnd _ => nextKeeps_next (h.aside (by simp))
  | .lookupWaitEnd =>
    nextKeeps_next (h.serving (by simp +contextual) fun _ hm => State.Metered.close (hm.frame (by simp)))
  | .attemptStart => nextKeeps_next (h.aside (by simp))
  | .attemptLost => nextKeeps_next (h.aside (by simp))
  | .attemptFailed =>
    nextKeeps_next (h.serving (by simp +contextual [State.reads]) fun hp hm =>
      (hm.failAttempt (hh.wired (running_of_reads (Bool.and_elim_left hp)))).close)
  | .attemptCompleted => h.execAttemptCompleted hh
  | .frameDiscarded layer => h.execFrameDiscarded layer
  | .ownAddressFrame =>
    nextKeeps_next (h.serving running_of_reads fun hp hm => (hm.clash (hh.wired (running_of_reads hp))).close)
  | .unknownKindFrame sender => nextKeeps_next (h.receive hh sender true fun _ hm _ => hm)
  | .claimFrame sender amount margin sequence => h.execClaimFrame hh sender amount margin sequence
  | .drawFrame sender service line draw power margin due holding =>
    h.execDrawFrame hh sender service line draw power margin due holding
  | .goneFrame sender tag comp reason => h.execGoneFrame hh sender tag comp reason
  | .stowedFrame sender _ _ _ => nextKeeps_next (h.receive hh sender _ fun _ hm _ => hm.frame (by simp))
  | .queryFrame sender _ => nextKeeps_next (h.receive hh sender _ fun _ hm _ => hm.frame (by simp))
  | .helloFresh sender wc wr wg n _ =>
    nextKeeps_next (h.receive hh sender _ fun _ hm hw => hm.helloFreshHeard hw sender wc wr wg n)
  | .helloAnswer sender wc wr wg n _ =>
    nextKeeps_next (h.receive hh sender _ fun _ hm hw => hm.helloAnswerHeard hw sender wc wr wg n)
  | .drawTimerExpiry => nextKeeps_next (h.aside (by simp))
  | .silenceTimerExpiry =>
    nextKeeps_next (h.serving (by simp +contextual) fun hp hm =>
      (hm.enterIsolated (hh.wired (Bool.and_elim_left hp))).close)
  | .joiningTimerExpiry => h.execJoiningTimerExpiry hh
  | .entryLapse addr => h.execEntryLapse addr
  | .claimWindowEnd => h.execClaimWindowEnd
  | .lostBackoffEnd =>
    nextKeeps_next (h.serving (by simp +contextual) fun _ hm => (hm.modDsu hm.claim).wake.close)
  | .overrunHoldEnd =>
    nextKeeps_next (h.serving (by simp +contextual) fun _ hm => (hm.modDsu hm.claim).wake.close)
  | .decayStep c => h.execDecayStep c
  | .holdLimitExpiry c => h.execHoldLimitExpiry c
  | .pulseEnd c => h.execPulseEnd c
  | .channelRestEnd ch => nextKeeps_next (h.serving (by simp +contextual) fun _ hm => (hm.restEnd ch).wake.close)
  | .staggerEnd =>
    nextKeeps_next (h.serving (by simp +contextual) fun _ hm => State.Metered.close (hm.frame (by simp)))
  | .doorOpened _ _ => nextKeeps_next (h.aside (by simp))
  | .doorReopened _ _ => nextKeeps_next (h.aside (by simp))
  | .doorClosed _ _ => nextKeeps_next (h.aside (by simp))
  | .doorForced c sd =>
    nextKeeps_next (h.serving (by simp +contextual [State.opens]) fun _ hm =>
      (State.Metered.forceDoor (hm.frame (by simp)) c sd).close)
  | .forcedDoorClosed c sd => h.execForcedDoorClosed c sd
  | .releaseWindowLapse c sd =>
    nextKeeps_next (h.serving (by simp +contextual) fun _ hm => (hm.holdEnd c sd _).close)
  | .ajarTime c sd => nextKeeps_next (h.serving (by simp +contextual) fun _ hm => (hm.noticeAjar c sd).close)
  | .settleEnd c sd => nextKeeps_next (h.serving (by simp +contextual) fun _ hm => (hm.holdEnd c sd _).close)
  | .waitLapse c sd => nextKeeps_next (h.serving (by simp +contextual) fun _ hm => (hm.lapseRequest c sd).close)
  | .sensorReading _ =>
    nextKeeps_next (h.serving (by simp +contextual [State.slotDue]) fun _ hm =>
      (State.Metered.scan (hm.frame (by simp)) _ _).close)
  | .ambientReading _ => nextKeeps_next (h.aside (by simp))
  | .inputChainSample _ => nextKeeps_next (h.aside (by simp))
  | .kitchenUnknownKind kind => nextKeeps_next (h.takeKitchen kind fun _ hm => hm.outcomeKitchen _ _ _)
  | .counterUnknownKind kind =>
    nextKeeps_next (h.takeCounter kind State.counterBusy fun _ hm => hm.replyCounter _ _)

/-! ## Every step -/

/-- A byte on a panel's line: the receiver takes it, and the record it completes runs. -/
theorem State.DrawLaw.takeByte (h : s.DrawLaw) (hh : s.HeaterLaw) (sd : Side) (b : Byte) :
    NextKeeps State.DrawLaw (s.takeByte sd b) := by
  have hrow (row : Option Instr) {t : State} (ht : t.DrawLaw) (hht : t.HeaterLaw) :
      NextKeeps State.DrawLaw (State.runRow row t) := by
    cases row with
    | none => exact nextKeeps_next ht
    | some i => exact ht.exec hht i
  unfold State.takeByte
  dsimp only
  split
  · exact nextKeeps_next (h.frame (by simp))
  · cases sd with
    | kitchen => exact hrow _ (h.frame (by simp)) (hh.frame (by simp))
    | counter => exact hrow _ (h.frame (by simp)) (hh.frame (by simp))

theorem State.DrawLaw.step (h : s.DrawLaw) (hh : s.HeaterLaw) : NextKeeps State.DrawLaw (step s) := by
  unfold Machine.step
  split
  · exact State.DrawLaw.exec (h.frame (by simp)) (hh.frame (by simp)) _
  · split
    · exact h.takeByte hh _ _
    · split
      · exact h.exec hh _
      · exact nextKeeps_next (h.frame (by simp [State.tick]))

end Sys2Proof.Machine
end

section
/-! SUPPORT. The admission test of a LOAD (R84, R85). -/

namespace Sys2Proof.Machine

theorem counted_iff (r : CompRec) :
    r.counted = true ↔
      r.state = .loading ∨ r.state = .holding ∨ r.state = .collecting ∨ (r.state = .attending ∧ r.meal ≠ none) := by
  unfold CompRec.counted
  cases r.state <;> simp [Option.isSome_iff_ne_none]

/-- The quotient rounded up is the least number of whole units that reaches the sum (R84). -/
theorem requiredShare_eq_iff (s : State) (cls R : Nat) :
    s.requiredShare cls = R ↔
      s.dutySum cls * s.cfg.power ≤ R * 1000 ∧ ∀ q, s.dutySum cls * s.cfg.power ≤ q * 1000 → R ≤ q := by
  unfold State.requiredShare
  generalize s.dutySum cls * s.cfg.power = x
  have hup : x ≤ (x + 999) / 1000 * 1000 := by omega
  constructor
  · rintro rfl
    exact ⟨hup, fun q hq => by omega⟩
  · rintro ⟨hreach, hleast⟩
    have hle := hleast _ hup
    omega

/-- A LOAD that passes the checks ahead of the admission test is refused by it (R3). -/
theorem loadChecks_of_admission {s : State} {cls tag : Nat} {probe : Option Nat} {o : KOutcome}
    (ho : s.admission cls = some o) (hserving : s.sul.service = some .serving) (hclass : s.classEnabled cls = true)
    (htag : s.findTag tag = none) (hprobe : ∀ p, probe = some p → (s.cls cls).floor ≤ p) (reach : Bool) :
    s.loadChecks tag cls reach probe = .error o := by
  have hwarm : (probe.any fun p => p < (s.cls cls).floor) = false := by
    cases probe with
    | none => rfl
    | some p => exact decide_eq_false (Nat.not_lt.mpr (hprobe p rfl))
  unfold State.loadChecks
  rw [if_neg (not_not.mpr hserving), hclass, htag, hwarm, ho]
  rfl

end Sys2Proof.Machine
end

section
/-! SUPPORT. What a peer's frame and a lapse do to the Peer Draw Table, in the words of Safety.lean (R65 to R69, R94). -/

namespace Sys2Proof.Machine

variable {s : State} {sender : Nat}

theorem heardPeer_eq (s : State) : s.heardPeer = s.heard := by
  have hsilence : (if s.lif.silenceAt.isSome then some (s.now + Config.silence) else none)
      = s.lif.silenceAt.map fun _ => s.now + 2000 := by cases s.lif.silenceAt <;> rfl
  simp only [State.heardPeer, State.modLif, hsilence, State.heard]

/-- A well-formed frame of a peer is heard, acted on, and ends its event. -/
theorem receive_of_peer (hrun : s.running = true) (hcourt : s.cfg.courtSize ≠ 1) (hpeer : sender ≠ s.cfg.address)
    {ok : Bool} (hok : ok = true) (act : State → State) : s.receive sender ok act = (act s.heard).close := by
  have hreads : s.reads = true := by simp [State.reads, hrun, hcourt]
  unfold State.receive
  rw [hreads, if_neg (by simp), if_neg hpeer, if_pos hok, heardPeer_eq]

/-- A change of an entry raises no trigger of its own. -/
theorem close_modPeer_heard (hq : s.Quiet) (f : PeerEntry → PeerEntry) :
    (s.heard.modPeer sender f).close = (s.heard.modPeer sender f).pump :=
  close_of_quiet _ (quiet_of_psc hq rfl)

theorem drawContent_eq_true {service line : Nat} (hs : service ≤ 2) (hl : line ≤ 3) :
    drawContent service line = true := by
  have hservice : (serviceOf service).isSome = true := by interval_cases service <;> rfl
  have hline : (peerLineOf line).isSome = true := by interval_cases line <;> rfl
  rw [drawContent, hservice, hline]
  rfl

/-- S is the sum over the live entries (R65, R69). -/
theorem peerDraw_eq_sum_live (s : State) :
    s.peerDraw = ((s.peers.filter PeerEntry.live).map fun e => e.draw.getD 0).sum := by
  unfold State.peerDraw
  induction s.peers with
  | nil => rfl
  | cons e es ih => cases he : e.live <;> simp [he, ih]

theorem ignoresClaim_iff (e : PeerEntry) (sequence : Nat) :
    e.ignoresClaim sequence = true ↔ (∃ c, e.claim = some c ∧ c.sequence = sequence) ∨ e.line = some .isolated
      ∨ e.line = some .mismatched ∨ e.service = some .shut := by
  simp [PeerEntry.ignoresClaim, Option.any_eq_true, or_assoc]

end Sys2Proof.Machine
end

section
/-! SUPPORT. The result of a claim at its window's end (R54, R61, R77 to R79). -/

namespace Sys2Proof.Machine

variable {s : State} {c : Nat}

theorem exec_claimWindowEnd (hrun : s.running = true) {amount margin sequence : Nat} {f e : Time}
    (hclaim : s.dsu.claim = .window amount margin sequence f e) (he : e ≤ s.now) :
    exec .claimWindowEnd s = .next (s.claimResult (s.ownGranted amount margin f e)).close := by
  show execClaimWindowEnd s = _
  unfold execClaimWindowEnd
  rw [hrun, hclaim]
  exact congrArg _ (if_pos he)

theorem useGrant_none (hc : s.firstEligible = none) : s.useGrant = s.queueDraw := by
  simp only [State.useGrant, hc]

/-- A grant is used where a channel is IDLE and the stagger has ended (R54). -/
theorem useGrant_used {ch : Nat} (hc : s.firstEligible = some c) (hch : s.idleChannel = some ch)
    (hover : s.staggerEnded = true) : s.useGrant = s.activate c ch := by
  have hact : s.canActivate .permitted = true := by simp [State.canActivate, hch, hover]
  simp only [State.useGrant, hc, hact, if_true, actOn_of_canActivate hact hch]

/-- Otherwise the grant lapses, and a DRAW is queued after what the candidate may preempt (R61, R78). -/
theorem useGrant_unused (hc : s.firstEligible = some c) (h : s.idleChannel = none ∨ s.staggerEnded = false) :
    s.useGrant = (s.actOn c .permitted).queueDraw := by
  have hact : s.canActivate .permitted = false := by
    rcases h with h | h <;> simp [State.canActivate, h]
  simp only [State.useGrant, hc, hact, Bool.false_eq_true, if_false]

/-- A lapsing grant preempts nothing where a channel is IDLE or there is no pulse to preempt. -/
theorem actOn_permitted_of_idle (hidle : s.idleChannel ≠ none) (hover : s.staggerEnded = false) :
    s.actOn c .permitted = s := by
  refine actOn_of_neither (by simp [State.canActivate, hover]) nofun fun _ => ?_
  by_contra hnone
  exact hidle ((idleChannel_eq_none_iff s).mpr hnone)

theorem actOn_permitted_of_preemptsNone (hidle : s.idleChannel = none) (h : s.PreemptsNone c) :
    s.actOn c .permitted = s := by
  rw [actOn_of_unstarted (.inr ⟨rfl, (idleChannel_eq_none_iff s).mp hidle⟩)]
  split
  · next hu => exact preempt_of_preemptsNone s hu h
  · rfl

theorem actOn_permitted_of_preempts {v : Nat} (hidle : s.idleChannel = none) (h : s.Preempts c v) :
    s.actOn c .permitted = s.suspend v := by
  have ⟨hu, _, _⟩ := h
  rw [actOn_of_unstarted (.inr ⟨rfl, (idleChannel_eq_none_iff s).mp hidle⟩), if_pos hu, preempt_of_preempts s h]

end Sys2Proof.Machine
end

section
/-! The statements about sharing the court allowance. -/

namespace Sys2Proof.Proofs

open Sys2Proof Sys2Proof.Machine

/-- Settles O60: every command, every byte taken and the clock's step keep the draw law; a change of line mode needs the
heater law for its reduction to reach the new limit. -/
theorem drawInvariant : Obligations.DrawInvariant :=
  fun _ t hh h hs => ⟨hh.step t hs, h.step hh t hs⟩

/-- Settles O15: the counted set, the quotient rounded up, and the admission test mode by mode. -/
theorem admissionTest : Obligations.AdmissionTest := by
  intro s cls
  refine ⟨counted_iff, rfl, requiredShare_eq_iff s cls, ?_, fun hm => ?_, ?_, ?_⟩
  · rintro (hm | hm) <;> simp only [State.admission, hm]
  · simp only [State.admission, hm]
  · rintro (hm | hm) <;> simp only [State.admission, hm]
  · exact fun tag reach probe o ho hserving hclass htag hprobe =>
      loadChecks_of_admission ho hserving hclass htag hprobe reach

/-- Settles O35: a frame of a peer is heard and acted on, a lapse only clears `live`, and both end in the fall of S and
the overrun test. -/
theorem drawHeardAndEntryLapsed : Obligations.DrawHeardAndEntryLapsed := by
  refine ⟨?draw, ?lapse, rfl, rfl, rfl, rfl, rfl, rfl, rfl, peerDraw_eq_sum_live⟩
  case draw =>
    intro s sender service line draw power margin due holding hrun hcourt hpeer hs hl v
    exact congrArg Host.Outcome.next (receive_of_peer hrun hcourt hpeer (drawContent_eq_true hs hl) _)
  case lapse =>
    intro s addr h hrun hlive hheard hover v
    have hdue : (s.running && (s.peer addr).live
        && reached ((s.peer addr).heard.map (· + Config.liveTime)) s.now) = true := by
      rw [hrun, hlive, hheard]
      exact decide_eq_true hover
    exact congrArg Host.Outcome.next (if_pos hdue)

/-- Settles O36: a CLAIM of a peer changes its entry only, so the event ends with the transmitters supplied. -/
theorem claimHeard : Obligations.ClaimHeard := by
  intro s sender amount margin sequence hrun hcourt hq hpeer
  show execClaimFrame sender amount margin sequence s = _
  unfold execClaimFrame
  rw [receive_of_peer hrun hcourt hpeer rfl, close_modPeer_heard hq]
  simp only [ignoresClaim_iff]
  rfl

/-- Settles O40: the table of R71 by overrun hold and line mode, then the six cases of R72 in their order. -/
theorem permissionForDraw : Obligations.PermissionForDraw := by
  intro s margin m hm apart fitsF fitsWi soon claimMade
  have happart : m.apart = true ↔ apart := apart_iff m
  refine ⟨fun hhold hF hW => ?holdFits, fun hhold hno => ?holdRefused, fun hfree =>
    ⟨fun ha hfits => ?apartFits, fun ha hno => ?apartRefused, fun hj hF => ?withinShare, fun hj hF => ?joiningBeyond,
      fun hc hF => ?courtBeyond⟩⟩
  case holdFits =>
    rw [requestDraw_of_overrunHold hm hhold, if_pos ⟨hF, fun ha => hW (happart.mp ha)⟩]
  case holdRefused =>
    rw [requestDraw_of_overrunHold hm hhold, if_neg]
    exact fun ⟨hF, hW⟩ => hno ⟨hF, fun ha => hW (happart.mpr ha)⟩
  case apartFits => rw [requestDraw_of_apart hm hfree (happart.mpr ha), if_pos hfits]
  case apartRefused => rw [requestDraw_of_apart hm hfree (happart.mpr ha), if_neg hno]
  case withinShare =>
    have hjoined : m.apart = false := by rcases hj with rfl | rfl <;> rfl
    rw [requestDraw_of_joined hm hfree hjoined, if_pos hF]
  case joiningBeyond =>
    subst hj
    rw [requestDraw_of_joined hm hfree rfl, if_neg hF, if_neg nofun]
  case courtBeyond =>
    subst hc
    rw [requestDraw_of_joined hm hfree rfl, if_neg hF, if_pos rfl]
    refine ⟨requestClaim_alone, requestClaim_outstanding, fun hcourt hclaim =>
      ⟨requestClaim_backoff hcourt hclaim, fun hlost => ?_⟩⟩
    rw [requestClaim_ready hcourt hclaim hlost hfree]
    simp only [readySoon_iff]
    refine ⟨fun hlate => if_neg ?_, fun hlate => if_neg ?_, fun t ht hsoon hstagger hseq => ?_⟩
    · exact fun ⟨⟨t, ht, hsoon⟩, _⟩ => hlate t ht hsoon
    · exact fun ⟨_, hstagger⟩ => hlate hstagger
    · rw [if_pos ⟨⟨t, ht, hsoon⟩, hstagger⟩]
      unfold State.makeClaim
      rw [next_sequence hseq]
      rfl

/-- Settles O41: the walk's equations, the claim set's members and order, and what each result of the walk leads to. -/
theorem claimDecidedAtWindowEnd : Obligations.ClaimDecidedAtWindowEnd := by
  refine ⟨fun h own sum l => ⟨rfl, fun c => walk_cons h own sum c l⟩, ?set, ?result⟩
  case set =>
    intro s own x f e hown hpeers hnodup
    refine ⟨?_, claimSet_pairwise s own f e (hown ▸ hpeers) hnodup⟩
    simp only [mem_claimSet, inWindow_eq_some_iff]
  case result =>
    intro s amount margin sequence f e hrun hclaim he granted
    have hexec : exec .claimWindowEnd s = .next (s.claimResult granted).close := exec_claimWindowEnd hrun hclaim he
    rw [hexec]
    refine ⟨fun hlost => by rw [hlost]; rfl, fun hgranted => ?_⟩
    intro u
    have hused : s.claimResult granted = u.useGrant := by rw [hgranted]; rfl
    have hfirst : u.firstEligible = s.firstEligible := firstEligible_congr rfl rfl rfl
    rw [hused, ← hfirst]
    refine ⟨fun hnone => ?none, fun c ch hc hch hover => ?used, fun c hc hno => ?unused⟩
    case none => rw [useGrant_none hnone]
    case used => rw [useGrant_used hc hch hover]
    case unused =>
      rw [useGrant_unused hc hno]
      refine ⟨fun hcalm => ?_, fun v hidle hv => ?_⟩
      · have hsame : u.actOn c .permitted = u := by
          by_cases hidle : s.idleChannel = none
          · exact actOn_permitted_of_preemptsNone (s := u) hidle (hcalm.resolve_left (not_not.mpr hidle))
          · exact actOn_permitted_of_idle (s := u) hidle (hno.resolve_left hidle)
        rw [hsame]
      · rw [actOn_permitted_of_preempts (s := u) hidle hv]

/-- Settles O42: the ends of the two holds, and the fall-back, whose reduction order comes to its limit one suspension
after another. -/
theorem overrunFallBack : Obligations.OverrunFallBack := by
  refine ⟨fun s e hrun he hover => ?lost, fun s e hrun he hover => ?hold, fun s hh =>
    ⟨fun hno => ?calm, fun hmet => ?falls, fun limit => ?reduces⟩⟩
  case lost =>
    have hdue : (s.running && reached s.dsu.lostUntil s.now) = true := by
      rw [hrun, he]
      exact decide_eq_true hover
    exact congrArg Host.Outcome.next (if_pos hdue)
  case hold =>
    have hdue : (s.running && reached s.dsu.overrunUntil s.now) = true := by
      rw [hrun, he]
      exact decide_eq_true hover
    exact congrArg Host.Outcome.next (if_pos hdue)
  case calm => rw [State.overrunTest, if_neg (mt (overrunMet_iff s).mp hno)]
  case falls =>
    have hdropped : s.dropClaim.HeaterLaw := hh.frame (by simp)
    obtain ⟨hdraw, -⟩ := hdropped.reduceTo s.share
    rw [State.overrunTest, if_pos ((overrunMet_iff s).mpr hmet)]
    exact ⟨hdraw, by simp, rfl, by simp [Config.overrunHold], by simp, by simp, by simp, by simp⟩
  case reduces =>
    obtain ⟨hdraw, hlaw⟩ := hh.reduceTo limit
    exact ⟨hdraw, reduceTo_within s limit, fun v hd hv => reduceTo_above s limit v hh hd hv, hlaw, by simp, by simp⟩

end Sys2Proof.Proofs
end

section
/-! SUPPORT. The transmit queue and the transmit buffer (R89, R90, R92, R93): the queue's order, which frames it takes,
and where a frame under attempt returns. -/

namespace Sys2Proof.Machine

variable {s : State}

/-! ## The order (R92) -/

/-- The order of the transmit queue: kind code, then age. -/
def Queued.InOrder (l : List Queued) : Prop :=
  l.Pairwise fun a b => a.frame.kind < b.frame.kind ∨ (a.frame.kind = b.frame.kind ∧ a.age ≤ b.age)

theorem Queued.before_iff (a b : Queued) :
    a.before b = true ↔ a.frame.kind < b.frame.kind ∨ (a.frame.kind = b.frame.kind ∧ a.age < b.age) := by
  simp [Queued.before]

theorem insertQueued_perm (q : Queued) (l : List Queued) : (insertQueued q l).Perm (q :: l) := by
  induction l with
  | nil => exact .refl _
  | cons x xs ih =>
    unfold insertQueued
    split
    · exact .refl _
    · exact (ih.cons x).trans (.swap q x xs)

theorem mem_insertQueued {q x : Queued} {l : List Queued} : x ∈ insertQueued q l ↔ x = q ∨ x ∈ l :=
  (insertQueued_perm q l).mem_iff.trans List.mem_cons

theorem Queued.InOrder.insertQueued {l : List Queued} (h : Queued.InOrder l) (q : Queued) :
    Queued.InOrder (insertQueued q l) := by
  induction l with
  | nil => exact List.pairwise_singleton _ _
  | cons x xs ih =>
    obtain ⟨hx, hxs⟩ := List.pairwise_cons.mp h
    unfold Machine.insertQueued
    split
    · next hqx =>
      refine List.pairwise_cons.mpr ⟨fun y hy => ?_, h⟩
      rw [Queued.before_iff] at hqx
      rcases List.mem_cons.mp hy with rfl | hy
      · omega
      · have := hx y hy
        omega
    · next hqx =>
      refine List.pairwise_cons.mpr ⟨fun y hy => ?_, ih hxs⟩
      rw [Queued.before_iff] at hqx
      rcases mem_insertQueued.mp hy with rfl | hy
      · omega
      · exact hx y hy

/-! ## What the queue takes (R92, R93) -/

theorem reads_iff (s : State) : s.reads = true ↔ s.running = true ∧ s.cfg.courtSize ≠ 1 := by
  rw [State.reads, Bool.and_eq_true, bne_iff_ne]

theorem reads_congr {s t : State} (h : t.sul = s.sul) : t.reads = s.reads := by
  simp only [State.reads, State.running, State.cfg, h]

/-- A timer whose moment has been reached expires in service. -/
theorem running_and_reached {moment : Option Time} {e : Time} (hrun : s.running = true) (he : moment = some e)
    (hover : e ≤ s.now) :
    (s.running && reached moment s.now) = true := by
  rw [hrun, he]
  exact decide_eq_true hover

theorem takesFrames_iff (s : State) :
    s.takesFrames = true ↔
      s.running = true ∧ s.cfg.courtSize ≠ 1 ∧ ∃ m, s.lif.mode = some m ∧ m ≠ .mismatchedClash := by
  rw [State.takesFrames, Bool.and_eq_true, reads_iff, and_assoc]
  cases s.lif.mode with
  | none => simp
  | some m => cases m <;> simp

theorem queueNote_of_not_takesFrames (h : s.takesFrames = false) (f : Frame) : s.queueNote f = s := by
  rw [State.queueNote, h, if_neg Bool.false_ne_true]

theorem queueDraw_of_not_takesFrames (h : s.takesFrames = false) : s.queueDraw = s := by
  rw [State.queueDraw, h, if_neg Bool.false_ne_true]

/-- Below ten notes held, a note is placed with the next age. -/
theorem queueNote_of_room (h : s.takesFrames = true) (hroom : s.lif.noteCount < 10) (f : Frame) :
    s.queueNote f = s.modLif (Lif.push f) := by
  rw [State.queueNote, if_pos h]
  exact congrArg (fun l => { s with lif := l }) (if_pos hroom)

/-- With ten held it is dropped. -/
theorem queueNote_of_full (h : s.takesFrames = true) (hfull : 10 ≤ s.lif.noteCount) (f : Frame) :
    s.queueNote f = s.modLif fun l => { l with noteLost := true } := by
  rw [State.queueNote, if_pos h]
  exact congrArg (fun l => { s with lif := l }) (if_neg (Nat.not_lt.mpr hfull))

theorem queueDraw_of_takesFrames (h : s.takesFrames = true) :
    s.queueDraw = s.modLif fun l => l.removeDraw.push .draw := by
  rw [State.queueDraw, if_pos h]

/-! ## The buffer's frame (R89, R90) -/

theorem startAttempt_eq {q : Queued} {qs : List Queued} (h : s.lif.queue = q :: qs) :
    s.startAttempt = s.modLif fun l => { l with
      queue := qs, enable := true,
      buffer := some { frame := q.frame, age := q.age, bytes := q.frame.bytes s.cfg.address s.drawReport,
                       doomed := false } } := by
  rw [State.startAttempt, h]

/-- The frame under attempt returns to its place by kind and age, unless it is marked for discard or a DRAW that a newer
one has replaced. -/
theorem returnFrame_eq {l : Lif} {b : Buffered} (h : l.buffer = some b) :
    l.returnFrame = { l with
      buffer := none,
      queue := if b.doomed = true ∨ (b.frame = .draw ∧ ∃ q ∈ l.queue, q.frame = .draw) then l.queue
               else insertQueued { frame := b.frame, age := b.age } l.queue } := by
  have hdropped : (b.doomed || (b.frame = .draw && l.drawQueued)) = true
      ↔ b.doomed = true ∨ (b.frame = .draw ∧ ∃ q ∈ l.queue, q.frame = .draw) := by
    simp [Lif.drawQueued]
  unfold Lif.returnFrame
  rw [h]
  by_cases hd : b.doomed = true ∨ (b.frame = .draw ∧ ∃ q ∈ l.queue, q.frame = .draw)
  · simp only [if_pos hd, if_pos (hdropped.mpr hd)]
  · simp only [if_neg hd, if_neg (mt hdropped.mp hd)]

end Sys2Proof.Machine
end

section
/-! SUPPORT. What a change of line mode comes to once its event has ended (R80, R82, R95, R97 to R101): the new mode's
limit is kept, no claim is left where the mode stands apart, and a DRAW is queued. -/

namespace Sys2Proof.Machine

variable {s t : State} {m : LineMode}

/-! ## The end of an event, as an induction -/

/-- What every part of an event's end keeps, the end of the event keeps. -/
theorem close_keeps {P : State → Prop} (hdraw : ∀ u, P u → P u.drawSettled.queueDraw)
    (htest : ∀ u, P u → P u.overrunTest) (hasleep : ∀ u, P u → P u.asleep) (hattempt : ∀ u, P u → P u.attempt)
    (hpump : ∀ u, P u → P u.pump) (h : P s) : P s.close := by
  have hsettle (u : State) (hu : P u) : P u.settleDraw := by
    unfold State.settleDraw
    dsimp only
    split
    · split
      · exact hdraw _ (htest _ (hdraw u hu))
      · exact htest _ (hdraw u hu)
    · exact hu
  have hrounds (n : Nat) (u : State) (hu : P u) : P (runAttempts n u) := by
    induction n generalizing u with
    | zero => exact hasleep u hu
    | succ n ih =>
      unfold runAttempts
      split
      · exact ih _ (hsettle _ (hattempt _ (hasleep u hu)))
      · exact hu
  exact hpump _ (hrounds 4 _ (hsettle s h))

/-! ## A DRAW in the queue (R93) -/

/-- A DRAW waits in the queue. -/
def Lif.HasDraw (l : Lif) : Prop := ∃ q ∈ l.queue, q.frame = .draw

theorem hasDraw_push_draw (l : Lif) : (l.push .draw).HasDraw := ⟨_, mem_insertQueued.mpr (.inl rfl), rfl⟩

theorem Lif.HasDraw.removeClaim {l : Lif} (h : l.HasDraw) : l.removeClaim.HasDraw := by
  obtain ⟨q, hq, hdraw⟩ := h
  exact ⟨q, List.mem_filter.mpr ⟨hq, by rw [hdraw]; rfl⟩, hdraw⟩

theorem hasDraw_queueDraw (h : s.takesFrames = true) : s.queueDraw.lif.HasDraw := by
  rw [queueDraw_of_takesFrames h]
  exact hasDraw_push_draw _

theorem hasDraw_queueDraw_of_hasDraw (h : s.lif.HasDraw) : s.queueDraw.lif.HasDraw := by
  by_cases htakes : s.takesFrames = true
  · exact hasDraw_queueDraw htakes
  · rwa [queueDraw_of_not_takesFrames (Bool.eq_false_iff.mpr htakes)]

theorem hasDraw_dropClaim (h : s.lif.HasDraw) : s.dropClaim.lif.HasDraw := by
  unfold State.dropClaim
  split
  · exact h
  · exact h.removeClaim
  · exact h

/-! ## What a line mode keeps to (R80, R82) -/

/-- `s` keeps to line mode `m`, entered with D taken to the mode's limit, its DRAW queued, and the claim dropped where
the mode stands apart. -/
structure State.KeepsTo (s : State) (m : LineMode) : Prop where
  mode : s.lif.mode = some m
  limit : ∀ l, s.entryLimit m = some l → s.draw ≤ l
  claim : m.apart = true → s.dsu.claim = .noClaim
  told : s.lif.HasDraw

theorem entryLimit_congr (h : t.sul.config = s.sul.config) (m : LineMode) : t.entryLimit m = s.entryLimit m := by
  cases m <;> simp only [State.entryLimit, State.share, cfg_of_config h]

/-- What draws no more, keeps the mode and a queued DRAW, and makes no claim, keeps to the mode. -/
theorem State.KeepsTo.frame (h : s.KeepsTo m) (hconfig : t.sul.config = s.sul.config)
    (hmode : t.lif.mode = s.lif.mode) (hclaim : s.dsu.claim = .noClaim → t.dsu.claim = .noClaim)
    (htold : s.lif.HasDraw → t.lif.HasDraw)
    (hon : t.psc.channels.countP Channel.isOn ≤ s.psc.channels.countP Channel.isOn) : t.KeepsTo m where
  mode := hmode.trans h.mode
  limit l hl := (draw_le_of_countP (cfg_of_config hconfig) hon).trans (h.limit l (entryLimit_congr hconfig m ▸ hl))
  claim happ := hclaim (h.claim happ)
  told := htold h.told

theorem State.KeepsTo.queueDraw (h : s.KeepsTo m) : s.queueDraw.KeepsTo m :=
  h.frame (by simp) (by simp) (by simp) hasDraw_queueDraw_of_hasDraw (by simp)

theorem State.KeepsTo.dropClaim (h : s.KeepsTo m) : s.dropClaim.KeepsTo m :=
  h.frame (by simp) (by simp) (by simp) hasDraw_dropClaim (by simp)

theorem State.KeepsTo.reduceTo (h : s.KeepsTo m) (limit : Nat) : (s.reduceTo limit).KeepsTo m := by
  obtain ⟨-, -, -, -, -, hon⟩ := reduceTo_metersAs s limit
  exact h.frame (by simp) (by simp) (by simp) (by simp) hon

theorem State.KeepsTo.overrunTest (h : s.KeepsTo m) : s.overrunTest.KeepsTo m := by
  unfold State.overrunTest
  split
  · exact (h.dropClaim.reduceTo s.share).frame rfl rfl id id le_rfl
  · exact h

theorem State.KeepsTo.suspend (h : s.KeepsTo m) (c : Nat) : (s.suspend c).KeepsTo m := by
  cases hp : s.runningPulse c with
  | none => rwa [suspend_of_not_running s c hp]
  | some p =>
    refine h.frame (by simp) (by simp) (by simp) (by simp) ?_
    rw [suspend_channels s c (by simp [hp])]
    exact countP_releasedChannels_le c s.now _

theorem State.KeepsTo.preempt (h : s.KeepsTo m) (c : Nat) : (s.preempt c).KeepsTo m := by
  unfold State.preempt
  split
  · exact h
  · split
    · exact h
    · exact h.suspend _

/-- Where one element more fits, it fits below the mode's limit. -/
theorem State.FitsOneMore.le_entryLimit (h : s.FitsOneMore) (hm : s.lif.mode = some m) {l : Nat}
    (hl : s.entryLimit m = some l) : s.draw + s.cfg.power ≤ l := by
  cases m with
  | joining =>
    cases hl
    exact h.joining hm
  | court => cases hl
  | isolated | mismatchedParameters | mismatchedClash =>
    cases hl
    exact h.apart _ hm rfl

/-- An activation raises D by P (R41, R44). -/
theorem activate_draw {c ch : Nat} {e : Estimate} (he : (s.comp c).est = some e)
    (hidle : s.psc.channels[ch]? = some .idle) : (s.activate c ch).draw = s.draw + s.cfg.power := by
  rw [activate_eq s he ch]
  show (s.psc.channels.set ch (.on c)).countP Channel.isOn * s.cfg.power = _
  rw [countP_set_on hidle c, Nat.add_mul, Nat.one_mul]
  rfl

theorem State.KeepsTo.activate (h : s.KeepsTo m) (hfits : s.FitsOneMore) {ch : Nat}
    (hidle : s.psc.channels[ch]? = some .idle) (c : Nat) : (s.activate c ch).KeepsTo m := by
  cases he : (s.comp c).est with
  | none => simpa [State.activate, he] using h
  | some e =>
    refine ⟨by simpa using h.mode, fun l hl => ?_, by simpa using h.claim, by simpa using h.told⟩
    rw [activate_draw he hidle]
    exact hfits.le_entryLimit h.mode (entryLimit_congr (s := s) (t := s.activate c ch) (by simp) m ▸ hl)

theorem State.KeepsTo.actOn (h : s.KeepsTo m) {a : Answer} (hfits : a = .permitted → s.FitsOneMore) (c : Nat) :
    (s.actOn c a).KeepsTo m := by
  unfold State.actOn
  split
  · next hact =>
    obtain ⟨ha, hidle, -⟩ := (canActivate_iff s a).mp hact
    obtain ⟨ch, hch⟩ := Option.ne_none_iff_exists'.mp (mt (idleChannel_eq_none_iff s).mp (not_not.mpr hidle))
    obtain ⟨hch', -⟩ := (idleChannel_eq_some_iff s ch).mp hch
    rw [hch]
    exact h.activate (hfits ha) hch' c
  · split
    · exact h.preempt c
    · exact h

/-- Outside COURT a start attempt makes no claim (R71). -/
theorem requestDraw_eq_self (hm : s.lif.mode ≠ some .court) (margin : Nat) : (s.requestDraw margin).2 = s :=
  (requestDraw_snd s margin).resolve_right fun hmade => hm hmade.1

theorem attempt_cases (hm : s.lif.mode ≠ some .court) :
    s.attempt = s ∨ ∃ c, s.attempt = s.actOn c (s.requestDraw (s.margin c)).1 := by
  cases hc : s.firstEligible with
  | none => exact .inl (by simp only [State.attempt, hc])
  | some c => exact .inr ⟨c, by rw [attempt_eq hc, requestDraw_eq_self hm]⟩

theorem State.KeepsTo.attempt (h : s.KeepsTo m) (hm : m ≠ .court) : s.attempt.KeepsTo m := by
  rcases attempt_cases (s := s) (by simpa [h.mode] using hm) with hidle | ⟨c, hacts⟩
  · rwa [hidle]
  · rw [hacts]
    exact h.actOn fitsOneMore_of_permitted c

/-- The event's end goes by the entered mode: its start attempts stay below its limit (R71, R82). -/
theorem State.KeepsTo.close (h : s.KeepsTo m) (hm : m ≠ .court) : s.close.KeepsTo m :=
  close_keeps (P := fun u => u.KeepsTo m) (fun _ hu => State.KeepsTo.queueDraw (hu.frame rfl rfl id id le_rfl))
    (fun _ hu => hu.overrunTest) (fun _ hu => hu.frame rfl rfl id id le_rfl) (fun _ hu => hu.attempt hm)
    (fun _ hu => hu.frame rfl rfl id id le_rfl) h

/-! ## Entries (R80, R82, R99) -/

@[simp] theorem entering_sul (s : State) (m : LineMode) : (s.entering m).sul = s.sul := by
  unfold State.entering
  dsimp only
  split <;> simp

@[simp] theorem entering_comps (s : State) (m : LineMode) : (s.entering m).comps = s.comps := by
  unfold State.entering
  dsimp only
  split <;> simp

@[simp] theorem entering_kp (s : State) (m : LineMode) : (s.entering m).kp = s.kp := by
  unfold State.entering
  dsimp only
  split <;> simp

@[simp] theorem entering_mode (s : State) (m : LineMode) : (s.entering m).lif.mode = some m := by
  unfold State.entering
  dsimp only
  split <;> simp

@[simp] theorem entering_standing (s : State) (m : LineMode) :
    (s.entering m).lif.standing = { s.lif with mode := some m }.standing := by
  unfold State.entering
  dsimp only
  split <;> simp

theorem entering_claim (s : State) (happ : m.apart = true) : (s.entering m).dsu.claim = .noClaim := by
  rw [State.entering, if_pos happ, dropClaim_claim]

/-- `s` in mode `m`, D taken to the mode's limit and the scheduler told, before its DRAW is queued (R80, R82, R99). -/
def State.entered (m : LineMode) (s : State) : State :=
  ((s.entering m).limitDraw ((s.entering m).entryLimit m)).wake

/-- A change of line mode to any but MISMATCHED(CLASH) queues a DRAW as any change does. -/
theorem changeMode_eq_queueDraw (s : State) (hm : m ≠ .mismatchedClash) :
    s.changeMode m = ((s.entered m).queueDraw).notifyKitchen (.lineMode m) := by
  rw [changeMode_eq, if_neg hm, State.entered]

/-- In MISMATCHED(CLASH) it is the final DRAW (R101). -/
theorem changeMode_clash (s : State) :
    s.changeMode .mismatchedClash
      = ((s.entered .mismatchedClash).queueFinalDraw).notifyKitchen (.lineMode .mismatchedClash) := rfl

@[simp] theorem entered_sul (s : State) (m : LineMode) : (s.entered m).sul = s.sul := by simp [State.entered]
@[simp] theorem entered_lif (s : State) (m : LineMode) : (s.entered m).lif = (s.entering m).lif := by
  simp [State.entered]
@[simp] theorem entered_dsu (s : State) (m : LineMode) : (s.entered m).dsu = (s.entering m).dsu := by
  simp [State.entered]

@[simp] theorem limitDraw_table (s : State) (l : Option Nat) :
    (s.limitDraw l).comps.map CompRec.table = s.comps.map CompRec.table := by
  cases l <;> simp [State.limitDraw]

/-- The reduction of an entry brings D to the mode's limit. -/
theorem entered_draw_le (hh : s.HeaterLaw) {l : Nat} (hl : s.entryLimit m = some l) : (s.entered m).draw ≤ l := by
  obtain ⟨hdraw, -⟩ := (hh.entering m).reduceTo l
  have hlimit : (s.entering m).entryLimit m = some l := (entryLimit_congr (by simp) m).trans hl
  rw [State.entered, hlimit]
  exact hdraw

/-- An entry keeps to its mode. -/
theorem keepsTo_changeMode (hh : s.HeaterLaw) (hreads : s.reads = true) (m : LineMode) :
    (s.changeMode m).KeepsTo m := by
  have hlimit (l : Nat) (hl : (s.changeMode m).entryLimit m = some l) : (s.entered m).draw ≤ l :=
    entered_draw_le hh (entryLimit_congr (s := s) (t := s.changeMode m) (by simp) m ▸ hl)
  have hclaim (happ : m.apart = true) : (s.entered m).dsu.claim = .noClaim := by
    rw [entered_dsu, entering_claim s happ]
  by_cases hm : m = .mismatchedClash
  · subst hm
    rw [changeMode_clash] at hlimit ⊢
    exact ⟨by simp, hlimit, hclaim, hasDraw_push_draw _⟩
  · rw [changeMode_eq_queueDraw s hm] at hlimit ⊢
    obtain ⟨hrun, hcourt⟩ := (reads_iff s).mp hreads
    have htakes : (s.entered m).takesFrames = true :=
      (takesFrames_iff _).mpr ⟨by simpa [State.running] using hrun, by simpa [State.cfg] using hcourt, m, by simp, hm⟩
    refine ⟨by simp, fun l hl => (draw_le_of_countP (cfg_of_config ?_) ?_).trans (hlimit l hl), ?_, ?_⟩
    · simp
    · simp
    · simpa using hclaim
    · simpa using hasDraw_queueDraw htakes

/-- What an entry shows of the Line Interface but for CLAIM and DRAW: the new mode. -/
theorem changeMode_standing (s : State) (m : LineMode) :
    (s.changeMode m).lif.standing = { s.lif with mode := some m }.standing := by
  by_cases hm : m = .mismatchedClash
  · subst hm
    have hfinal : (s.changeMode .mismatchedClash).lif = (s.entering .mismatchedClash).lif.removeDraw.push .draw := by
      rw [changeMode_clash, notifyKitchen_lif, State.queueFinalDraw, modLif_lif, entered_lif]
    rw [hfinal, standing_push rfl, standing_removeDraw, entering_standing]
  · rw [changeMode_eq_queueDraw s hm, notifyKitchen_lif, queueDraw_standing, entered_lif, entering_standing]

theorem notifyKitchen_kp_congr (h : t.kp = s.kp) (n : KNotice) : (t.notifyKitchen n).kp = (s.notifyKitchen n).kp := by
  simp only [State.notifyKitchen, modKp_kp, h]

theorem changeMode_kp (s : State) (m : LineMode) : (s.changeMode m).kp = (s.notifyKitchen (.lineMode m)).kp := by
  rw [changeMode_eq]
  split <;> exact notifyKitchen_kp_congr (by simp) _

theorem changeMode_table (s : State) (m : LineMode) :
    (s.changeMode m).comps.map CompRec.table = s.comps.map CompRec.table := by
  rw [changeMode_eq]
  split <;> simp

end Sys2Proof.Machine
end

section
/-! SUPPORT. Entries to a line mode, seen at the end of their event (R97 to R101). -/

namespace Sys2Proof.Machine

variable {s t : State} {m : LineMode}

/-- `t` is what an entry from `s` to mode `m` leaves: it keeps to the mode, LINE_MODE is sent, and all but heating,
CLAIM and DRAW is as it was. -/
structure State.Enters (s : State) (m : LineMode) (t : State) : Prop where
  keeps : t.KeepsTo m
  standing : t.lif.standing = { s.lif with mode := some m }.standing
  kp : t.kp = (s.notifyKitchen (.lineMode m)).pump.kp
  sul : t.sul = s.sul
  doors : t.doors = s.doors
  table : t.comps.map CompRec.table = s.comps.map CompRec.table
  peers : t.peers = s.peers
  cdir : t.cdir = s.cdir

theorem pump_kp_congr (h : t.kp = s.kp) : t.pump.kp = s.pump.kp := congrArg KitchenPort.pump h

theorem enters_changeMode_close (hh : s.HeaterLaw) (hreads : s.reads = true) (hm : m ≠ .court) :
    s.Enters m (s.changeMode m).close where
  keeps := (keepsTo_changeMode hh hreads m).close hm
  standing := (close_standing _).trans (changeMode_standing s m)
  kp := (close_kp _).trans (pump_kp_congr (changeMode_kp s m))
  sul := by simp
  doors := by simp
  table := (close_table _).trans (changeMode_table s m)
  peers := by simp
  cdir := by simp

theorem State.Enters.kp_of {r : State} (h : s.Enters m t) (hkp : s.kp = r.kp) :
    t.kp = (r.notifyKitchen (.lineMode m)).pump.kp :=
  h.kp.trans (pump_kp_congr (notifyKitchen_kp_congr hkp _))

/-- An entry is the same from any state that shows what it keeps. -/
theorem State.Enters.transfer {r : State} (h : s.Enters m t) (hlif : s.lif = r.lif) (hkp : s.kp = r.kp)
    (hkept : s.sul = r.sul ∧ s.doors = r.doors ∧ s.comps.map CompRec.table = r.comps.map CompRec.table
      ∧ s.peers = r.peers ∧ s.cdir = r.cdir) : r.Enters m t := by
  obtain ⟨hsul, hdoors, htable, hpeers, hcdir⟩ := hkept
  exact ⟨h.keeps, hlif ▸ h.standing, h.kp_of hkp, h.sul.trans hsul, h.doors.trans hdoors,
    h.table.trans htable, h.peers.trans hpeers, h.cdir.trans hcdir⟩

theorem State.Enters.draw_le_isolated (h : s.Enters m t) (happ : m.apart = true) : t.draw ≤ t.cfg.isolated := by
  refine h.keeps.limit _ ?_
  rcases (apart_iff m).mp happ with rfl | rfl | rfl <;> rfl

theorem State.Enters.buffer_eq_none (h : s.Enters m t) (hb : s.lif.buffer = none) : t.lif.buffer = none := by
  have hbuffer : t.lif.standing.buffer = none := by
    rw [h.standing]
    exact Option.map_eq_none_iff.mpr hb
  exact Option.map_eq_none_iff.mp hbuffer

/-! ## ISOLATED (R97) -/

/-- An entry to ISOLATED, in the words of Safety.lean. -/
theorem isolated_enterIsolated_close (hh : s.HeaterLaw) (hreads : s.reads = true) :
    s.Isolated s.enterIsolated.close := by
  have h := enters_changeMode_close (m := .isolated)
    (s := s.modLif fun l => { l with failed := 0, rejoin := false, silenceAt := none, joiningAt := none })
    (hh.frame (by simp)) hreads nofun
  exact ⟨h.keeps.mode, (congrArg Lif.failed h.standing :), (congrArg Lif.rejoin h.standing :),
    (congrArg Lif.silenceAt h.standing :), (congrArg Lif.joiningAt h.standing :), (congrArg Lif.drawAt h.standing :),
    h.keeps.claim rfl, h.keeps.told, (congrArg Lif.noteLost h.standing :), h.draw_le_isolated rfl, h.kp, h.sul, h.doors,
    h.table, h.peers, h.cdir⟩

/-- What the entry keeps of the queue and of the frame under attempt. -/
theorem enterIsolated_close_notes (s : State) : s.enterIsolated.close.lif.notes = s.lif.notes :=
  congrArg Lif.queue (enterIsolated_close_standing s)

theorem enterIsolated_close_buffer (s : State) :
    s.enterIsolated.close.lif.buffer.map (fun b => (b.frame, b.age, b.bytes))
      = s.lif.buffer.map fun b => (b.frame, b.age, b.bytes) := by
  obtain ⟨-, -, hleft⟩ := standing_parts s.enterIsolated.close.lif
  obtain ⟨-, -, hright⟩ := standing_parts
    { s.lif with failed := 0, rejoin := false, silenceAt := none, joiningAt := none, mode := some .isolated }
  rw [← hleft, enterIsolated_close_standing, hright]

/-! ## MISMATCHED(PARAMETERS) (R101) -/

theorem enters_enterParameters_close (hh : s.HeaterLaw) (hreads : s.reads = true) :
    (s.modLif fun l => { l with silenceAt := none, joiningAt := none }).Enters .mismatchedParameters
      s.enterParameters.close :=
  enters_changeMode_close (hh.frame (by simp)) hreads nofun

/-! ## MISMATCHED(CLASH) (R101) -/

theorem dropClaim_of_noClaim (h : s.dsu.claim = .noClaim) : s.dropClaim = s := by
  unfold State.dropClaim
  rw [h]

/-- In MISMATCHED(CLASH) the queue takes nothing and nothing is claimed, so an event's end leaves the Line Interface. -/
theorem close_lif_of_clash (hm : s.lif.mode = some .mismatchedClash) (hclaim : s.dsu.claim = .noClaim) :
    s.close.lif = s.lif := by
  have hmode {u : State} (hu : u.lif = s.lif) : u.lif.mode = some .mismatchedClash := hu ▸ hm
  have hkept : s.close.lif = s.lif ∧ s.close.dsu.claim = .noClaim := by
    refine close_keeps (P := fun u => u.lif = s.lif ∧ u.dsu.claim = .noClaim) ?_ ?_ (fun _ hu => hu) ?_
      (fun _ hu => by simpa using hu) ⟨rfl, hclaim⟩
    · intro u hu
      have hfull : u.drawSettled.takesFrames = false := by
        rw [Bool.eq_false_iff, ne_eq, takesFrames_iff]
        rintro ⟨-, -, m, hm', hne⟩
        exact hne (Option.some.inj (hm'.symm.trans (hmode hu.1)))
      rw [queueDraw_of_not_takesFrames hfull]
      exact hu
    · intro u hu
      unfold State.overrunTest
      split
      · rw [dropClaim_of_noClaim hu.2]
        simpa using hu
      · exact hu
    · intro u hu
      rcases attempt_cases (s := u) (by rw [hmode hu.1]; nofun) with hidle | ⟨c, hacts⟩
      · rwa [hidle]
      · rw [hacts]
        simpa using hu
  exact hkept.1

/-- With an empty queue and the frame under attempt marked already, a dropped claim has no CLAIM to remove (R80). -/
theorem removeClaim_eq_self {l : Lif} (hqueue : l.queue = []) (hmarked : ∀ b, l.buffer = some b → b.doomed = true) :
    l.removeClaim = l := by
  have hbuffer : l.buffer.map (fun b => if b.frame.isClaim then { b with doomed := true } else b) = l.buffer := by
    cases hb : l.buffer with
    | none => rfl
    | some b =>
      have hsame : { b with doomed := true } = b := by rw [← hmarked b hb]
      rw [Option.map_some, hsame, ite_self]
  unfold Lif.removeClaim
  rw [hbuffer, hqueue, List.filter_nil, ← hqueue]

/-- An entry to MISMATCHED(CLASH) from an empty queue leaves the final DRAW alone in it (R101). -/
theorem changeMode_clash_lif (hqueue : s.lif.queue = []) (hmarked : ∀ b, s.lif.buffer = some b → b.doomed = true) :
    (s.changeMode .mismatchedClash).lif = { s.lif with
      mode := some .mismatchedClash, queue := [{ frame := .draw, age := s.lif.stamp }], stamp := s.lif.stamp + 1 } := by
  have hentered : (s.entering .mismatchedClash).lif = { s.lif with mode := some .mismatchedClash } := by
    show (State.dropClaim (s.modLif fun l => { l with mode := some .mismatchedClash })).lif = _
    unfold State.dropClaim
    split
    · rfl
    · exact removeClaim_eq_self hqueue hmarked
    · rfl
  rw [changeMode_clash, notifyKitchen_lif, State.queueFinalDraw, modLif_lif, entered_lif, hentered]
  simp only [Lif.removeDraw, Lif.push, hqueue, List.filter_nil, insertQueued]

/-- `s` as it enters MISMATCHED(CLASH): the queue emptied, the frame under attempt marked, the timers stopped (R101). -/
def State.clashing (s : State) : State :=
  s.modLif fun l =>
    { l with queue := [], buffer := l.buffer.map (fun b => { b with doomed := true }), drawAt := none,
             silenceAt := none, joiningAt := none }

theorem enters_enterClash_close (hh : s.HeaterLaw) (hreads : s.reads = true) :
    s.clashing.Enters .mismatchedClash s.enterClash.close :=
  enters_changeMode_close (s := s.clashing) (hh.frame (by simp [State.clashing])) hreads nofun

/-- The event's end leaves the Line Interface as the entry made it: the final DRAW alone in the queue. -/
theorem enterClash_close_lif (hh : s.HeaterLaw) (hreads : s.reads = true) :
    s.enterClash.close.lif = { s.clashing.lif with
      mode := some .mismatchedClash, queue := [{ frame := .draw, age := s.lif.stamp }], stamp := s.lif.stamp + 1 } := by
  have hkeeps : s.enterClash.KeepsTo .mismatchedClash :=
    keepsTo_changeMode (s := s.clashing) (hh.frame (by simp [State.clashing])) hreads _
  refine (close_lif_of_clash hkeeps.mode (hkeeps.claim rfl)).trans ?_
  refine changeMode_clash_lif (s := s.clashing) rfl fun b hb => ?_
  obtain ⟨b', -, rfl⟩ := Option.map_eq_some_iff.mp hb
  rfl

end Sys2Proof.Machine
end

section
/-! SUPPORT. How an attempt ends (R75, R90, R97, R98, R101): what a failed one returns, and what a
completed frame is reported to. -/

namespace Sys2Proof.Machine

variable {s t : State} {b : Buffered}

/-! ## Failed attempts (R90, R97) -/

/-- `s` after a failed attempt, before an entry to ISOLATED (R90). -/
def State.frameFailed (s : State) : State :=
  s.modLif fun l => { l.returnFrame with failed := min 16 (l.failed + 1) }

theorem frameFailed_eq (hb : s.lif.buffer = some b) :
    s.frameFailed = { s with lif := { s.lif with
      buffer := none, failed := min 16 (s.lif.failed + 1),
      queue := if b.doomed = true ∨ (b.frame = .draw ∧ ∃ q ∈ s.lif.queue, q.frame = .draw) then s.lif.queue
               else insertQueued { frame := b.frame, age := b.age } s.lif.queue } } := by
  rw [State.frameFailed, State.modLif, returnFrame_eq hb]

theorem failAttempt_eq (s : State) :
    s.failAttempt = if 16 ≤ s.lif.failed + 1 ∧ (s.lif.mode = some .joining ∨ s.lif.mode = some .court)
      then s.frameFailed.enterIsolated else s.frameFailed := by
  have hiff : (s.frameFailed.lif.failed = Config.maxFailed
        && (s.frameFailed.lif.mode = some .joining || s.frameFailed.lif.mode = some .court)) = true
      ↔ 16 ≤ s.lif.failed + 1 ∧ (s.lif.mode = some .joining ∨ s.lif.mode = some .court) := by
    simp [State.frameFailed, Config.maxFailed]
  exact ite_congr (propext hiff) (fun _ => rfl) fun _ => rfl

theorem exec_attemptFailed (hreads : s.reads = true) (hb : s.lif.buffer = some b) :
    exec .attemptFailed s = .next s.failAttempt.close := by
  show execAttemptFailed s = _
  exact congrArg _ (if_pos (by simp [hreads, hb]))

/-- The frame of a failed attempt is no matter to the entry to ISOLATED that follows it (R97). -/
theorem isolated_of_frameFailed (hb : s.lif.buffer = some b) (h : s.frameFailed.Isolated t) : s.Isolated t := by
  rwa [frameFailed_eq hb] at h

/-! ## Completed attempts (R75, R90, R101) -/

theorem exec_attemptCompleted (hreads : s.reads = true) (hb : s.lif.buffer = some b) :
    exec .attemptCompleted s = .next (s.completeAttempt b).close := by
  show execAttemptCompleted s = _
  rw [execAttemptCompleted, hreads, hb]

/-- Completion itself: the count 0 and the buffer empty (R90). -/
def State.frameDone (s : State) : State := s.modLif fun l => { l with failed := 0, buffer := none }

@[simp] theorem frameDone_psc (s : State) : s.frameDone.psc = s.psc := rfl

theorem reportCompleted_claim {amount margin sequence : Nat} (hf : b.frame = .claim amount margin sequence)
    (hd : b.doomed = false) : s.reportCompleted b = s.openWindow := by
  simp only [State.reportCompleted, hd, hf, Bool.false_eq_true, if_false]

theorem reportCompleted_finalDraw (hf : b.frame = .draw) (hd : b.doomed = false)
    (hm : s.lif.mode = some .mismatchedClash) : s.reportCompleted b = s.silence := by
  simp only [State.reportCompleted, hd, hf, hm, Bool.false_eq_true, if_false, if_true]

theorem reportCompleted_unreported
    (h : b.doomed = true ∨ (b.frame = .draw ∧ s.lif.mode ≠ some .mismatchedClash) ∨ 2 ≤ b.frame.kind) :
    s.reportCompleted b = s := by
  unfold State.reportCompleted
  split
  · rfl
  · next hd =>
    have h := h.resolve_left hd
    cases hf : b.frame with
    | claim amount margin sequence => simp [hf, Frame.kind] at h
    | draw => exact if_neg (h.elim And.right fun hk => by simp [hf, Frame.kind] at hk)
    | gone _ _ _ | stowed _ _ _ | query _ | hello _ _ => rfl

/-- Outside MISMATCHED(CLASH) no report touches the Line Interface. -/
theorem reportCompleted_lif (hm : s.lif.mode ≠ some .mismatchedClash) (b : Buffered) :
    (s.reportCompleted b).lif = s.lif := by
  by_cases hd : b.doomed = true
  · rw [reportCompleted_unreported (.inl hd)]
  · cases hf : b.frame with
    | claim amount margin sequence => simp [reportCompleted_claim hf (Bool.eq_false_iff.mpr hd)]
    | draw => rw [reportCompleted_unreported (.inr (.inl ⟨hf, hm⟩))]
    | gone _ _ _ | stowed _ _ _ | query _ | hello _ _ =>
      rw [reportCompleted_unreported (.inr (.inr (by simp [hf, Frame.kind])))]

theorem openWindow_queued {amount margin sequence : Nat} (h : s.dsu.claim = .queued amount margin sequence) :
    s.openWindow = s.modDsu fun d => { d with
      claim := .window amount margin sequence (recorded s.now) (recorded s.now + Config.claimHalfWindow) } := by
  simp only [State.openWindow, h]

theorem openWindow_of_not_queued (h : ∀ amount margin sequence, s.dsu.claim ≠ .queued amount margin sequence) :
    s.openWindow = s := by
  cases hc : s.dsu.claim with
  | queued amount margin sequence => exact absurd hc (h _ _ _)
  | noClaim | window _ _ _ _ _ => simp only [State.openWindow, hc]

/-! ## JOINING from ISOLATED (R98) -/

theorem completeAttempt_eq (s : State) (b : Buffered) :
    s.completeAttempt b = if s.lif.mode = some .isolated ∧ s.lif.rejoin = true
      then (s.frameDone.reportCompleted b).rejoinCourt else s.frameDone.reportCompleted b := by
  have hiff : ((s.frameDone.reportCompleted b).lif.mode = some .isolated
        && (s.frameDone.reportCompleted b).lif.rejoin) = true ↔ s.lif.mode = some .isolated ∧ s.lif.rejoin = true := by
    rw [Bool.and_eq_true, decide_eq_true_eq, reportCompleted_mode]
    refine and_congr_right fun hm => ?_
    rw [reportCompleted_lif (by rw [hm]; nofun)]
    rfl
  exact ite_congr (propext hiff) (fun _ => rfl) fun _ => rfl

/-- A completed attempt that enters JOINING. -/
theorem enters_joining_completeAttempt_close (hm : s.lif.mode = some .isolated) (hrejoin : s.lif.rejoin = true)
    (hh : s.HeaterLaw) (hreads : s.reads = true) (b : Buffered) :
    (s.modLif fun l => { l with failed := 0, buffer := none, silenceAt := some (s.now + 2000),
                                joiningAt := some (s.now + 2000) }).Enters .joining (s.completeAttempt b).close := by
  have hlif : (s.frameDone.reportCompleted b).lif = s.frameDone.lif :=
    reportCompleted_lif (s := s.frameDone) (hm ▸ nofun) b
  have hnow : (s.frameDone.reportCompleted b).now = s.now := reportCompleted_now _ b
  have hentered := enters_changeMode_close (m := .joining)
    (s := (s.frameDone.reportCompleted b).modLif fun l =>
      { l with silenceAt := some ((s.frameDone.reportCompleted b).now + 2000),
               joiningAt := some ((s.frameDone.reportCompleted b).now + 2000) })
    (hh.frame (by simp [State.frameDone])) ((reads_congr (reportCompleted_sul _ b)).trans hreads) nofun
  rw [completeAttempt_eq, if_pos ⟨hm, hrejoin⟩]
  refine hentered.transfer ?_ (by simp [State.frameDone]) (by simp [State.frameDone])
  rw [hnow, modLif_lif, hlif]
  rfl

end Sys2Proof.Machine
end

section
/-! SUPPORT. Frames on the line by the layers of R94: every frame row is received with its content's check, and what is
done with a frame that goes no further (R88, R91, R94, R96, R101). -/

namespace Sys2Proof.Machine

variable {s : State} {sender : Nat}

/-! ## The content check (R94 layer 5) -/

theorem serviceOf_isSome (n : Nat) : (serviceOf n).isSome = decide (n ≤ 2) := by
  match n with
  | 0 | 1 | 2 => rfl
  | n + 3 => exact (decide_eq_false (by omega)).symm

theorem peerLineOf_isSome (n : Nat) : (peerLineOf n).isSome = decide (n ≤ 3) := by
  match n with
  | 0 | 1 | 2 | 3 => rfl
  | n + 4 => exact (decide_eq_false (by omega)).symm

theorem goneReasonOf_isSome (n : Nat) : (goneReasonOf n).isSome = decide (n ≤ 2) := by
  match n with
  | 0 | 1 | 2 => rfl
  | n + 3 => exact (decide_eq_false (by omega)).symm

/-- Every frame row of kinds 0 to 5 is received under its sender and its content's check. -/
theorem exec_frame {i : Instr} (h : frameSender i = some sender) :
    ∃ act, ∀ s, exec i s = .next (s.receive sender (frameContentOk i) act) := by
  unfold frameSender at h
  split at h
  case h_8 => cases h
  all_goals obtain rfl := Option.some.inj h
  case h_1 => exact ⟨_, fun s => rfl⟩
  case h_2 service line _ _ _ _ _ =>
    have hok : drawContent service line = (decide (service ≤ 2) && decide (line ≤ 3)) := by
      rw [drawContent, serviceOf_isSome, peerLineOf_isSome]
    exact ⟨_, fun s => congrArg (fun ok => Host.Outcome.next (s.receive _ ok _)) hok⟩
  case h_3 sender tag comp reason =>
    have hok : goneContent tag comp reason = frameContentOk (.goneFrame sender tag comp reason) := by
      rw [goneContent, goneReasonOf_isSome]
      rfl
    exact ⟨_, fun s => congrArg (fun ok => Host.Outcome.next (s.receive _ ok _)) hok⟩
  all_goals exact ⟨_, fun s => rfl⟩

/-! ## Layers (R94) -/

theorem receive_of_not_reads (h : s.reads = false) (ok : Bool) (act : State → State) : s.receive sender ok act = s := by
  rw [State.receive, h, if_pos (by rfl)]

/-- A frame with the own address is a clash, whatever its kind and content (R101, log 24). -/
theorem receive_own (h : sender = s.cfg.address) (ok : Bool) (act : State → State) :
    s.receive sender ok act = if s.reads then s.clash.close else s := by
  cases hreads : s.reads with
  | false => exact receive_of_not_reads hreads ok act
  | true => rw [State.receive, hreads, if_neg (by simp), if_pos h, if_pos rfl]

/-- A peer's frame that fails at its content has passed the check (R94). -/
theorem receive_content_failed (hreads : s.reads = true) (hpeer : sender ≠ s.cfg.address) (act : State → State) :
    s.receive sender false act = s.heard.rxError.close := by
  rw [State.receive, hreads, if_neg (by simp), if_neg hpeer, if_neg Bool.false_ne_true, heardPeer_eq]

theorem exec_frameDiscarded_early (hreads : s.reads = true) {l : DiscardLayer} (hl : l = .framing ∨ l = .crc) :
    exec (.frameDiscarded l) s = .next s.rxError := by
  rcases hl with rfl | rfl <;> exact congrArg Host.Outcome.next (if_neg (by simp [hreads]))

theorem exec_frameDiscarded_content (hreads : s.reads = true) :
    exec (.frameDiscarded .content) s = .next s.heard.rxError := by
  rw [← heardPeer_eq]
  exact congrArg Host.Outcome.next (if_neg (by simp [hreads]))

theorem exec_ownAddressFrame (hreads : s.reads = true) : exec .ownAddressFrame s = .next s.clash.close :=
  congrArg Host.Outcome.next (if_pos hreads)

end Sys2Proof.Machine
end

section
/-! SUPPORT. What a HELLO does: its own change of the table, and the comparison of its parameters (R67, R100, R101,
R108). -/

namespace Sys2Proof.Machine

variable {s t : State} {sender wc wr wg n count : Nat}

/-! ## The comparison (R100, R101) -/

theorem compareParams_agree (h : wc = s.cfg.allowance ∧ wr = s.cfg.reserve ∧ wg = s.cfg.guardW ∧ n = s.cfg.courtSize) :
    s.compareParams wc wr wg n = s := if_pos h

/-- In MISMATCHED nothing is compared any more. -/
theorem compareParams_mismatched
    (hm : s.lif.mode = some .mismatchedParameters ∨ s.lif.mode = some .mismatchedClash) :
    s.compareParams wc wr wg n = s := by
  unfold State.compareParams
  rcases hm with hm | hm <;> simp only [hm, ite_self]

section Differ

variable (hdiffer : ¬(wc = s.cfg.allowance ∧ wr = s.cfg.reserve ∧ wg = s.cfg.guardW ∧ n = s.cfg.courtSize))
include hdiffer

theorem compareParams_report (hm : s.lif.mode = some .court ∨ s.lif.mode = some .isolated) :
    s.compareParams wc wr wg n = s.reportMismatch := by
  rw [State.compareParams, if_neg hdiffer]
  rcases hm with hm | hm <;> simp only [hm]

theorem compareParams_joining (hm : s.lif.mode = some .joining) : s.compareParams wc wr wg n = s.enterParameters := by
  rw [State.compareParams, if_neg hdiffer]
  simp only [hm]

end Differ

/-! ## The table and the answer (R67, R100, R108) -/

/-- `t` shows the comparison of a HELLO, and an entry that follows it, what `s` shows. -/
structure State.ComparesAs (t s : State) : Prop where
  sul : t.sul = s.sul
  kp : t.kp = s.kp
  mode : t.lif.mode = s.lif.mode
  drawAt : t.lif.drawAt = s.lif.drawAt
  wired : s.Wired → t.Wired

@[simp] theorem queueNote_drawAt (s : State) (f : Frame) : (s.queueNote f).lif.drawAt = s.lif.drawAt := by
  unfold State.queueNote
  split
  · rw [modLif_lif]
    split <;> rfl
  · rfl

@[simp] theorem queueHelloAnswer_drawAt (s : State) : s.queueHelloAnswer.lif.drawAt = s.lif.drawAt := by
  unfold State.queueHelloAnswer
  split <;> simp

@[simp] theorem afterPeerChange_standing (s : State) (before : Nat) :
    (s.afterPeerChange before).lif.standing = s.lif.standing := by
  unfold State.afterPeerChange
  split
  · exact overrunTest_standing _
  · exact overrunTest_standing s

/-- The fall of S and the overrun test leave it (R66, R81). -/
theorem State.ComparesAs.afterPeerChange (h : t.ComparesAs s) (before : Nat) :
    (t.afterPeerChange before).ComparesAs s where
  sul := (afterPeerChange_sul t before).trans h.sul
  kp := (afterPeerChange_kp t before).trans h.kp
  mode := (congrArg Lif.mode (afterPeerChange_standing t before) :).trans h.mode
  drawAt := (congrArg Lif.drawAt (afterPeerChange_standing t before) :).trans h.drawAt
  wired hw := (h.wired hw).afterPeerChange before

theorem helloContent_eq_true (h8 : 8 ≤ count) (h32 : count ≤ 32) : helloContent count = true := by
  simp [helloContent, h8, h32]

/-- `s` after the own change of a HELLO(fresh): answered, the sender's entry reset, its directory entries removed. -/
def State.freshTaken (sender : Nat) (s : State) : State :=
  (s.heard.queueHelloAnswer.modPeer sender fun _ =>
    { PeerEntry.empty sender with heard := some s.now, live := true }).modCdir (Cdir.purge sender)

/-- `s` after the own change of a HELLO(answer): the sender live. -/
def State.answerTaken (sender : Nat) (s : State) : State :=
  s.heard.modPeer sender fun e => { e with heard := some s.now, live := true }

section Exec

variable (hrun : s.running = true) (hcourt : s.cfg.courtSize ≠ 1) (hpeer : sender ≠ s.cfg.address)
  (hcount : helloContent count = true)
include hrun hcourt hpeer hcount

theorem exec_helloFresh :
    exec (.helloFresh sender wc wr wg n count) s
      = .next (((s.freshTaken sender).afterPeerChange s.peerDraw).compareParams wc wr wg n).close :=
  congrArg Host.Outcome.next (receive_of_peer hrun hcourt hpeer hcount _)

theorem exec_helloAnswer :
    exec (.helloAnswer sender wc wr wg n count) s
      = .next (((s.answerTaken sender).afterPeerChange s.peerDraw).compareParams wc wr wg n).close :=
  congrArg Host.Outcome.next (receive_of_peer hrun hcourt hpeer hcount _)

end Exec

theorem freshTaken_eq (s : State) (sender : Nat) :
    s.freshTaken sender = { s.heard.queueHelloAnswer with
      peers := s.peers.map fun e =>
        if e.address = sender then { PeerEntry.empty sender with heard := some s.now, live := true } else e,
      cdir := { s.cdir with entries := s.cdir.entries.filter fun x => x.station ≠ sender } } := by
  have hpeers : s.heard.queueHelloAnswer.peers = s.peers := queueHelloAnswer_peers _
  have hcdir : s.heard.queueHelloAnswer.cdir = s.cdir := queueHelloAnswer_cdir _
  unfold State.freshTaken State.modCdir State.modPeer
  rw [hpeers, hcdir]
  rfl

theorem comparesAs_freshTaken (s : State) (sender : Nat) : (s.freshTaken sender).ComparesAs s := by
  refine ⟨?_, ?_, ?_, ?_, fun hw => hw.frame ?_⟩ <;> simp [State.freshTaken, State.heard]

theorem comparesAs_answerTaken (s : State) (sender : Nat) : (s.answerTaken sender).ComparesAs s :=
  ⟨rfl, rfl, rfl, rfl, fun hw => hw.frame ⟨rfl, rfl, rfl, rfl⟩⟩

end Sys2Proof.Machine
end

section
/-! SUPPORT. What is read from the bytes of a frame: its fields, its framing and its check (R88, R94, R174). -/

namespace Sys2Proof.Machine

/-! ## Fields -/

theorem fieldAt_be8 {v : Nat} (hv : v < 256) (r : List Byte) : fieldAt (be8 v ++ r) 0 1 = v := by
  simp [fieldAt, be8, fromBe, Nat.mod_eq_of_lt hv]

theorem fieldAt_be16 {v : Nat} (hv : v < 65536) (r : List Byte) : fieldAt (be16 v ++ r) 0 2 = v := by
  simp only [fieldAt, be16, fromBe, List.drop_zero, List.cons_append, List.nil_append, List.take_succ_cons,
    List.take_zero, List.foldl_cons, List.foldl_nil, BitVec.toNat_ofNat]
  omega

theorem fieldAt_be24 {v : Nat} (hv : v < 16777216) (r : List Byte) : fieldAt (be24 v ++ r) 0 3 = v := by
  simp only [fieldAt, be24, fromBe, List.drop_zero, List.cons_append, List.nil_append, List.take_succ_cons,
    List.take_zero, List.foldl_cons, List.foldl_nil, BitVec.toNat_ofNat]
  omega

/-! A field past the first is read from what follows it. -/

@[simp] theorem fieldAt_be8_append (v : Nat) (r : List Byte) (k n : Nat) :
    fieldAt (be8 v ++ r) (k + 1) n = fieldAt r k n := rfl
@[simp] theorem fieldAt_be16_append (v : Nat) (r : List Byte) (k n : Nat) :
    fieldAt (be16 v ++ r) (k + 2) n = fieldAt r k n := rfl
@[simp] theorem fieldAt_be24_append (v : Nat) (r : List Byte) (k n : Nat) :
    fieldAt (be24 v ++ r) (k + 3) n = fieldAt r k n := rfl

theorem fieldAt_be8_only {v : Nat} (hv : v < 256) : fieldAt (be8 v) 0 1 = v := fieldAt_be8 hv []
theorem fieldAt_be24_only {v : Nat} (hv : v < 16777216) : fieldAt (be24 v) 0 3 = v := fieldAt_be24 hv []

/-! ## Framing and check (R88, R174) -/

/-- A frame but for its check: lead, length, payload. -/
def frameBody (kind sender : Nat) (payload : List Byte) : List Byte :=
  be8 (kind * 32 + sender) ++ (be8 payload.length ++ payload)

theorem frameRecord_eq (kind sender : Nat) (payload : List Byte) :
    frameRecord kind sender payload
      = frameBody kind sender payload ++ be16 (crc (frameBody kind sender payload)).toNat := by
  simp only [frameRecord, frameBody, List.append_assoc]

theorem frameBody_length (kind sender : Nat) (payload : List Byte) :
    (frameBody kind sender payload).length = 2 + payload.length := by
  simp only [frameBody, be8, List.length_append, List.length_singleton]
  omega

section Body

variable {kind sender : Nat} {payload : List Byte} (r : List Byte)

theorem fieldAt_frameBody_lead (hkind : kind < 8) (hsender : sender < 32) :
    fieldAt (frameBody kind sender payload ++ r) 0 1 = kind * 32 + sender := by
  rw [frameBody, List.append_assoc]
  exact fieldAt_be8 (by omega) _

theorem fieldAt_frameBody_length (hlength : payload.length ≤ 12) :
    fieldAt (frameBody kind sender payload ++ r) 1 1 = payload.length := by
  rw [frameBody, List.append_assoc, List.append_assoc]
  exact fieldAt_be8 (by omega) _

theorem payload_of_frameBody : ((frameBody kind sender payload ++ r).drop 2).take payload.length = payload :=
  List.take_left (l₁ := payload) (l₂ := r)

end Body

/-- A frame as sent passes framing and check, and its lead gives back kind and sender. -/
theorem frameCommand_frameRecord (own : Nat) {kind sender : Nat} {payload : List Byte} (hkind : kind < 8)
    (hsender : sender < 32) (hlength : payload.length ≤ 12) :
    frameCommand own (frameRecord kind sender payload) = wellFormedRow own kind sender payload := by
  have hbody := frameBody_length kind sender payload
  rw [frameRecord_eq, frameCommand]
  generalize hcheck : be16 (crc (frameBody kind sender payload)).toNat = check
  have htwo : check.length = 2 := by rw [← hcheck, be16, List.length_cons, List.length_singleton]
  have hframed : (decide ((frameBody kind sender payload ++ check).length < 4) || decide (12 < payload.length)
      || decide ((frameBody kind sender payload ++ check).length < 4 + payload.length)) = false := by
    simp only [List.length_append, hbody, htwo, Bool.or_eq_false_iff, decide_eq_false_iff_not]
    omega
  have hcovered :
      (frameBody kind sender payload ++ check).take (2 + payload.length) = frameBody kind sender payload := by
    rw [← hbody, List.take_left]
  have hsent : ((frameBody kind sender payload ++ check).drop (2 + payload.length)).take 2 = check := by
    rw [← hbody, List.drop_left, ← htwo, List.take_length]
  have hparts : (kind * 32 + sender) / 32 = kind ∧ (kind * 32 + sender) % 32 = sender := by omega
  simp only [fieldAt_frameBody_length check hlength, fieldAt_frameBody_lead check hkind hsender,
    payload_of_frameBody check, hframed, hcovered, hsent, hcheck, hparts]
  rw [if_neg Bool.false_ne_true, if_neg (by simp)]

theorem payloadLength_bounds {kind n : Nat} (h : payloadLength kind = some n) : kind < 6 ∧ n ≤ 9 := by
  unfold payloadLength at h
  split at h <;> cases h <;> decide

theorem payloadLength_kind (report : DrawReport) (f : Frame) :
    payloadLength f.kind = some (f.payload report).length := by
  cases f <;> rfl

/-- A frame of a peer comes to its content's row: its payload has the table's length. -/
theorem frameCommand_bytes {own sender : Nat} (f : Frame) (report : DrawReport) (hsender : sender < 32)
    (hpeer : sender ≠ own) :
    frameCommand own (f.bytes sender report) = contentRow f.kind sender (f.payload report) := by
  have hlength := payloadLength_kind report f
  obtain ⟨hkind, hshort⟩ := payloadLength_bounds hlength
  rw [Frame.bytes, frameCommand_frameRecord own (by omega) hsender (by omega), wellFormedRow, if_neg hpeer, hlength]
  exact if_pos rfl

/-! ## Contents (R93, R174) -/

theorem serviceMode_code_le (m : ServiceMode) : m.code ≤ 2 := by cases m <;> decide
theorem peerLine_code_le (m : PeerLine) : m.code ≤ 3 := by cases m <;> decide
theorem goneReason_code_le (r : GoneReason) : r.code ≤ 2 := by cases r <;> decide

theorem tagOk_eq_true {tag : Nat} (h1 : 1 ≤ tag) (h2 : tag ≤ 999999) : tagOk tag = true := by
  simp [tagOk, h1, h2]

/-- Each field of a frame within its range is read back from the payload. -/
theorem contentRow_payload (sender : Nat) {report : DrawReport} {f : Frame} (h : FrameInRange report f) :
    contentRow f.kind sender (f.payload report) = f.row sender report := by
  cases f with
  | claim amount margin sequence =>
    obtain ⟨hamount, hmargin, hsequence⟩ := h
    simp [contentRow, Frame.kind, Frame.payload, Frame.row, fieldAt_be16 hamount, fieldAt_be16 hmargin,
      fieldAt_be8_only hsequence]
  | draw =>
    obtain ⟨hdraw, hpower, hmargin, hdue, hholding⟩ := h
    have hservice := serviceMode_code_le report.service
    have hline := peerLine_code_le report.line
    have hwide : report.margin.getD 0xFFFF < 65536 := by
      cases hm : report.margin with
      | none => decide
      | some m => exact (hmargin m hm).trans (by decide)
    simp [contentRow, Frame.kind, Frame.payload, Frame.row, DrawReport.payload, opt16,
      fieldAt_be8 (v := report.service.code) (by omega), fieldAt_be8 (v := report.line.code) (by omega),
      fieldAt_be16 hdraw, fieldAt_be8 hpower, fieldAt_be16 hwide, fieldAt_be8 hdue, fieldAt_be8_only hholding,
      drawContent_eq_true hservice hline]
  | gone tag comp reason =>
    obtain ⟨h1, h2, hcomp⟩ := h
    have hreason := goneReason_code_le reason
    have hok : goneContent tag comp reason.code = true := by
      simp [goneContent, tagOk_eq_true h1 h2, hcomp, goneReasonOf_isSome, hreason]
    simp [contentRow, Frame.kind, Frame.payload, Frame.row, fieldAt_be24 (v := tag) (by omega),
      fieldAt_be8 (v := comp) (by omega), fieldAt_be8_only (v := reason.code) (by omega), hok]
  | stowed tag comp cls =>
    obtain ⟨h1, h2, hcomp, hcls⟩ := h
    have hok : stowedContent tag comp cls = true := by simp [stowedContent, tagOk_eq_true h1 h2, hcomp, hcls]
    simp [contentRow, Frame.kind, Frame.payload, Frame.row, fieldAt_be24 (v := tag) (by omega),
      fieldAt_be8 (v := comp) (by omega), fieldAt_be8_only (v := cls) (by omega), hok]
  | query tag =>
    obtain ⟨h1, h2⟩ := h
    simp [contentRow, Frame.kind, Frame.payload, Frame.row, fieldAt_be24_only (v := tag) (by omega),
      tagOk_eq_true h1 h2]
  | hello kind p =>
    obtain ⟨hwc, hwr, hwg, hn, h8, h32⟩ := h
    cases kind <;>
      simp [contentRow, Frame.kind, Frame.payload, Frame.row, HelloKind.code, fieldAt_be8 (v := 0) (by decide),
        fieldAt_be8 (v := 1) (by decide), fieldAt_be16 hwc, fieldAt_be16 hwr, fieldAt_be16 hwg, fieldAt_be8 hn,
        fieldAt_be8_only (v := p.count) (by omega), helloContent_eq_true h8 h32]

end Sys2Proof.Machine
end

section
/-! The statements about the Court Line. -/

namespace Sys2Proof.Proofs

open Sys2Proof Sys2Proof.Machine

/-- Settles O28: an insertion keeps the queue's frames and its order, and what is taken depends on `takesFrames` and the
notes held. -/
theorem transmitQueue : Obligations.TransmitQueue := by
  refine ⟨fun q l => ⟨insertQueued_perm q l, fun h => Queued.InOrder.insertQueued h q⟩, fun s f =>
    ⟨takesFrames_iff s, fun hnot => ⟨queueNote_of_not_takesFrames hnot f, queueDraw_of_not_takesFrames hnot⟩,
      fun htakes hroom => queueNote_of_room htakes hroom f, fun htakes hfull => queueNote_of_full htakes hfull f,
      queueDraw_of_takesFrames⟩⟩

/-- Settles O29: `maySend` lets the head frame out, and a lost attempt returns it. -/
theorem attemptStartedAndLost : Obligations.AttemptStartedAndLost := by
  refine ⟨fun s q qs hrun hcourt hmode hbuffer hopen hqueue => ?started, fun s b hrun hcourt hbuffer => ?lost⟩
  case started =>
    have hsend : s.maySend = true := by
      simp [State.maySend, (reads_iff s).mpr ⟨hrun, hcourt⟩, Option.isSome_iff_ne_none.mpr hmode, hbuffer, hopen]
    show execAttemptStart s = _
    rw [execAttemptStart, if_pos hsend, startAttempt_eq hqueue]
    rfl
  case lost =>
    have hends : (s.reads && s.lif.buffer.isSome) = true := by simp [(reads_iff s).mpr ⟨hrun, hcourt⟩, hbuffer]
    show execAttemptLost s = _
    rw [execAttemptLost, if_pos hends, State.modLif, returnFrame_eq hbuffer]

/-- Settles O30: below 16, or in another mode, the frame only returns; the sixteenth failure and the silence timer's
expiry enter ISOLATED. -/
theorem isolationByFailuresAndSilence : Obligations.IsolationByFailuresAndSilence := by
  refine ⟨fun s b hrun hcourt hb hq => ⟨fun hstays => ?stays, fun h16 hm hh => ?isolates⟩,
    fun s hrun hcourt hq hh hm hdue => ?silence⟩
  case stays =>
    have hreads := (reads_iff s).mpr ⟨hrun, hcourt⟩
    have hkeeps : ¬(16 ≤ s.lif.failed + 1 ∧ (s.lif.mode = some .joining ∨ s.lif.mode = some .court)) := by
      rintro ⟨h16, hm⟩
      rcases hstays with hfew | ⟨hj, hc⟩
      · omega
      · exact hm.elim hj hc
    rw [exec_attemptFailed hreads hb, failAttempt_eq, if_neg hkeeps,
      close_eq_of_quiet s.frameFailed (quiet_of_psc hq rfl), frameFailed_eq hb]
  case isolates =>
    have hreads := (reads_iff s).mpr ⟨hrun, hcourt⟩
    have hentered : s.frameFailed.Isolated s.frameFailed.enterIsolated.close :=
      isolated_enterIsolated_close (hh.frame (by simp [State.frameFailed])) hreads
    refine ⟨_, exec_attemptFailed hreads hb, ?_⟩
    rw [failAttempt_eq, if_pos ⟨h16, hm⟩]
    refine ⟨?_, isolated_of_frameFailed hb hentered, ?_⟩
    · have hempty := enterIsolated_close_buffer s.frameFailed
      rw [frameFailed_eq hb] at hempty ⊢
      exact Option.map_eq_none_iff.mp hempty
    · rw [enterIsolated_close_notes]
      exact returnFrame_notes s.lif b hb
  case silence =>
    have hreads := (reads_iff s).mpr ⟨hrun, hcourt⟩
    obtain ⟨e, he, hover⟩ := hdue
    exact ⟨_, congrArg Host.Outcome.next (if_pos (running_and_reached hrun he hover)),
      isolated_enterIsolated_close hh hreads, enterIsolated_close_notes s, enterIsolated_close_buffer s⟩

/-- Settles O31: by what the completed frame is reported to, and by whether JOINING is entered. -/
theorem attemptCompleted : Obligations.AttemptCompleted := by
  intro s b hrun hcourt hb hq done
  have hreads := (reads_iff s).mpr ⟨hrun, hcourt⟩
  refine ⟨fun hstays => ?stays, fun hm hrejoin hh => ?rejoins⟩
  case stays =>
    have hexec : exec .attemptCompleted s = .next (s.frameDone.reportCompleted b).close := by
      have hno : ¬(s.lif.mode = some .isolated ∧ s.lif.rejoin = true) := by
        rintro ⟨hm, hrejoin⟩
        exact hstays.elim (fun h => h hm) fun h => by simp [h] at hrejoin
      rw [exec_attemptCompleted hreads hb, completeAttempt_eq, if_neg hno]
    have hdone (u : State) (hu : u.psc = s.psc) : u.close = u.pump := close_of_quiet u (quiet_of_psc hq hu)
    rw [hexec, hdone _ (by simp)]
    refine ⟨fun amount margin sequence hf hd => ⟨fun a m n hc => ?_, fun hc => ?_⟩, fun hf hd hm => ?_, fun hno => ?_⟩
    · rw [reportCompleted_claim hf hd, openWindow_queued (s := s.frameDone) hc]
      rfl
    · rw [reportCompleted_claim hf hd, openWindow_of_not_queued (s := s.frameDone) hc]
      rfl
    · rw [reportCompleted_finalDraw (s := s.frameDone) hf hd hm]
      rfl
    · rw [reportCompleted_unreported (s := s.frameDone) hno]
      rfl
  case rejoins =>
    have h := enters_joining_completeAttempt_close hm hrejoin hh hreads b
    exact ⟨_, exec_attemptCompleted hreads hb, h.keeps.mode, (congrArg Lif.failed h.standing :), h.buffer_eq_none rfl,
      (congrArg Lif.silenceAt h.standing :), (congrArg Lif.joiningAt h.standing :), h.keeps.told, h.keeps.limit _ rfl,
      h.kp, (congrArg Lif.queue h.standing :), h.sul, h.doors, h.table, h.peers, h.cdir⟩

/-- Settles O32: the DRAW timer is moved on before its DRAW is queued, and the JOINING timer's expiry is an entry to
COURT. -/
theorem lineTimers : Obligations.LineTimers := by
  refine ⟨fun s e hrun he hover => ?draw, fun s e hrun he hover hm => ?joining⟩
  case draw =>
    show execDrawTimerExpiry s = _
    rw [execDrawTimerExpiry, if_pos (running_and_reached hrun he hover), State.modLif, he]
    rfl
  case joining =>
    have hjoining : (s.modLif fun l => { l with joiningAt := none }).lif.mode = some .joining := hm
    show execJoiningTimerExpiry s = _
    rw [execJoiningTimerExpiry, if_pos (running_and_reached hrun he hover)]
    dsimp only
    rw [if_pos hjoining, changeMode_eq_queueDraw (m := .court) _ nofun]
    rfl

/-- Settles O33: each layer of R94 at which a frame goes no further. -/
theorem discardedAndIgnoredFrames : Obligations.DiscardedAndIgnoredFrames := by
  intro s hrun hcourt hq heard
  have hreads := (reads_iff s).mpr ⟨hrun, hcourt⟩
  refine ⟨fun l hl => exec_frameDiscarded_early hreads hl, exec_frameDiscarded_content hreads,
    fun sender hpeer => ?unknown, fun i sender hi hpeer hbad => ?content, fun u i sender hi hdeaf => ?deaf⟩
  case unknown =>
    show execUnknownKindFrame sender s = _
    rw [execUnknownKindFrame, receive_of_peer hrun hcourt hpeer rfl, id,
      close_eq_of_quiet s.heard (quiet_of_psc hq rfl)]
    rfl
  case content =>
    obtain ⟨act, hexec⟩ := exec_frame hi
    rw [hexec, hbad, receive_content_failed hreads hpeer, close_eq_of_quiet s.heard.rxError (quiet_of_psc hq rfl)]
    rfl
  case deaf =>
    obtain ⟨act, hexec⟩ := exec_frame hi
    have hdeaf : u.reads = false := by
      rw [Bool.eq_false_iff, ne_eq, reads_iff]
      rintro ⟨hon, hmany⟩
      exact hdeaf.elim (fun h => by simp [h] at hon) hmany
    rw [hexec, receive_of_not_reads hdeaf]

/-- Settles O34: every row with the own address is the row of the clash, whose entry leaves the final DRAW alone in the
queue. -/
theorem addressClash : Obligations.AddressClash := by
  intro s hrun hcourt hq
  have hreads := (reads_iff s).mpr ⟨hrun, hcourt⟩
  refine ⟨fun hm => ?already, fun hm hh => ?enters, fun i hi => ?row⟩
  case already =>
    rw [exec_ownAddressFrame hreads, State.clash, if_pos hm, close_eq_of_quiet s hq]
  case enters =>
    have h := enters_enterClash_close hh hreads
    have hlif := enterClash_close_lif hh hreads
    rw [exec_ownAddressFrame hreads, State.clash, if_neg hm]
    refine ⟨_, rfl, h.keeps.mode, ?_, ?_, ?_, ?_, ?_, ?_, h.keeps.claim rfl, h.draw_le_isolated rfl, h.kp, h.sul,
      h.doors, h.table, h.peers, h.cdir⟩
    all_goals rw [hlif]; rfl
  case row =>
    have hown : exec .ownAddressFrame s = .next (if s.reads then s.clash.close else s) := rfl
    rw [hown]
    rcases hi with hi | rfl
    · obtain ⟨act, hexec⟩ := exec_frame hi
      rw [hexec, receive_own rfl]
    · exact congrArg _ (receive_own rfl true id)

/-- Settles O37: both kinds of HELLO change the table, end in the fall of S and the overrun test, and come to the
comparison, which goes by the line mode. -/
theorem helloHeard : Obligations.HelloHeard := by
  intro s sender wc wr wg n count i v hrun hcourt hq hpeer h8 h32 answered hv w agrees
  have hcount := helloContent_eq_true h8 h32
  have hheard : v.ComparesAs s ∧ exec i s = .next (w.compareParams wc wr wg n).close := by
    rcases hv with ⟨rfl, hv⟩ | ⟨rfl, hv⟩
    · obtain rfl : v = s.freshTaken sender := hv.trans (freshTaken_eq s sender).symm
      exact ⟨comparesAs_freshTaken s sender, exec_helloFresh hrun hcourt hpeer hcount⟩
    · obtain rfl : v = s.answerTaken sender := hv
      exact ⟨comparesAs_answerTaken s sender, exec_helloAnswer hrun hcourt hpeer hcount⟩
  obtain ⟨hv, hexec⟩ := hheard
  have hw : w.ComparesAs s := hv.afterPeerChange s.peerDraw
  have hpeers : w.peers = v.peers := afterPeerChange_peers v _
  have hcdir : w.cdir = v.cdir := afterPeerChange_cdir v _
  clear_value w
  have hcfg : w.cfg = s.cfg := cfg_of_config (congrArg Sul.config hw.sul)
  refine ⟨fun hsame => ?unchanged, fun hdiffer hm => ?reported, fun hdiffer hm hh => ?entered⟩
  case unchanged =>
    rw [hexec]
    rcases hsame with hsame | hm
    · rw [compareParams_agree (hcfg ▸ hsame)]
    · rw [compareParams_mismatched (hw.mode ▸ hm)]
  case reported =>
    rw [hexec, compareParams_report (hcfg ▸ hdiffer) (hw.mode ▸ hm)]
    rfl
  case entered =>
    have h := enters_enterParameters_close (s := w) (hw.wired (hh.wired hrun)).heaterLaw
      ((reads_congr hw.sul).trans ((reads_iff s).mpr ⟨hrun, hcourt⟩))
    rw [hexec, compareParams_joining (hcfg ▸ hdiffer) (hw.mode ▸ hm)]
    exact ⟨_, rfl, h.keeps.mode, (congrArg Lif.silenceAt h.standing :), (congrArg Lif.joiningAt h.standing :),
      (congrArg Lif.drawAt h.standing :).trans hw.drawAt, h.keeps.claim rfl, h.keeps.told, h.draw_le_isolated rfl,
      h.kp_of hw.kp, h.peers.trans hpeers, h.cdir.trans hcdir⟩

/-- Settles O54: a frame as sent passes framing, check, source and length, and each of its fields is read back. -/
theorem frameRoundTrip : Obligations.FrameRoundTrip := by
  intro f report sender own hsender hpeer hrange
  rw [frameCommand_bytes f report hsender hpeer, contentRow_payload sender hrange]

end Sys2Proof.Proofs
end

section
/-! SUPPORT. Whether a tag is held (R5), and the operations that leave the tags of the compartment records as they
are. -/

namespace Sys2Proof.Machine

/-! ## The record of a tag (R5) -/

/-- The tag that a record holds (R1). -/
@[simp] def CompRec.tag (r : CompRec) : Option Nat := r.meal.map Meal.tag

theorem findTag_eq_none_iff (s : State) (tag : Nat) : s.findTag tag = none ↔ ∀ r ∈ s.comps, r.tag ≠ some tag := by
  simp [State.findTag]

theorem findTag_isSome (s : State) (tag : Nat) :
    (s.findTag tag).isSome = s.comps.any fun r => r.meal.map Meal.tag = some tag := List.findIdx?_isSome

/-- The one record that holds a tag is the one found. -/
theorem findTag_eq_some {s : State} {tag c : Nat} (hc : c < s.count) (htag : (s.comp c).tag = some tag)
    (hone : ∀ d, d < s.count → d ≠ c → (s.comp d).tag ≠ some tag) : s.findTag tag = some c := by
  have hcomp (d : Nat) (hd : d < s.comps.length) : s.comp d = s.comps[d] := by
    simp [State.comp, List.getD_eq_getElem?_getD, hd]
  refine List.findIdx?_eq_some_iff_getElem.mpr ⟨hc, ?_, fun d hd => ?_⟩
  · rw [hcomp c hc] at htag
    exact decide_eq_true htag
  · have hd' : d < s.count := hd.trans hc
    have hother := hone d hd' hd.ne
    rw [hcomp d hd'] at hother
    exact fun h => hother (of_decide_eq_true h)

/-! ## Estimates, pulses and draw (R33, R44, R50) -/

section Tags

variable (s : State)

theorem tags_of_table {s t : State} (h : t.comps.map CompRec.table = s.comps.map CompRec.table) :
    t.comps.map CompRec.tag = s.comps.map CompRec.tag := by
  have htag : CompRec.tag ∘ CompRec.table = CompRec.tag := rfl
  rw [← htag, ← List.map_map, ← List.map_map, h]

@[simp] theorem modify_tags (l : List CompRec) (c : Nat) (f : CompRec → CompRec) (h : ∀ r, (f r).meal = r.meal) :
    (l.modify c f).map CompRec.tag = l.map CompRec.tag :=
  map_modify_of_eq CompRec.tag f (fun r => congrArg (Option.map Meal.tag) (h r)) l c

@[simp] theorem setEst_tags (c : Nat) (e : Option Estimate) :
    (s.setEst c e).comps.map CompRec.tag = s.comps.map CompRec.tag := tags_of_table (by simp)

@[simp] theorem endPulse_tags (c : Nat) (p : Pulse) :
    (s.endPulse c p).comps.map CompRec.tag = s.comps.map CompRec.tag := tags_of_table (by simp)

@[simp] theorem suspend_tags (c : Nat) : (s.suspend c).comps.map CompRec.tag = s.comps.map CompRec.tag :=
  tags_of_table (by simp)

@[simp] theorem dropHold_tags (c : Nat) : (s.dropHold c).comps.map CompRec.tag = s.comps.map CompRec.tag :=
  tags_of_table (by simp)

@[simp] theorem overrunTest_tags : s.overrunTest.comps.map CompRec.tag = s.comps.map CompRec.tag :=
  tags_of_table (by simp)

@[simp] theorem useGrant_tags : s.useGrant.comps.map CompRec.tag = s.comps.map CompRec.tag := tags_of_table (by simp)

@[simp] theorem close_tags : s.close.comps.map CompRec.tag = s.comps.map CompRec.tag := tags_of_table (by simp)

/-! ## The Court Line (R80 to R101) -/

@[simp] theorem changeMode_tags (m : LineMode) :
    (s.changeMode m).comps.map CompRec.tag = s.comps.map CompRec.tag := tags_of_table (changeMode_table s m)

@[simp] theorem enterIsolated_tags : s.enterIsolated.comps.map CompRec.tag = s.comps.map CompRec.tag := by
  simp [State.enterIsolated]

@[simp] theorem rejoinCourt_tags : s.rejoinCourt.comps.map CompRec.tag = s.comps.map CompRec.tag := by
  simp [State.rejoinCourt]

@[simp] theorem enterParameters_tags : s.enterParameters.comps.map CompRec.tag = s.comps.map CompRec.tag := by
  simp [State.enterParameters]

@[simp] theorem clash_tags : s.clash.comps.map CompRec.tag = s.comps.map CompRec.tag := by
  unfold State.clash
  split <;> simp [State.enterClash]

@[simp] theorem compareParams_tags (wc wr wg n : Nat) :
    (s.compareParams wc wr wg n).comps.map CompRec.tag = s.comps.map CompRec.tag := by
  unfold State.compareParams
  (repeat' split) <;> simp

@[simp] theorem afterPeerChange_tags (before : Nat) :
    (s.afterPeerChange before).comps.map CompRec.tag = s.comps.map CompRec.tag := by
  unfold State.afterPeerChange
  split <;> simp

@[simp] theorem failAttempt_tags : s.failAttempt.comps.map CompRec.tag = s.comps.map CompRec.tag := by
  unfold State.failAttempt
  dsimp only
  split <;> simp

@[simp] theorem completeAttempt_tags (b : Buffered) :
    (s.completeAttempt b).comps.map CompRec.tag = s.comps.map CompRec.tag := by
  unfold State.completeAttempt
  dsimp only
  split <;> simp

@[simp] theorem claimResult_tags (granted : Bool) :
    (s.claimResult granted).comps.map CompRec.tag = s.comps.map CompRec.tag := by
  unfold State.claimResult
  dsimp only
  split <;> simp

/-! ## The Compartment Table (R7 to R18) -/

@[simp] theorem condemn_tags (c : Nat) (reason : CondemnReason) :
    (s.condemn c reason).comps.map CompRec.tag = s.comps.map CompRec.tag := by
  simp [State.condemn]

@[simp] theorem condemnReport_tags (c : Nat) (reason : CondemnReason) :
    (s.condemnReport c reason).comps.map CompRec.tag = s.comps.map CompRec.tag := by
  unfold State.condemnReport
  split <;> simp

@[simp] theorem forcedReport_tags (c : Nat) :
    (s.forcedReport c).comps.map CompRec.tag = s.comps.map CompRec.tag := by
  unfold State.forcedReport
  (repeat' split) <;> simp

@[simp] theorem faultEntry_tags (c : Nat) (reason : FaultReason) :
    (s.faultEntry c reason).comps.map CompRec.tag = s.comps.map CompRec.tag := by
  unfold State.faultEntry
  dsimp only
  split <;> simp

@[simp] theorem faultAttending_tags (c : Nat) (reason : FaultReason) :
    (s.faultAttending c reason).comps.map CompRec.tag = s.comps.map CompRec.tag := by
  unfold State.faultAttending
  dsimp only
  split <;> simp

@[simp] theorem recheck_tags (c : Nat) : (s.recheck c).comps.map CompRec.tag = s.comps.map CompRec.tag := by
  unfold State.recheck
  split <;> simp

@[simp] theorem holdStarts_tags (c : Nat) : (s.holdStarts c).comps.map CompRec.tag = s.comps.map CompRec.tag := by
  unfold State.holdStarts
  dsimp only
  (repeat' split) <;> simp

@[simp] theorem decay_tags (c : Nat) (e : Estimate) :
    (s.decay c e).comps.map CompRec.tag = s.comps.map CompRec.tag := by
  unfold State.decay
  dsimp only
  split <;> simp

/-! ## The Door Arbiter (R10, R12, R116, R124 to R127) -/

@[simp] theorem grantSeize_tags (c : Nat) (sd : Side) :
    (s.grantSeize c sd).comps.map CompRec.tag = s.comps.map CompRec.tag := by
  simp [State.grantSeize]

@[simp] theorem enterAttending_tags (c : Nat) :
    (s.enterAttending c).comps.map CompRec.tag = s.comps.map CompRec.tag := by
  simp [State.enterAttending]

@[simp] theorem grantCollection_tags (c : Nat) :
    (s.grantCollection c).comps.map CompRec.tag = s.comps.map CompRec.tag := by
  simp [State.grantCollection]

@[simp] theorem reevalKitchen_tags (c : Nat) :
    (s.reevalKitchen c).comps.map CompRec.tag = s.comps.map CompRec.tag := by
  unfold State.reevalKitchen
  (repeat' split) <;> simp

@[simp] theorem reevalCounter_tags (c : Nat) :
    (s.reevalCounter c).comps.map CompRec.tag = s.comps.map CompRec.tag := by
  unfold State.reevalCounter
  (repeat' split) <;> simp

@[simp] theorem reeval_tags (sd : Side) (c : Nat) :
    (s.reeval sd c).comps.map CompRec.tag = s.comps.map CompRec.tag := by
  cases sd with
  | kitchen => exact reevalKitchen_tags s c
  | counter => exact reevalCounter_tags s c

@[simp] theorem reevalSide_tags (sd : Side) : (s.reevalSide sd).comps.map CompRec.tag = s.comps.map CompRec.tag :=
  List.foldlRecOn (motive := fun t : State => t.comps.map CompRec.tag = s.comps.map CompRec.tag) _ _ rfl
    fun t ht c _ => (reeval_tags t sd c).trans ht

@[simp] theorem reevalBoth_tags (c : Nat) : (s.reevalBoth c).comps.map CompRec.tag = s.comps.map CompRec.tag := by
  unfold State.reevalBoth
  (repeat' split) <;> simp

@[simp] theorem forceDoor_tags (c : Nat) (sd : Side) :
    (s.forceDoor c sd).comps.map CompRec.tag = s.comps.map CompRec.tag := by
  simp [State.forceDoor]

end Tags

end Sys2Proof.Machine
end

section
/-! SUPPORT. What a command may do to the directory and to the tags, but for start-up, LOAD and STOWED: entries and tags
are removed, and none is added (R5, R104). -/

namespace Sys2Proof.Machine

/-! ## The relation -/

/-- The tags of the compartment records, each as often as it is held (R5). -/
def State.tags (s : State) : List Nat := s.comps.filterMap CompRec.tag

/-- The Start-up Loader but for the service mode. -/
def Sul.standing (u : Sul) : Sul := { u with service := none }

/-- `t` comes from `s` by removals from the directory and from the tags, in the same phase and configuration. -/
structure State.Trims (s t : State) : Prop where
  sul : t.sul.standing = s.sul.standing
  entries : t.cdir.entries.Sublist s.cdir.entries
  tags : t.tags.Sublist s.tags

/-- `t` shows the phase, the configuration, the directory entries and the tags of `s`. -/
@[simp] def State.ListsAs (t s : State) : Prop :=
  t.sul.standing = s.sul.standing ∧ t.cdir.entries = s.cdir.entries
    ∧ t.comps.map CompRec.tag = s.comps.map CompRec.tag

section Relation

variable {s t u : State}

theorem tags_congr (h : t.comps.map CompRec.tag = s.comps.map CompRec.tag) : t.tags = s.tags := by
  have htags (v : State) : v.tags = (v.comps.map CompRec.tag).filterMap id := by
    rw [List.filterMap_map]
    rfl
  rw [htags, htags, h]

theorem State.Trims.refl (s : State) : s.Trims s := ⟨rfl, .refl _, .refl _⟩

theorem State.Trims.trans (h : s.Trims t) (hu : t.Trims u) : s.Trims u :=
  ⟨hu.sul.trans h.sul, hu.entries.trans h.entries, hu.tags.trans h.tags⟩

theorem State.ListsAs.trims (h : t.ListsAs s) : s.Trims t := by
  obtain ⟨hsul, hentries, htags⟩ := h
  exact ⟨hsul, hentries ▸ .refl _, tags_congr htags ▸ .refl _⟩

theorem State.Trims.frame (h : s.Trims t) (hu : u.ListsAs t) : s.Trims u := h.trans hu.trims

theorem State.Trims.phase (h : s.Trims t) : t.sul.phase = s.sul.phase := (congrArg Sul.phase h.sul :)

theorem State.Trims.cfg (h : s.Trims t) : t.cfg = s.cfg := cfg_of_config (congrArg Sul.config h.sul :)

/-- The directory loses entries. -/
theorem State.Trims.modCdir (h : s.Trims t) {f : Cdir → Cdir} (hf : (f t.cdir).entries.Sublist t.cdir.entries) :
    s.Trims (t.modCdir f) :=
  ⟨h.sul, hf.trans h.entries, h.tags⟩

/-! ## Records that are emptied -/

/-- A list loses what is mapped to nothing at one place. -/
theorem filterMap_modify_sublist {α β : Type} (g : α → Option β) (f : α → α) (h : ∀ a, g (f a) = none) (l : List α)
    (c : Nat) : ((l.modify c f).filterMap g).Sublist (l.filterMap g) := by
  induction l generalizing c with
  | nil => simp
  | cons a l ih =>
    cases c with
    | zero =>
      rw [List.modify_zero_cons, List.filterMap_cons_none (h a)]
      exact (List.sublist_cons_self a l).filterMap g
    | succ c =>
      rw [List.modify_succ_cons, List.filterMap_cons, List.filterMap_cons]
      split
      · exact ih c
      · exact (ih c).cons_cons _

theorem State.Trims.makeFree (h : s.Trims t) (c : Nat) : s.Trims (t.makeFree c) := by
  have hdropped : s.Trims (t.dropHold c) := h.frame (by simp)
  exact ⟨hdropped.sul, hdropped.entries, (filterMap_modify_sublist _ _ (fun _ => rfl) _ c).trans hdropped.tags⟩

end Relation

/-! ## The service mode (R171, R172) -/

@[simp] theorem setService_standing (s : State) (m : ServiceMode) :
    (s.setService m).sul.standing = s.sul.standing := by
  simp [State.setService, Sul.standing]

@[simp] theorem shutIfEmptied_standing (before s : State) :
    (before.shutIfEmptied s).sul.standing = s.sul.standing := by
  unfold State.shutIfEmptied
  split <;> simp

section Operations

variable {s t : State} (h : s.Trims t)
include h

theorem State.Trims.shutIfEmptied (before : State) : s.Trims (before.shutIfEmptied t) := h.frame (by simp)

theorem State.Trims.outcomeKitchen (o : KOutcome) (c arg : Option Nat) : s.Trims (t.outcomeKitchen o c arg) :=
  h.frame (by simp)

theorem State.Trims.replyCounter (o : COutcome) (arg : Option Nat) : s.Trims (t.replyCounter o arg) :=
  h.frame (by simp)

theorem State.Trims.close : s.Trims t.close := h.frame (by simp)

/-! ## Faults and the scan (R17, R18, R132 to R140) -/

theorem State.Trims.faultReport (c : Nat) (reason : FaultReason) : s.Trims (t.faultReport c reason) := by
  have hentry : s.Trims (t.shutIfEmptied (t.faultEntry c reason)) := h.frame (by simp)
  unfold State.faultReport
  split
  case h_6 => exact h.frame (by simp)
  case h_7 => exact h.frame (by simp)
  case h_8 => exact h
  all_goals exact hentry

theorem State.Trims.sensorCheck (c : Nat) : s.Trims (t.sensorCheck c) := by
  unfold State.sensorCheck
  split
  · exact h.faultReport c _
  · exact h

theorem State.Trims.overheatCheck (c v : Nat) : s.Trims (t.overheatCheck c v) := by
  unfold State.overheatCheck
  split
  · exact h.faultReport c _
  · exact h

theorem State.Trims.elementCheck (c v : Nat) : s.Trims (t.elementCheck c v) := by
  have hcompared : s.Trims (if (t.reading c).pending then t.modReading c (ReadingRec.compare v) else t) := by
    split
    · exact h.frame (by simp)
    · exact h
  unfold State.elementCheck
  dsimp only
  split
  · exact hcompared.faultReport c _
  · exact hcompared

theorem State.Trims.coldCheck (c v : Nat) : s.Trims (t.coldCheck c v) := by
  unfold State.coldCheck
  (repeat' split) <;> exact h.frame (by simp)

theorem State.Trims.scan (c : Nat) (v : Option Nat) : s.Trims (t.scan c v) := by
  have hrecorded : s.Trims (t.modReading c (ReadingRec.record v)) := h.frame (by simp)
  unfold State.scan
  dsimp only
  split
  · exact hrecorded.sensorCheck c
  · exact ((hrecorded.overheatCheck c _).elementCheck c _).coldCheck c _

/-! ## Ends of door holds (R7 to R13, R17, R122) -/

theorem State.Trims.loadingEnd (c : Nat) (k : HoldEnd) : s.Trims (t.loadingEnd c k) := by
  unfold State.loadingEnd
  split
  · exact h.frame (by simp)
  · exact h.makeFree c
  · exact (h.makeFree c).frame (by simp)
  · exact h.makeFree c

theorem State.Trims.collectionEnd (c : Nat) (k : HoldEnd) : s.Trims (t.collectionEnd c k) := by
  unfold State.collectionEnd
  split
  · exact State.Trims.makeFree (h.frame (by simp)) c
  · dsimp only
    split <;> exact h.frame (by simp)

theorem State.Trims.attendanceEnd (c : Nat) (k : HoldEnd) : s.Trims (t.attendanceEnd c k) := by
  unfold State.attendanceEnd
  split
  case h_1 =>
    have hqueued : s.Trims (if (t.comp c).prior = some .holding then t.queueGone c .removed else t) := by
      split
      · exact h.frame (by simp)
      · exact h
    exact (hqueued.makeFree c).frame (by simp)
  case h_6 => exact h
  all_goals exact h.frame (by simp)

theorem State.Trims.tableHoldEnd (c : Nat) (k : HoldEnd) : s.Trims (t.tableHoldEnd c k) := by
  unfold State.tableHoldEnd
  split
  case h_1 => exact h.loadingEnd c k
  case h_2 => exact h.collectionEnd c k
  case h_3 => exact h.attendanceEnd c k
  case h_4 =>
    unfold State.faultedEnd
    split
    · exact h.frame (by simp)
    · exact h
  all_goals exact h

theorem State.Trims.holdEnd (c : Nat) (sd : Side) (k : HoldEnd) : s.Trims (t.holdEnd c sd k) := by
  have hreleased : s.Trims (t.modDoor c fun d => { (d.modSide sd SideRec.latch) with holder := none }) :=
    h.frame (by simp)
  have hended := (hreleased.tableHoldEnd c k).shutIfEmptied
    (t.modDoor c fun d => { (d.modSide sd SideRec.latch) with holder := none })
  unfold State.holdEnd
  exact hended.frame (by simp)

/-! ## Kitchen requests -/

theorem State.Trims.onCompartment (kind len want c : Nat) (form check : Bool) {decide : State → State}
    (hdecide : s.Trims (decide t)) : s.Trims (t.onCompartment kind len want c form check decide) := by
  unfold State.onCompartment
  (repeat' split)
  case isFalse.isFalse.isFalse => exact hdecide
  all_goals exact h.outcomeKitchen _ _ _

theorem State.Trims.withoutFields (len : Nat) {decide : State → State} (hdecide : s.Trims (decide t)) :
    s.Trims (t.withoutFields len decide) := by
  unfold State.withoutFields
  split
  · exact h.outcomeKitchen _ _ _
  · exact hdecide

theorem State.Trims.unlessStored (c : Nat) {decide : State → State} (hdecide : s.Trims (decide t)) :
    s.Trims (t.unlessStored c decide) := by
  unfold State.unlessStored
  split
  · exact h.outcomeKitchen _ _ _
  · exact hdecide

theorem State.Trims.seizeKitchen (c : Nat) : s.Trims (t.seizeKitchen c) := by
  unfold State.seizeKitchen
  split <;> exact h.frame (by simp)

theorem State.Trims.waitKitchen (c : Nat) (kind : KitchenKind) : s.Trims (t.waitKitchen c kind) :=
  h.frame (by simp [State.waitKitchen])

theorem State.Trims.decideAttend (c : Nat) : s.Trims (t.decideAttend c) := by
  unfold State.decideAttend
  split
  · exact h.waitKitchen c _
  · split
    · exact h.seizeKitchen c
    · exact h.outcomeKitchen _ _ _

theorem State.Trims.decideReset (c : Nat) : s.Trims (t.decideReset c) := by
  unfold State.decideReset
  split
  · split
    · exact h.seizeKitchen c
    · exact h.waitKitchen c _
    · exact h.outcomeKitchen _ _ _
  · exact h.outcomeKitchen _ _ _

theorem State.Trims.decideRelease (c : Nat) : s.Trims (t.decideRelease c) := by
  unfold State.decideRelease
  split
  · exact (h.holdEnd c _ _).outcomeKitchen _ _ _
  · exact h.outcomeKitchen _ _ _

theorem State.Trims.decideService (c : Nat) (old new : CState) : s.Trims (t.decideService c old new) := by
  unfold State.decideService
  split <;> exact h.frame (by simp)

theorem State.Trims.decideClose : s.Trims t.decideClose := by
  unfold State.decideClose
  split <;> exact h.frame (by simp [State.replyMode])

theorem State.Trims.decideOpen : s.Trims t.decideOpen := by
  unfold State.decideOpen
  split <;> exact h.frame (by simp [State.replyMode])

/-! ## Counter requests -/

theorem State.Trims.rightCode (c tag : Nat) : s.Trims (t.rightCode c tag) := by
  unfold State.rightCode
  (repeat' split) <;> exact h.frame (by simp)

theorem State.Trims.codeCheck (c tag code : Nat) : s.Trims (t.codeCheck c tag code) := by
  unfold State.codeCheck
  split
  · exact h.replyCounter _ _
  · split
    · exact State.Trims.rightCode (h.frame (by simp)) c tag
    · split <;> exact h.frame (by simp)

theorem State.Trims.collectRecord (c tag code : Nat) : s.Trims (t.collectRecord c tag code) := by
  have hmeal :
      s.Trims (if (t.door c).counterReq.isSome then t.replyCounter .busy none else t.codeCheck c tag code) := by
    split
    · exact h.replyCounter _ _
    · exact h.codeCheck c tag code
  unfold State.collectRecord
  split
  case h_5 => exact hmeal
  case h_6 =>
    split
    · exact hmeal
    · exact h.replyCounter _ _
  all_goals exact h.replyCounter _ _

theorem State.Trims.endLookup (o : COutcome) (arg : Option Nat) : s.Trims (t.endLookup o arg) :=
  h.frame (by simp [State.endLookup])

theorem State.Trims.lookUp (tag : Nat) : s.Trims (t.lookUp tag) := by
  unfold State.lookUp
  split
  · exact h.replyCounter _ _
  · split <;> exact h.frame (by simp)

theorem State.Trims.decideCollect (len tag code : Nat) : s.Trims (t.decideCollect len tag code) := by
  unfold State.decideCollect
  split
  · exact h.replyCounter _ _
  · split
    · exact h.collectRecord _ tag code
    · exact h.lookUp tag

theorem State.Trims.decideCancel (len : Nat) : s.Trims (t.decideCancel len) := by
  unfold State.decideCancel
  split
  · exact h.replyCounter _ _
  · split
    · exact h.endLookup _ _
    · split <;> exact h.frame (by simp)

/-! ## Frames heard (R66 to R68, R107 to R109) -/

theorem State.Trims.goneHeard (sender tag : Nat) (reason : GoneReason) : s.Trims (t.goneHeard sender tag reason) := by
  have hremoved : s.Trims (t.modCdir (Cdir.removeTag tag sender)) := h.modCdir List.filter_sublist
  unfold State.goneHeard
  dsimp only
  split
  · exact hremoved.endLookup _ _
  · exact hremoved

theorem State.Trims.helloFreshHeard (sender wc wr wg n : Nat) : s.Trims (t.helloFreshHeard sender wc wr wg n) := by
  have hreset : s.Trims (t.queueHelloAnswer.modPeer sender fun _ =>
      { PeerEntry.empty sender with heard := some t.now, live := true }) := h.frame (by simp)
  have hpurged := hreset.modCdir (f := Cdir.purge sender) List.filter_sublist
  unfold State.helloFreshHeard
  exact hpurged.frame (by simp)

theorem State.Trims.helloAnswerHeard (sender wc wr wg n : Nat) : s.Trims (t.helloAnswerHeard sender wc wr wg n) :=
  h.frame (by simp [State.helloAnswerHeard])

end Operations

/-! ## Start-up (R169) -/

theorem State.Trims.startUpDoors {s t : State} (h : s.Trims t) : s.Trims t.startUpDoors := by
  have hdoor (u : State) (hu : s.Trims u) (c : Nat) (sd : Side) : s.Trims (u.startUpDoor c sd) := by
    unfold State.startUpDoor
    split
    · exact hu.frame (by simp)
    · exact hu
  exact List.foldlRecOn (motive := s.Trims) _ _ h fun u hu c _ => hdoor _ (hdoor u hu c .kitchen) c .counter

theorem State.Trims.firstLineMode {s t : State} (h : s.Trims t) : s.Trims t.firstLineMode := by
  unfold State.firstLineMode
  split <;> exact h.frame (by simp)

/-- Once the tables are set up, the rest of start-up adds no entry and no tag. -/
theorem setUpTables_trims_endOfStartUp (s : State) (r : ConfigRec) : (s.setUpTables r).Trims (s.endOfStartUp r) := by
  have hserving : (s.setUpTables r).Trims ((s.setUpTables r).modSul fun u =>
      { u with service := some (s.setUpTables r).firstService }) := ⟨rfl, .refl _, .refl _⟩
  exact hserving.firstLineMode.startUpDoors.close

end Sys2Proof.Machine
end

section
/-! SUPPORT. Every command but start-up, LOAD and STOWED trims; so what removals keep is kept by every step that those
five keep it over (R5, R104). -/

namespace Sys2Proof.Machine

/-! ## What removals keep -/

/-- Removals from the directory and from the tags keep `P`. -/
def TrimStable (P : State → Prop) : Prop := ∀ s t, P s → s.Trims t → P t

theorem trimStable_trims (s : State) : TrimStable s.Trims := fun _ _ h ht => h.trans ht

section Stable

variable {P : State → Prop} (hP : TrimStable P) {s : State} (h : P s)
include hP h

/-- A kitchen record, where its decision keeps `P`. -/
theorem TrimStable.takeKitchen (kind : Nat) {decide : State → State} (hdecide : ∀ t, P t → P (decide t)) :
    P (s.takeKitchen kind decide) := by
  have hcleared : P s.clearKitchenPartial := hP _ _ h (State.ListsAs.trims (by simp))
  unfold State.takeKitchen
  dsimp only
  split
  · exact h
  · exact hcleared
  · exact hP _ _ hcleared (State.ListsAs.trims (by simp))
  · split
    · exact hP _ _ hcleared (State.ListsAs.trims (by simp))
    · exact hP _ _ (hdecide _ hcleared) (State.ListsAs.trims (by simp))

/-- A counter record, where its decision keeps `P`. -/
theorem TrimStable.takeCounter (kind : Nat) (busy : State → Bool) {decide : State → State}
    (hdecide : ∀ t, P t → P (decide t)) : P (s.takeCounter kind busy decide) := by
  have hcleared : P s.clearCounterPartial := hP _ _ h (State.ListsAs.trims (by simp))
  unfold State.takeCounter
  dsimp only
  split
  · exact h
  · exact hcleared
  · exact hP _ _ hcleared (State.ListsAs.trims (by simp))
  · split
    · exact hP _ _ hcleared (State.ListsAs.trims (by simp))
    · exact hP _ _ (hdecide _ hcleared) (State.ListsAs.trims (by simp))

/-- A frame on the line, where the block that acts on a peer's frame keeps `P` (R94). -/
theorem TrimStable.receive (sender : Nat) (ok : Bool) {act : State → State}
    (hact : ∀ t : State, t.reads = true → sender ≠ t.cfg.address → P t → P (act t)) :
    P (s.receive sender ok act) := by
  have hheard : P s.heardPeer := hP _ _ h (State.ListsAs.trims (by simp))
  unfold State.receive
  split
  · exact h
  · next hreads =>
    have hreads : s.heardPeer.reads = true := (reads_congr (s := s) rfl).trans (by simpa using hreads)
    split
    · exact hP _ _ h (State.ListsAs.trims (by simp))
    · next hpeer =>
      split
      · exact hP _ _ (hact s.heardPeer hreads hpeer hheard) (State.ListsAs.trims (by simp))
      · exact hP _ _ hheard (State.ListsAs.trims (by simp))

end Stable

/-! ## Commands -/

section Commands

variable {s t : State}

theorem State.Trims.takeKitchen (kind : Nat) {decide : State → State}
    (hdecide : ∀ t, s.Trims t → s.Trims (decide t)) :
    s.Trims (s.takeKitchen kind decide) :=
  (trimStable_trims s).takeKitchen (.refl s) kind hdecide

theorem State.Trims.takeCounter (kind : Nat) (busy : State → Bool) {decide : State → State}
    (hdecide : ∀ t, s.Trims t → s.Trims (decide t)) : s.Trims (s.takeCounter kind busy decide) :=
  (trimStable_trims s).takeCounter (.refl s) kind busy hdecide

theorem State.Trims.receive (sender : Nat) (ok : Bool) {act : State → State}
    (hact : ∀ t, s.Trims t → s.Trims (act t)) : s.Trims (s.receive sender ok act) :=
  (trimStable_trims s).receive (.refl s) sender ok fun t _ _ => hact t

/-- A command that acts only under a condition. -/
theorem State.Trims.guarded {p : Prop} [Decidable p] (ht : s.Trims t) : s.Trims (if p then t else s) := by
  split
  · exact ht
  · exact .refl s

/-- A command that changes nothing of the directory and the tags, under a condition. -/
theorem State.Trims.aside {p : Prop} [Decidable p] (ht : t.ListsAs s) : s.Trims (if p then t else s) := ht.trims.guarded

theorem execFrameDiscarded_trims (s : State) (layer : DiscardLayer) :
    NextKeeps s.Trims (execFrameDiscarded layer s) := by
  refine nextKeeps_next ?_
  split
  · exact .refl s
  · cases layer <;> exact State.ListsAs.trims (by simp)

theorem execGoneFrame_trims (s : State) (sender tag comp reason : Nat) :
    NextKeeps s.Trims (execGoneFrame sender tag comp reason s) := by
  refine nextKeeps_next (State.Trims.receive sender _ fun t ht => ?_)
  split
  · exact ht.goneHeard sender tag _
  · exact ht

theorem execJoiningTimerExpiry_trims (s : State) : NextKeeps s.Trims (execJoiningTimerExpiry s) := by
  refine nextKeeps_next (State.Trims.guarded (State.Trims.close ?_))
  split <;> exact State.ListsAs.trims (by simp)

theorem execStatusStation_trims (s : State) (len : Nat) : NextKeeps s.Trims (execStatusStation len s) := by
  refine nextKeeps_next (State.Trims.takeKitchen 8 fun t ht => ?_)
  split <;> exact ht.frame (by simp)

theorem execWhere_trims (s : State) (len tag : Nat) : NextKeeps s.Trims (execWhere len tag s) := by
  refine nextKeeps_next (State.Trims.takeKitchen 10 fun t ht => ?_)
  split <;> exact ht.frame (by simp)

/-- The commands of start-up, LOAD and STOWED: the five that may add an entry or a tag, or change the phase. -/
def mayAdd : Instr → Bool
  | .coldStart | .resetAsserted | .configReadDone _ _ | .load _ _ _ _ _ _ _ | .stowedFrame _ _ _ _ => true
  | _ => false

/-- Every other command trims. -/
theorem exec_trims (s : State) (i : Instr) (hi : mayAdd i = false) : NextKeeps s.Trims (exec i s) :=
  match i with
  | .coldStart | .resetAsserted | .configReadDone _ _ | .load _ _ _ _ _ _ _ | .stowedFrame _ _ _ _ => nomatch hi
  | .attend _ c =>
    nextKeeps_next (.takeKitchen 2 fun _ ht => ht.onCompartment _ _ _ _ _ _ (ht.unlessStored c (ht.decideAttend c)))
  | .compartmentReset _ c =>
    nextKeeps_next (.takeKitchen 5 fun _ ht => ht.onCompartment _ _ _ _ _ _ (ht.unlessStored c (ht.decideReset c)))
  | .release _ c => nextKeeps_next (.takeKitchen 3 fun _ ht => ht.onCompartment _ _ _ _ _ _ (ht.decideRelease c))
  | .serviceOut _ c _ =>
    nextKeeps_next (.takeKitchen 4 fun _ ht => ht.onCompartment _ _ _ _ _ _ (ht.decideService c _ _))
  | .serviceIn _ c _ =>
    nextKeeps_next (.takeKitchen 4 fun _ ht => ht.onCompartment _ _ _ _ _ _ (ht.decideService c _ _))
  | .bankClose len => nextKeeps_next (.takeKitchen 6 fun _ ht => ht.withoutFields len ht.decideClose)
  | .bankOpen len => nextKeeps_next (.takeKitchen 7 fun _ ht => ht.withoutFields len ht.decideOpen)
  | .statusCompartment _ _ =>
    nextKeeps_next (.takeKitchen 8 fun _ ht => ht.onCompartment _ _ _ _ _ _ (ht.frame (by simp)))
  | .statusStation len => execStatusStation_trims s len
  | .clearFaults len => nextKeeps_next (.takeKitchen 9 fun _ ht => ht.withoutFields len (ht.frame (by simp)))
  | .whereTag len tag => execWhere_trims s len tag
  | .kitchenUnknownKind kind => nextKeeps_next (.takeKitchen kind fun _ ht => ht.outcomeKitchen _ _ _)
  | .kitchenBadRecord => nextKeeps_next (State.ListsAs.trims (by simp))
  | .kitchenGapExpiry => nextKeeps_next (.aside (by simp))
  | .kitchenTxDone => nextKeeps_next (by split <;> exact State.ListsAs.trims (by simp))
  | .collect len tag code =>
    nextKeeps_next (.takeCounter 1 State.counterBusy fun _ ht => ht.decideCollect len tag code)
  | .cancel len => nextKeeps_next (.takeCounter 2 State.cancelBusy fun _ ht => ht.decideCancel len)
  | .counterUnknownKind kind => nextKeeps_next (.takeCounter kind State.counterBusy fun _ ht => ht.replyCounter _ _)
  | .counterBadRecord => nextKeeps_next (State.ListsAs.trims (by simp))
  | .counterGapExpiry => nextKeeps_next (.aside (by simp))
  | .counterTxDone => nextKeeps_next (by split <;> exact State.ListsAs.trims (by simp))
  | .lockoutEnd _ => nextKeeps_next (.aside (by simp))
  | .lookupWaitEnd => nextKeeps_next (State.Trims.guarded ((State.Trims.refl s).endLookup _ _).close)
  | .attemptStart => nextKeeps_next (.aside (by simp))
  | .attemptLost => nextKeeps_next (.aside (by simp))
  | .attemptFailed => nextKeeps_next (.aside (by simp))
  | .attemptCompleted => nextKeeps_next (by split; exacts [State.ListsAs.trims (by simp), .refl s])
  | .frameDiscarded layer => execFrameDiscarded_trims s layer
  | .ownAddressFrame => nextKeeps_next (.aside (by simp))
  | .unknownKindFrame sender => nextKeeps_next (.receive sender _ fun _ ht => ht)
  | .claimFrame sender _ _ _ => nextKeeps_next (.receive sender _ fun _ ht => ht.frame (by simp))
  | .drawFrame sender _ _ _ _ _ _ _ => nextKeeps_next (.receive sender _ fun _ ht => ht.frame (by simp))
  | .goneFrame sender tag comp reason => execGoneFrame_trims s sender tag comp reason
  | .queryFrame sender _ => nextKeeps_next (.receive sender _ fun _ ht => ht.frame (by simp))
  | .helloFresh sender wc wr wg n _ =>
    nextKeeps_next (.receive sender _ fun _ ht => ht.helloFreshHeard sender wc wr wg n)
  | .helloAnswer sender wc wr wg n _ =>
    nextKeeps_next (.receive sender _ fun _ ht => ht.helloAnswerHeard sender wc wr wg n)
  | .drawTimerExpiry => nextKeeps_next (.aside (by simp))
  | .silenceTimerExpiry => nextKeeps_next (.aside (by simp))
  | .joiningTimerExpiry => execJoiningTimerExpiry_trims s
  | .entryLapse _ => nextKeeps_next (.aside (by simp))
  | .claimWindowEnd => nextKeeps_next (by split; exacts [.aside (by simp), .refl s])
  | .lostBackoffEnd => nextKeeps_next (.aside (by simp))
  | .overrunHoldEnd => nextKeeps_next (.aside (by simp))
  | .decayStep _ => nextKeeps_next (by split; exacts [.aside (by simp), .refl s])
  | .holdLimitExpiry _ => nextKeeps_next (by split; exacts [.aside (by simp), .refl s])
  | .pulseEnd _ => nextKeeps_next (by split; exacts [.aside (by simp), .refl s])
  | .channelRestEnd _ => nextKeeps_next (.aside (by simp))
  | .staggerEnd => nextKeeps_next (.aside (by simp))
  | .doorOpened _ _ => nextKeeps_next (.aside (by simp))
  | .doorReopened _ _ => nextKeeps_next (.aside (by simp))
  | .doorClosed _ _ => nextKeeps_next (.aside (by simp))
  | .doorForced _ _ => nextKeeps_next (.aside (by simp))
  | .forcedDoorClosed _ _ => nextKeeps_next (.aside (by simp))
  | .releaseWindowLapse c sd => nextKeeps_next (State.Trims.guarded ((State.Trims.refl s).holdEnd c sd _).close)
  | .ajarTime _ _ => nextKeeps_next (.aside (by simp))
  | .settleEnd c sd => nextKeeps_next (State.Trims.guarded ((State.Trims.refl s).holdEnd c sd _).close)
  | .waitLapse _ _ => nextKeeps_next (.aside (by simp))
  | .sensorReading _ =>
    nextKeeps_next (State.Trims.guarded (State.Trims.scan (State.ListsAs.trims (by simp)) _ _).close)
  | .ambientReading _ => nextKeeps_next (.aside (by simp))
  | .inputChainSample _ => nextKeeps_next (.aside (by simp))

end Commands

/-- What removals keep is kept by every command, where the five that may add keep it. -/
theorem TrimStable.exec {P : State → Prop} (hP : TrimStable P) {s : State} (h : P s) (hcold : P s.coldStart)
    (hreset : NextKeeps P (execResetAsserted s))
    (hconfig : ∀ first second, NextKeeps P (execConfigReadDone first second s))
    (hload : ∀ (len tag code cls reach limit probe : Nat) (t : State),
      P t → P (t.decideLoad len tag code cls reach limit probe))
    (hstowed : ∀ (sender tag comp cls : Nat) (t : State),
      t.reads = true → sender ≠ t.cfg.address → P t → P (t.stowedHeard sender tag comp cls))
    (i : Instr) : NextKeeps P (Machine.exec i s) := by
  cases hi : mayAdd i with
  | false => exact fun t ht => hP s t h (exec_trims s i hi t ht)
  | true =>
    unfold mayAdd at hi
    split at hi
    case h_1 => exact nextKeeps_next hcold
    case h_2 => exact hreset
    case h_3 => exact hconfig _ _
    case h_4 => exact nextKeeps_next (hP.takeKitchen h 1 (hload _ _ _ _ _ _ _))
    case h_5 => exact nextKeeps_next (hP.receive h _ _ (hstowed _ _ _ _))
    case h_6 => cases hi

/-! ## Steps -/

theorem heat_tag (r : CompRec) : r.heat.tag = r.tag := by
  unfold CompRec.heat
  (repeat' split) <;> rfl

theorem tick_trims (s : State) : s.Trims s.tick := by
  have hheat : CompRec.tag ∘ CompRec.heat = CompRec.tag := funext heat_tag
  refine State.ListsAs.trims ⟨rfl, rfl, ?_⟩
  unfold State.tick
  dsimp only
  split
  · rw [List.map_map, hheat]
  · rfl

/-- A step keeps what removals and every command keep. -/
theorem TrimStable.step {P : State → Prop} (hP : TrimStable P)
    (hexec : ∀ (i : Instr) (u : State), P u → NextKeeps P (Machine.exec i u)) {s : State} (h : P s) :
    NextKeeps P (Machine.step s) := by
  have hrow (row : Option Instr) {t : State} (ht : t.ListsAs s) : NextKeeps P (State.runRow row t) := by
    cases row with
    | none => exact nextKeeps_next (hP s t h ht.trims)
    | some i => exact hexec i t (hP s t h ht.trims)
  unfold Machine.step
  split
  · exact hexec _ _ (hP s _ h (State.ListsAs.trims (by simp)))
  · split
    · next sd b _ =>
      unfold State.takeByte
      dsimp only
      split
      · exact nextKeeps_next (hP s _ h (State.ListsAs.trims (by simp)))
      · cases sd <;> exact hrow _ (by simp)
    · split
      · exact hexec _ s h
      · exact nextKeeps_next (hP s _ h (tick_trims s))

end Sys2Proof.Machine
end

section
/-! SUPPORT. The law of the Court Directory and that of the tags through the five commands that may add an entry or a
tag, or change the phase, and so through every step (R5, R104, R105, R165, R169). -/

namespace Sys2Proof.Machine

variable {s t : State}

/-! ## The directory (R104, R105) -/

theorem State.DirectoryLaw.trims (h : s.DirectoryLaw) (ht : s.Trims t) : t.DirectoryLaw := by
  obtain ⟨hroom, htags, hforeign, hcold⟩ := h
  refine ⟨ht.entries.length_le.trans hroom, htags.sublist (ht.entries.map _), fun e he => ?_, fun hphase => ?_⟩
  · rw [ht.cfg]
    exact hforeign e (ht.entries.subset he)
  · have hempty := ht.entries
    rw [hcold (ht.phase ▸ hphase)] at hempty
    exact List.sublist_nil.mp hempty

theorem trimStable_directoryLaw : TrimStable State.DirectoryLaw := fun _ _ => State.DirectoryLaw.trims

theorem directoryLaw_of_entries_eq_nil (h : s.cdir.entries = []) : s.DirectoryLaw := by
  refine ⟨by simp [h], by simp [h], fun e he => ?_, fun _ => h⟩
  rw [h] at he
  exact absurd he List.not_mem_nil

/-- Reset ends a cold start in progress (R165). -/
theorem State.DirectoryLaw.execResetAsserted (h : s.DirectoryLaw) :
    NextKeeps State.DirectoryLaw (execResetAsserted s) := by
  obtain ⟨hroom, htags, hforeign, -⟩ := h
  exact nextKeeps_next ⟨hroom, htags, hforeign, nofun⟩

/-- The directory is empty during a cold start, and at its end (R104). -/
theorem State.DirectoryLaw.execConfigReadDone (h : s.DirectoryLaw) (first second : ConfigRead) :
    NextKeeps State.DirectoryLaw (execConfigReadDone first second s) := by
  refine nextKeeps_next ?_
  split
  · next hphase =>
    obtain ⟨-, -, -, hcold⟩ := h
    have hempty := hcold hphase
    split
    · exact directoryLaw_of_entries_eq_nil hempty
    · next r _ =>
      have hset : (s.setUpTables r).DirectoryLaw := directoryLaw_of_entries_eq_nil hempty
      exact hset.trims (setUpTables_trims_endOfStartUp s r)
  · exact h

/-- An accepted LOAD changes no entry. -/
theorem State.DirectoryLaw.decideLoad (h : s.DirectoryLaw) (len tag code cls reach limit probe : Nat) :
    (s.decideLoad len tag code cls reach limit probe).DirectoryLaw := by
  have hkept {u : State} (hsul : u.sul = s.sul) (hcdir : u.cdir = s.cdir) : u.DirectoryLaw := by
    simpa only [State.DirectoryLaw, State.cfg, hsul, hcdir] using h
  unfold State.decideLoad
  split
  · exact hkept (by simp) (by simp)
  · split <;> exact hkept (by simp) (by simp)

/-- The entries among which a new one of a tag is placed: none of its tag, and without the oldest where they fill the
directory (R105). -/
def Cdir.room (tag : Nat) (d : Cdir) : List DirEntry :=
  let kept := d.entries.filter fun x => x.tag ≠ tag
  if kept.length < 256 then kept else kept.drop 1

@[simp] theorem insert_entries (e : DirEntry) (d : Cdir) : (d.insert e).entries = d.room e.tag ++ [e] := rfl

theorem room_sublist (tag : Nat) (d : Cdir) : (d.room tag).Sublist (d.entries.filter fun x => x.tag ≠ tag) := by
  unfold Cdir.room
  dsimp only
  split
  · exact .refl _
  · exact List.drop_sublist 1 _

theorem tag_ne_of_mem_room {tag : Nat} {d : Cdir} {x : DirEntry} (hx : x ∈ d.room tag) : x.tag ≠ tag :=
  of_decide_eq_true (List.mem_filter.mp ((room_sublist tag d).subset hx)).2

theorem length_room_lt (tag : Nat) {d : Cdir} (h : d.entries.length ≤ 256) : (d.room tag).length < 256 := by
  have hkept : (d.entries.filter fun x => x.tag ≠ tag).length ≤ 256 := (List.length_filter_le _ _).trans h
  unfold Cdir.room
  dsimp only
  split
  · assumption
  · rw [List.length_drop]
    omega

/-- The entry placed is of a tag that no other entry has, and not of this station (R104, R105). -/
theorem State.DirectoryLaw.insert (h : s.DirectoryLaw) {e : DirEntry} (hrun : s.running = true)
    (hforeign : e.station ≠ s.cfg.address) : (s.modCdir (Cdir.insert e)).DirectoryLaw := by
  obtain ⟨hroom, htags, hpeers, -⟩ := h
  have hold : (s.cdir.room e.tag).Sublist s.cdir.entries := (room_sublist _ _).trans List.filter_sublist
  have hentries : (s.modCdir (Cdir.insert e)).cdir.entries = s.cdir.room e.tag ++ [e] := insert_entries e s.cdir
  refine ⟨?_, ?_, fun x hx => ?_, fun hphase => ?_⟩
  · rw [hentries, List.length_append]
    exact length_room_lt e.tag hroom
  · rw [hentries, List.map_append, List.nodup_append]
    refine ⟨htags.sublist (hold.map _), List.nodup_singleton _, fun tag htag tag' htag' => ?_⟩
    obtain ⟨x, hx, rfl⟩ := List.mem_map.mp htag
    rw [List.mem_singleton.mp htag']
    exact tag_ne_of_mem_room hx
  · rw [hentries, List.mem_append, List.mem_singleton] at hx
    rcases hx with hx | rfl
    · exact hpeers x (hold.subset hx)
    · exact hforeign
  · rw [modCdir_sul, (running_iff s).mp hrun] at hphase
    cases hphase

/-- `s` with the entry of a STOWED placed newest (R105). -/
def State.stowPlaced (sender tag comp cls : Nat) (s : State) : State :=
  s.modCdir (Cdir.insert { tag := tag, station := sender, comp := comp, cls := cls, heard := s.now })

/-- Once its entry is placed, a STOWED adds nothing more. -/
theorem stowPlaced_trims_stowedHeard (s : State) (sender tag comp cls : Nat) :
    (s.stowPlaced sender tag comp cls).Trims (s.stowedHeard sender tag comp cls) := by
  have hends (t : State) (ht : (s.stowPlaced sender tag comp cls).Trims t) :
      (s.stowPlaced sender tag comp cls).Trims
        (if t.waitsFor tag then t.endLookup .elsewhere (some sender) else t) := by
    split
    · exact ht.endLookup _ _
    · exact ht
  have htold : (s.stowPlaced sender tag comp cls).Trims
      ((s.stowPlaced sender tag comp cls).notifyKitchen (.tagElsewhere tag sender)) := State.ListsAs.trims (by simp)
  exact hends _ htold.guarded

theorem State.DirectoryLaw.exec (h : s.DirectoryLaw) (i : Instr) : NextKeeps State.DirectoryLaw (Machine.exec i s) := by
  refine trimStable_directoryLaw.exec h (directoryLaw_of_entries_eq_nil rfl) h.execResetAsserted h.execConfigReadDone
    (fun len tag code cls reach limit probe t ht => ht.decideLoad len tag code cls reach limit probe)
    (fun sender tag comp cls t hreads hpeer ht => ?_) i
  have hplaced : (t.stowPlaced sender tag comp cls).DirectoryLaw := ht.insert (running_of_reads hreads) hpeer
  exact hplaced.trims (stowPlaced_trims_stowedHeard t sender tag comp cls)

/-! ## The tags (R5) -/

theorem tagLaw_iff (s : State) : s.TagLaw ↔ s.tags.Nodup := Iff.rfl

theorem trimStable_tagLaw : TrimStable State.TagLaw := fun _ _ h ht => h.sublist ht.tags

theorem State.TagLaw.frame (h : s.TagLaw) (ht : t.comps.map CompRec.tag = s.comps.map CompRec.tag) : t.TagLaw := by
  rw [tagLaw_iff, tags_congr ht]
  exact h

/-- No record is set up with a tag (R2). -/
theorem setUpTables_tags (s : State) (r : ConfigRec) : (s.setUpTables r).tags = [] := by
  have hnone (present : Bool) : (CompRec.atColdStart present).tag = none := by cases present <;> rfl
  refine List.filterMap_eq_nil_iff.mpr fun q hq => ?_
  obtain ⟨c, -, rfl⟩ := List.mem_map.mp hq
  exact hnone _

theorem State.TagLaw.execConfigReadDone (h : s.TagLaw) (first second : ConfigRead) :
    NextKeeps State.TagLaw (execConfigReadDone first second s) := by
  refine nextKeeps_next ?_
  split
  · split
    · exact h
    · next r _ =>
      have hset : (s.setUpTables r).TagLaw := (tagLaw_iff _).mpr (setUpTables_tags s r ▸ List.nodup_nil)
      exact trimStable_tagLaw _ _ hset (setUpTables_trims_endOfStartUp s r)
  · exact h

/-- A LOAD that passes the checks of R3 is of a tag no record holds. -/
theorem findTag_eq_none_of_loadChecks {tag cls c : Nat} {reach : Bool} {probe : Option Nat}
    (hok : s.loadChecks tag cls reach probe = .ok c) : s.findTag tag = none := by
  by_contra hheld
  unfold State.loadChecks at hok
  rw [if_pos (Option.isSome_iff_ne_none.mpr hheld)] at hok
  split_ifs at hok

/-- One place of a list takes a value that the list did not have. -/
theorem nodup_filterMap_modify {α β : Type} {g : α → Option β} {f : α → α} {b : β} (hf : ∀ a, g (f a) = some b)
    {l : List α} (hl : (l.filterMap g).Nodup) (hb : b ∉ l.filterMap g) (c : Nat) :
    ((l.modify c f).filterMap g).Nodup := by
  by_cases hc : c < l.length
  · have hkept : ((l.eraseIdx c).filterMap g).Sublist (l.filterMap g) := (List.eraseIdx_sublist l c).filterMap g
    rw [List.modify_eq_set_get f hc, ((List.set_perm_cons_eraseIdx hc _).filterMap g).nodup_iff,
      List.filterMap_cons_some (hf _), List.nodup_cons]
    exact ⟨fun hmem => hb (hkept.subset hmem), hl.sublist hkept⟩
  · rw [List.modify_eq_self (Nat.le_of_not_lt hc)]
    exact hl

theorem State.TagLaw.acceptLoad (h : s.TagLaw) {tag : Nat} (hfree : s.findTag tag = none)
    (c code cls limit : Nat) (probe : Option Nat) : (s.acceptLoad c tag code cls limit probe).TagLaw := by
  have hnew : tag ∉ s.tags := fun hmem => by
    obtain ⟨r, hr, htag⟩ := List.mem_filterMap.mp hmem
    exact (findTag_eq_none_iff s tag).mp hfree r hr htag
  have htaken {f : CompRec → CompRec} (hf : ∀ r, (f r).tag = some tag) : (s.modComp c f).TagLaw :=
    nodup_filterMap_modify hf h hnew c
  exact (htaken fun _ => rfl).frame (grantSeize_tags _ c .kitchen)

theorem State.TagLaw.decideLoad (h : s.TagLaw) (len tag code cls reach limit probe : Nat) :
    (s.decideLoad len tag code cls reach limit probe).TagLaw := by
  unfold State.decideLoad
  split
  · exact h
  · split
    · exact h
    · next hok => exact h.acceptLoad (findTag_eq_none_of_loadChecks hok) _ code cls limit _

theorem State.TagLaw.exec (h : s.TagLaw) (i : Instr) : NextKeeps State.TagLaw (Machine.exec i s) :=
  trimStable_tagLaw.exec h List.nodup_nil (nextKeeps_next h) h.execConfigReadDone
    (fun len tag code cls reach limit probe _ ht => ht.decideLoad len tag code cls reach limit probe)
    (fun _ _ _ _ _ _ _ ht => ht.frame (by simp)) i

end Sys2Proof.Machine
end

section
/-! SUPPORT. The lookup of a tag that no own record holds, and what a STOWED, a GONE and a QUERY do, in the words of
Safety.lean (R105 to R111). -/

namespace Sys2Proof.Machine

variable {s : State} {tag : Nat}

/-! ## The counter lookup (R110, R111) -/

/-- A well-formed COLLECT of a tag that no own record holds is looked up. -/
theorem exec_collect_lookUp (ht : s.takesCounter) (hlow : 1 ≤ tag) (hhigh : tag ≤ 999999) {code : Nat}
    (hcode : code ≤ 9999) (hnone : ∀ r ∈ s.comps, r.tag ≠ some tag) :
    exec (.collect 8 tag code) s = .next (s.clearCounterPartial.lookUp tag).close := by
  obtain ⟨hrun, hfree⟩ := ht
  have hform : collectForm 8 tag code = true := by simp [collectForm, tagOk, codeOk, hlow, hhigh, hcode]
  have hfind : s.clearCounterPartial.findTag tag = none := (findTag_eq_none_iff s tag).mpr hnone
  have hdecide : s.clearCounterPartial.decideCollect 8 tag code = s.clearCounterPartial.lookUp tag := by
    simp [State.decideCollect, hform, hfind]
  rw [← hdecide]
  exact congrArg Host.Outcome.next (takeCounter_taken s 1 _ _ hrun hfree)

theorem lookUp_found {e : DirEntry} (h : s.cdir.find tag = some e) :
    s.lookUp tag = s.replyCounter .elsewhere (some e.station) := by
  simp only [State.lookUp, h]

theorem find_eq_none_iff (d : Cdir) (tag : Nat) : d.find tag = none ↔ ∀ e ∈ d.entries, e.tag ≠ tag := by
  simp [Cdir.find]

/-- A tag that is nowhere known is asked for on the line (R110). -/
theorem lookUp_asks (hnone : s.cdir.find tag = none) (htakes : s.takesFrames = true) :
    s.lookUp tag = (s.queueNote (.query tag)).modCdir fun d =>
      { d with lookup := some { tag := tag, waitEnd := s.now + 500 } } := by
  unfold State.lookUp
  rw [hnone]
  exact if_pos htakes

/-- What is queued for the line does not depend on the Counter Port's receiver. -/
theorem queueNote_clearCounterPartial (s : State) (f : Frame) :
    s.clearCounterPartial.queueNote f = { s.clearCounterPartial with lif := (s.queueNote f).lif } := by
  have hsame : s.clearCounterPartial.takesFrames = s.takesFrames := rfl
  unfold State.queueNote
  rw [hsame]
  split <;> rfl

theorem lookUp_unknown (hnone : s.cdir.find tag = none) (hdeaf : s.takesFrames = false) :
    s.lookUp tag = s.replyCounter .unknown none := by
  simp [State.lookUp, hnone, hdeaf]

theorem exec_lookupWaitEnd {l : Lookup} (hrun : s.running = true) (hl : s.cdir.lookup = some l)
    (hover : l.waitEnd ≤ s.now) :
    exec .lookupWaitEnd s = .next (s.endLookup .unknown none).close :=
  congrArg Host.Outcome.next (if_pos (running_and_reached hrun (congrArg (Option.map Lookup.waitEnd) hl) hover))

/-! ## STOWED and GONE (R105 to R107, R111) -/

/-- The end of an event at which `t` has the triggers of a quiet `s`. -/
theorem close_eq_pump (hq : s.Quiet) {t : State} (ht : t.psc = s.psc) : t.close = t.pump :=
  close_of_quiet t (quiet_of_psc hq ht)

/-- `u` after a frame that answers with `o` the lookup of `tag`, where `l` waits for it (R111). -/
def State.lookupAnswered (l : Option Lookup) (tag : Nat) (o : COutcome) (arg : Option Nat) (u : State) : State :=
  if l.any fun l => l.tag = tag then
    { u with cdir := { u.cdir with lookup := none },
             cp := { u.cp with replies := u.cp.replies ++ [{ outcome := o, arg := arg }] } }
  else u

/-- A STOWED places its entry, is told to the kitchen where an own record holds its tag, and answers the lookup. -/
theorem stowedHeard_eq (s : State) (sender tag comp cls : Nat) :
    s.stowedHeard sender tag comp cls = State.lookupAnswered s.cdir.lookup tag .elsewhere (some sender)
      (if s.comps.any fun r => r.meal.map Meal.tag = some tag then
        (s.stowPlaced sender tag comp cls).notifyKitchen (.tagElsewhere tag sender)
      else s.stowPlaced sender tag comp cls) := by
  have hheld : ((s.stowPlaced sender tag comp cls).findTag tag).isSome
      = s.comps.any fun r => r.meal.map Meal.tag = some tag := findTag_isSome _ tag
  unfold State.stowPlaced at hheld
  unfold State.stowedHeard
  dsimp only
  rw [hheld]
  cases s.comps.any fun r => r.meal.map Meal.tag = some tag <;> rfl

theorem goneHeard_eq (s : State) (sender tag : Nat) (g : GoneReason) :
    s.goneHeard sender tag g
      = State.lookupAnswered s.cdir.lookup tag g.lookupReply none (s.modCdir (Cdir.removeTag tag sender)) := rfl

/-- The reply that a GONE's reason gives to the lookup (R111, R174). -/
theorem goneReasonOf_lookupReply {reason : Nat} (h : reason ≤ 2) :
    ∃ g, goneReasonOf reason = some g
      ∧ g.lookupReply = if reason = 0 then .alreadyCollected else .seeStaff := by
  match reason, h with
  | 0, _ => exact ⟨.collected, rfl, rfl⟩
  | 1, _ => exact ⟨.condemned, rfl, rfl⟩
  | 2, _ => exact ⟨.removed, rfl, rfl⟩

/-! ## QUERY (R109) -/

theorem queryHeard_of_findTag_eq_none (h : s.findTag tag = none) : s.queryHeard tag = s := by
  simp only [State.queryHeard, h]

theorem queryHeard_of_queryAnswer_eq_none {c : Nat} (h : s.findTag tag = some c)
    (ha : (s.comp c).queryAnswer c = none) :
    s.queryHeard tag = s := by
  simp only [State.queryHeard, h, ha]

theorem queryHeard_of_queryAnswer_eq_some {c : Nat} {f : Frame} (h : s.findTag tag = some c)
    (ha : (s.comp c).queryAnswer c = some f) : s.queryHeard tag = s.queueNote f := by
  simp only [State.queryHeard, h, ha]

section Answer

variable {r : CompRec} {m : Meal} (hm : r.meal = some m) (c : Nat)
include hm

/-- A meal under hold is stowed here. -/
theorem queryAnswer_held (hst : r.state = .holding ∨ r.state = .collecting
    ∨ (r.state = .attending ∧ r.prior = some .holding)) : r.queryAnswer c = some (.stowed m.tag c m.cls) := by
  rcases hst with hst | hst | ⟨hst, hp⟩
  · simp only [CompRec.queryAnswer, hm, hst]
  · simp only [CompRec.queryAnswer, hm, hst]
  · simp only [CompRec.queryAnswer, hm, hst, hp, if_true]

/-- A meal that is lost to its owner is gone. -/
theorem queryAnswer_lost (hst : r.state = .condemned ∨ r.state = .faulted
    ∨ (r.state = .attending ∧ (r.prior = some .condemned ∨ r.prior = some .faulted))) :
    r.queryAnswer c = some (.gone m.tag c .condemned) := by
  rcases hst with hst | hst | ⟨hst, hp⟩
  · simp only [CompRec.queryAnswer, hm, hst]
  · simp only [CompRec.queryAnswer, hm, hst]
  · have hunheld : r.prior ≠ some .holding := by rcases hp with hp | hp <;> simp [hp]
    simp only [CompRec.queryAnswer, hm, hst, if_neg hunheld]

theorem queryAnswer_loading (hst : r.state = .loading) : r.queryAnswer c = none := by
  simp only [CompRec.queryAnswer, hm, hst]

end Answer

/-! ## The commands -/

section Heard

variable {sender comp : Nat} (hrun : s.running = true) (hcourt : s.cfg.courtSize ≠ 1) (hq : s.Quiet)
  (hpeer : sender ≠ s.cfg.address)
include hrun hcourt hq hpeer

theorem exec_stowedFrame {cls : Nat} (hok : stowedContent tag comp cls = true) :
    exec (.stowedFrame sender tag comp cls) s = .next (s.heard.stowedHeard sender tag comp cls).pump := by
  rw [← close_eq_pump hq (stowedHeard_psc s.heard sender tag comp cls)]
  exact congrArg Host.Outcome.next (receive_of_peer hrun hcourt hpeer hok _)

theorem exec_goneFrame {reason : Nat} {g : GoneReason} (hok : goneContent tag comp reason = true)
    (hg : goneReasonOf reason = some g) :
    exec (.goneFrame sender tag comp reason) s = .next (s.heard.goneHeard sender tag g).pump := by
  rw [← close_eq_pump hq (goneHeard_psc s.heard sender tag g)]
  show execGoneFrame sender tag comp reason s = _
  unfold execGoneFrame
  rw [hg]
  exact congrArg Host.Outcome.next (receive_of_peer hrun hcourt hpeer hok _)

theorem exec_queryFrame (hok : tagOk tag = true) :
    exec (.queryFrame sender tag) s = .next (s.heard.queryHeard tag).pump := by
  rw [← close_eq_pump hq (queryHeard_psc s.heard tag)]
  exact congrArg Host.Outcome.next (receive_of_peer hrun hcourt hpeer hok _)

end Heard

end Sys2Proof.Machine
end

section
/-! The statements about the Court Directory. -/

namespace Sys2Proof.Proofs

open Sys2Proof Sys2Proof.Machine

/-- Settles O56: removals keep both laws, and so do the five commands that may add an entry or a tag. -/
theorem directoryAndTagInvariant : Obligations.DirectoryAndTagInvariant :=
  ⟨fun _ t h => trimStable_directoryLaw.step (fun i _ hu => hu.exec i) h t,
    fun _ t h => trimStable_tagLaw.step (fun i _ hu => hu.exec i) h t⟩

/-- Settles O26: by whether the directory has the tag, and whether the line can be asked; the wait's end is a reply. -/
theorem counterLookup : Obligations.CounterLookup := by
  refine ⟨fun s tag code ht hq hlow hhigh hcode hnone => ?collect, fun s l hrun hq hl hover => ?waitEnd⟩
  case collect =>
    rw [exec_collect_lookUp ht hlow hhigh hcode hnone]
    have habsent (h : ∀ e ∈ s.cdir.entries, e.tag ≠ tag) : s.clearCounterPartial.cdir.find tag = none :=
      (find_eq_none_iff _ tag).mpr h
    refine ⟨fun e he => ?_, fun hall htakes => ?_, fun hall hdeaf => ?_⟩
    · rw [lookUp_found (s := s.clearCounterPartial) he, close_replyCounter s _ _ hq]
    · rw [lookUp_asks (habsent hall) htakes, queueNote_clearCounterPartial]
      exact congrArg Host.Outcome.next (close_eq_pump hq rfl)
    · rw [lookUp_unknown (habsent hall) hdeaf, close_replyCounter s _ _ hq]
  case waitEnd =>
    rw [exec_lookupWaitEnd hrun hl hover, close_eq_pump (t := s.endLookup .unknown none) hq rfl]
    rfl

/-- Settles O38: each frame's change of the directory, then the reply to the lookup that it answers. -/
theorem stowedAndGoneHeard : Obligations.StowedAndGoneHeard := by
  intro s sender tag comp hrun hcourt hq hpeer hlow hhigh hcomp ended
  have htag : tagOk tag = true := by simp [tagOk, hlow, hhigh]
  refine ⟨fun cls hcls => ?stowed, fun reason hreason => ?gone⟩
  case stowed =>
    have hok : stowedContent tag comp cls = true := by simp [stowedContent, htag, hcomp, hcls]
    rw [exec_stowedFrame hrun hcourt hq hpeer hok, stowedHeard_eq]
    rfl
  case gone =>
    obtain ⟨g, hg, hreply⟩ := goneReasonOf_lookupReply hreason
    have hok : goneContent tag comp reason = true := by simp [goneContent, htag, hcomp, hg]
    rw [exec_goneFrame hrun hcourt hq hpeer hok hg, goneHeard_eq, hreply]
    rfl

/-- Settles O39: the record found is the one that holds the tag, and its state gives the frame. -/
theorem queryAnswered : Obligations.QueryAnswered := by
  intro s sender tag hrun hcourt hq hpeer hlow hhigh
  have htag : tagOk tag = true := by simp [tagOk, hlow, hhigh]
  rw [exec_queryFrame hrun hcourt hq hpeer htag]
  refine ⟨fun hnone => ?unheld, fun c m hc hm hmtag hone => ?held⟩
  case unheld => rw [queryHeard_of_findTag_eq_none (s := s.heard) ((findTag_eq_none_iff _ tag).mpr hnone)]
  case held =>
    subst hmtag
    have hfind : s.heard.findTag m.tag = some c :=
      findTag_eq_some (s := s.heard) hc (congrArg (Option.map Meal.tag) hm) hone
    refine ⟨fun hst => ?_, fun hst => ?_, fun hst => ?_⟩
    · rw [queryHeard_of_queryAnswer_eq_some hfind (queryAnswer_held hm c hst)]
    · rw [queryHeard_of_queryAnswer_eq_some hfind (queryAnswer_lost hm c hst)]
    · rw [queryHeard_of_queryAnswer_eq_none hfind (queryAnswer_loading hm c hst)]

end Sys2Proof.Proofs
end

section
/-! SUPPORT. The interlock one door record at a time (R113, R115, R117), and the side counts (R116). -/

namespace Sys2Proof.Machine

/-! ## One side of a door -/

/-- What the interlock asks of one side, given the compartment's holder (R113, R115, R117). -/
structure SideRec.Interlocked (sd : Side) (holder : Option Side) (r : SideRec) : Prop where
  law : r.Law
  held : r.latchReleased = true ∨ r.state = .released ∨ r.state = .settling → holder = some sd
  left : holder = some sd → r.state ≠ .latched

theorem DoorRec.law_iff (d : DoorRec) : d.Law ↔ ∀ sd, (d.side sd).Interlocked sd d.holder := by
  constructor
  · rintro ⟨hkitchen, hcounter, hsides⟩ sd
    obtain ⟨hheld, hleft⟩ := hsides sd
    exact ⟨by cases sd <;> assumption, hheld, hleft⟩
  · exact fun h => ⟨(h .kitchen).law, (h .counter).law, fun sd => ⟨(h sd).held, (h sd).left⟩⟩

theorem law_closed : DoorRec.closed.Law := by
  rw [DoorRec.law_iff]
  intro sd
  have hnew : SideRec.latchedNew.Law := by simp [SideRec.Law, SideRec.latchedNew]
  cases sd <;> exact ⟨hnew, by decide, by decide⟩

section Changes

variable {sd : Side} {holder : Option Side} {r : SideRec}

/-- A side sees of the holder only whether it is the side itself. -/
theorem SideRec.Interlocked.rehold (h : r.Interlocked sd holder) {holder' : Option Side}
    (hsame : holder = some sd ↔ holder' = some sd) : r.Interlocked sd holder' :=
  ⟨h.law, fun hr => hsame.mp (h.held hr), fun hh => h.left (hsame.mpr hh)⟩

/-- A LATCHED side's latch is engaged and no time of it is set (R113, R115). -/
theorem SideRec.Law.of_latched (h : r.Law) (hst : r.state = .latched) :
    r.latchReleased = false ∧ r.windowEnd = none ∧ r.ajarAt = none ∧ r.settleEnd = none := by
  obtain ⟨hwindow, hajar, hsettle, -, hlatch⟩ := h
  simp_all

/-- A seize takes a LATCHED side to RELEASED, for its own holder (R116). -/
theorem SideRec.Interlocked.granted (h : r.Interlocked sd holder) (hst : r.state = .latched) (now : Time) :
    (r.granted sd now).Interlocked sd (some sd) := by
  obtain ⟨-, -, hajar, hsettle⟩ := h.law.of_latched hst
  refine ⟨?_, fun _ => rfl, fun _ => nofun⟩
  simp [SideRec.granted, SideRec.Law, hajar, hsettle]

/-- An opening side keeps its latch as it is, so it is released for the holder only (R118, R120, R127). -/
theorem SideRec.Interlocked.open_ (h : r.Interlocked sd holder) (now : Time) :
    (r.open_ sd now).Interlocked sd holder := by
  refine ⟨?_, fun hr => h.held (.inl ?_), fun _ => nofun⟩
  · simp [SideRec.open_, SideRec.Law]
  · simpa [SideRec.open_] using hr

/-- The holder's side settles (R119). -/
theorem SideRec.Interlocked.close (h : r.Interlocked sd holder) (hst : r.state = .opened) (hheld : holder = some sd)
    (now : Time) : (r.close now).Interlocked sd holder := by
  obtain ⟨hwindow, -⟩ := h.law
  refine ⟨?_, fun _ => hheld, fun _ => nofun⟩
  simp_all [SideRec.close, SideRec.Law]

/-- Any side may latch for another holder or none (R118, R120, R121, R128). -/
theorem interlocked_latch (r : SideRec) (hother : holder ≠ some sd) : r.latch.Interlocked sd holder := by
  refine ⟨?_, ?_, fun hh => absurd hh hother⟩
  · simp [SideRec.latch, SideRec.Law]
  · simp [SideRec.latch]

/-- DOOR_AJAR is noted beside what the interlock reads (R119). -/
theorem SideRec.Interlocked.ajarNoticed (h : r.Interlocked sd holder) :
    SideRec.Interlocked sd holder { r with ajarNoticed := true } :=
  ⟨h.law, h.held, h.left⟩

end Changes

/-! ## One door record -/

theorem side_modSide (d : DoorRec) (sd : Side) (f : SideRec → SideRec) : (d.modSide sd f).side sd = f (d.side sd) := by
  cases sd <;> rfl

theorem eq_otherSide_of_ne {sd sd' : Side} (hne : sd' ≠ sd) : sd' = otherSide sd := by
  cases sd with
  | kitchen =>
    cases sd' with
    | kitchen => exact absurd rfl hne
    | counter => rfl
  | counter =>
    cases sd' with
    | kitchen => rfl
    | counter => exact absurd rfl hne

theorem side_modSide_of_ne (d : DoorRec) {sd sd' : Side} (hne : sd' ≠ sd) (f : SideRec → SideRec) :
    (d.modSide sd f).side sd' = d.side sd' := by
  rw [eq_otherSide_of_ne hne]
  cases sd <;> rfl

@[simp] theorem holder_modSide (d : DoorRec) (sd : Side) (f : SideRec → SideRec) :
    (d.modSide sd f).holder = d.holder := by
  cases sd <;> rfl

/-- A change of one side and of the holder, that the other side does not see. -/
theorem DoorRec.Law.update {d : DoorRec} (h : d.Law) (sd : Side) {f : SideRec → SideRec} {holder : Option Side}
    (hside : (f (d.side sd)).Interlocked sd holder)
    (hother : ∀ sd', sd' ≠ sd → (d.holder = some sd' ↔ holder = some sd')) :
    DoorRec.Law { d.modSide sd f with holder := holder } := by
  rw [DoorRec.law_iff] at h ⊢
  intro sd'
  change ((d.modSide sd f).side sd').Interlocked sd' holder
  by_cases hsd : sd' = sd
  · subst hsd
    rwa [side_modSide]
  · rw [side_modSide_of_ne d hsd]
    exact (h sd').rehold (hother sd' hsd)

/-- A door whose sides are both LATCHED has no holder (R113). -/
theorem DoorRec.Law.holder_eq_none {d : DoorRec} (h : d.Law) (hlatched : d.bothLatched = true) : d.holder = none := by
  rw [DoorRec.law_iff] at h
  rw [bothLatched_iff] at hlatched
  cases hh : d.holder with
  | none => rfl
  | some sd => exact absurd (hlatched sd) ((h sd).left hh)

/-! ## Counts -/

/-- An update that makes no more members count does not raise a count. -/
theorem countP_modify_le {α : Type} (p : α → Bool) (l : List α) (c : Nat) (f : α → α)
    (hf : ∀ a, l[c]? = some a → p (f a) = true → p a = true) : (l.modify c f).countP p ≤ l.countP p := by
  induction l generalizing c with
  | nil => simp
  | cons a l ih =>
    cases c with
    | zero =>
      have ha := hf a rfl
      rw [List.modify_zero_cons, List.countP_cons, List.countP_cons]
      split <;> simp_all
    | succ c =>
      rw [List.modify_succ_cons, List.countP_cons, List.countP_cons]
      exact Nat.add_le_add_right (ih c hf) _

/-- One update raises a count by one at most. -/
theorem countP_modify_le_succ {α : Type} (p : α → Bool) (l : List α) (c : Nat) (f : α → α) :
    (l.modify c f).countP p ≤ l.countP p + 1 := by
  induction l generalizing c with
  | nil => simp
  | cons a l ih =>
    cases c with
    | zero =>
      rw [List.modify_zero_cons, List.countP_cons, List.countP_cons]
      split <;> omega
    | succ c =>
      rw [List.modify_succ_cons, List.countP_cons, List.countP_cons]
      have := ih c
      omega

end Sys2Proof.Machine
end

section
/-! SUPPORT. The Door Arbiter and the Compartment Table keep the interlock (R113 to R128). -/

namespace Sys2Proof.Machine

variable {s t : State} {c : Nat}

/-! ## The law and updates of one door record -/

/-- The interlock is a law of the door records alone. -/
theorem State.InterlockLaw.frame (h : s.InterlockLaw) (hdoors : t.doors = s.doors) : t.InterlockLaw := by
  unfold State.InterlockLaw State.sideCount
  rw [hdoors]
  exact h

/-- The door record of `c` keeps the law; beyond the fitted compartments it reads as closed. -/
theorem State.InterlockLaw.door (h : s.InterlockLaw) (c : Nat) : (s.door c).Law := by
  obtain ⟨hdoors, -⟩ := h
  unfold State.door
  rw [List.getD_eq_getElem?_getD]
  cases hd : s.doors[c]? with
  | none => exact law_closed
  | some d => exact hdoors d (List.mem_of_getElem? hd)

theorem State.InterlockLaw.sideCount_le (h : s.InterlockLaw) (sd : Side) : s.sideCount sd ≤ 4 := h.right sd

theorem State.InterlockLaw.side (h : s.InterlockLaw) (c : Nat) (sd : Side) :
    ((s.door c).side sd).Interlocked sd (s.door c).holder :=
  (DoorRec.law_iff _).mp (h.door c) sd

theorem door_of_getElem? {d : DoorRec} (hd : s.doors[c]? = some d) : s.door c = d := by
  simp [State.door, List.getD_eq_getElem?_getD, hd]

/-- An update after which `c` is a side's only where it was before does not raise that side's count. -/
theorem sideCount_modDoor_le {f : DoorRec → DoorRec} (sd : Side)
    (hf : (f (s.door c)).holder = some sd → (s.door c).holder = some sd) :
    (s.modDoor c f).sideCount sd ≤ s.sideCount sd := by
  refine countP_modify_le _ s.doors c f fun d hd hheld => ?_
  rw [door_of_getElem? hd] at hf
  exact decide_eq_true (hf (of_decide_eq_true hheld))

theorem State.InterlockLaw.modDoor (h : s.InterlockLaw) {f : DoorRec → DoorRec} (hlaw : (f (s.door c)).Law)
    (hcount : ∀ sd, (s.modDoor c f).sideCount sd ≤ 4) : (s.modDoor c f).InterlockLaw := by
  obtain ⟨hdoors, -⟩ := h
  refine ⟨fun d hd => ?_, hcount⟩
  rcases mem_modify s.doors c f hd with hold | ⟨q, hq, rfl⟩
  · exact hdoors d hold
  · exact door_of_getElem? hq ▸ hlaw

/-- An update that keeps the holder. -/
theorem State.InterlockLaw.modDoor_of_holder (h : s.InterlockLaw) {f : DoorRec → DoorRec} (hlaw : (f (s.door c)).Law)
    (hholder : (f (s.door c)).holder = (s.door c).holder) : (s.modDoor c f).InterlockLaw :=
  h.modDoor hlaw fun sd => (sideCount_modDoor_le sd fun hf => hholder ▸ hf).trans (h.sideCount_le sd)

/-- A change of one side under the same holder. -/
theorem State.InterlockLaw.modSide (h : s.InterlockLaw) {sd : Side} {f : SideRec → SideRec}
    (hside : (f ((s.door c).side sd)).Interlocked sd (s.door c).holder) : (s.modSide c sd f).InterlockLaw := by
  refine h.modDoor_of_holder ?_ (holder_modSide _ sd f)
  have hlaw := (h.door c).update sd hside fun _ _ => Iff.rfl
  cases sd <;> exact hlaw

/-! ## Seizes (R10, R12, R116) -/

/-- A door whose sides are both LATCHED has no holder, so that the side's count alone decides (R113, R116). -/
theorem State.InterlockLaw.roomFor (h : s.InterlockLaw) {sd : Side} (hlatched : (s.door c).bothLatched = true)
    (hcount : s.sideCount sd < 4) : s.roomFor c sd :=
  have hsides := (bothLatched_iff _).mp hlatched
  ⟨(h.door c).holder_eq_none hlatched, hsides .kitchen, hsides .counter, hcount⟩

/-- A seize takes a place of its side's count, where there is room for one (R116). -/
theorem State.InterlockLaw.grantSeize (h : s.InterlockLaw) {sd : Side} (hroom : s.roomFor c sd) :
    (s.grantSeize c sd).InterlockLaw := by
  obtain ⟨hnone, hkitchen, hcounter, hcount⟩ := hroom
  have hlatched : ((s.door c).side sd).state = .latched := by cases sd <;> assumption
  have hseized : (s.modDoor c fun d =>
      { d.modSide sd (SideRec.granted sd s.now) with holder := some sd }).InterlockLaw := by
    refine h.modDoor ((h.door c).update sd ((h.side c sd).granted hlatched s.now) fun sd' hne => ?_) fun sd' => ?_
    · simp [hnone, hne.symm]
    · by_cases hsd : sd' = sd
      · subst hsd
        exact (countP_modify_le_succ _ s.doors c _).trans hcount
      · refine (sideCount_modDoor_le sd' fun hf => ?_).trans (h.sideCount_le sd')
        exact absurd (Option.some.inj hf).symm hsd
  exact hseized.frame (by simp [State.grantSeize])

/-- A seize after the Compartment Table's change of the record (R6, R10, R12). -/
theorem State.InterlockLaw.seize (h : s.InterlockLaw) {sd : Side} (hroom : s.roomFor c sd) (f : CompRec → CompRec) :
    ((s.modComp c f).grantSeize c sd).InterlockLaw :=
  State.InterlockLaw.grantSeize (s := s.modComp c f) (h.frame (by simp)) hroom

theorem State.InterlockLaw.enterAttending (h : s.InterlockLaw) (hroom : s.roomFor c .kitchen) :
    (s.enterAttending c).InterlockLaw :=
  h.seize hroom _

theorem State.InterlockLaw.grantCollection (h : s.InterlockLaw) (hroom : s.roomFor c .counter) :
    (s.grantCollection c).InterlockLaw :=
  h.seize hroom _

/-! ## Remembered requests (R123 to R126) -/

/-- A change of the remembered requests alone. -/
theorem State.InterlockLaw.modRequests (h : s.InterlockLaw) {f : DoorRec → DoorRec}
    (hf : ∀ d, (f d).kitchen = d.kitchen ∧ (f d).counter = d.counter ∧ (f d).holder = d.holder) :
    (s.modDoor c f).InterlockLaw := by
  obtain ⟨hkitchen, hcounter, hholder⟩ := hf (s.door c)
  refine h.modDoor_of_holder ?_ hholder
  have hside (sd : Side) : (f (s.door c)).side sd = (s.door c).side sd := by cases sd <;> assumption
  rw [DoorRec.law_iff]
  intro sd
  rw [hside, hholder]
  exact h.side c sd

theorem State.InterlockLaw.forget (h : s.InterlockLaw) (c : Nat) (sd : Side) : (s.forget c sd).InterlockLaw :=
  h.modRequests fun _ => by cases sd <;> exact ⟨rfl, rfl, rfl⟩

theorem State.InterlockLaw.rememberKitchen (h : s.InterlockLaw) (c : Nat) (kind : KitchenKind) :
    (s.rememberKitchen c kind).InterlockLaw := by
  have hstored : (s.modDoor c fun d =>
      { d with kitchenReq := some ⟨kind, s.now, s.now + Config.rememberTime, s.requestSerial⟩ }).InterlockLaw :=
    h.modRequests fun _ => ⟨rfl, rfl, rfl⟩
  exact hstored.frame rfl

theorem State.InterlockLaw.rememberCounter (h : s.InterlockLaw) (c tag : Nat) :
    (s.rememberCounter c tag).InterlockLaw := by
  have hstored : (s.modDoor c fun d =>
      { d with counterReq := some ⟨tag, s.now, s.now + Config.rememberTime, s.requestSerial⟩ }).InterlockLaw :=
    h.modRequests fun _ => ⟨rfl, rfl, rfl⟩
  exact hstored.frame rfl

/-- A removed request changes nothing of the sides and the holder. -/
theorem door_forget (s : State) (c d : Nat) (sd : Side) :
    ((s.forget c sd).door d).kitchen = (s.door d).kitchen ∧ ((s.forget c sd).door d).counter = (s.door d).counter
      ∧ ((s.forget c sd).door d).holder = (s.door d).holder := by
  unfold State.forget
  rw [door_modDoor]
  split
  · cases sd <;> exact ⟨rfl, rfl, rfl⟩
  · exact ⟨rfl, rfl, rfl⟩

theorem sideCount_forget (s : State) (c : Nat) (sd sd' : Side) : (s.forget c sd).sideCount sd' = s.sideCount sd' := by
  have hcount (t : State) : t.sideCount sd' = (t.doors.map DoorRec.holder).countP fun o => o = some sd' := by
    rw [List.countP_map]
    rfl
  rw [hcount, hcount]
  congr 1
  exact map_modify_of_eq DoorRec.holder _ (fun d => by cases sd <;> rfl) s.doors c

/-- A request is no part of what a seize asks for. -/
theorem roomFor_forget (s : State) (c : Nat) (sd sd' : Side) : (s.forget c sd).roomFor c sd' ↔ s.roomFor c sd' := by
  obtain ⟨hkitchen, hcounter, hholder⟩ := door_forget s c c sd
  unfold State.roomFor
  rw [hkitchen, hcounter, hholder, sideCount_forget]

theorem State.InterlockLaw.reevalKitchen (h : s.InterlockLaw) (c : Nat) : (s.reevalKitchen c).InterlockLaw := by
  have hforgot := h.forget c .kitchen
  unfold State.reevalKitchen
  split
  · exact h
  · split
    · exact h
    · split
      · split
        · next hg =>
          have hg := (seizeAnswer_eq_granted_iff s c _).mp hg
          exact (hforgot.enterAttending ((roomFor_forget s c _ _).mpr hg)).frame (by simp)
        · exact h
      · exact hforgot.frame (by simp)

theorem State.InterlockLaw.reevalCounter (h : s.InterlockLaw) (c : Nat) : (s.reevalCounter c).InterlockLaw := by
  have hforgot := h.forget c .counter
  unfold State.reevalCounter
  split
  · exact h
  · split
    · exact h
    · split
      · split
        · next hg =>
          have hg := (seizeAnswer_eq_granted_iff s c _).mp hg
          exact (hforgot.grantCollection ((roomFor_forget s c _ _).mpr hg)).frame (by simp)
        · exact h
      · exact hforgot.frame (by simp)

theorem State.InterlockLaw.reeval (h : s.InterlockLaw) (sd : Side) (c : Nat) : (s.reeval sd c).InterlockLaw := by
  cases sd with
  | kitchen => exact h.reevalKitchen c
  | counter => exact h.reevalCounter c

theorem State.InterlockLaw.reevalSide (h : s.InterlockLaw) (sd : Side) : (s.reevalSide sd).InterlockLaw :=
  List.foldlRecOn (motive := State.InterlockLaw) _ _ h fun _ ht c _ => ht.reeval sd c

theorem State.InterlockLaw.reevalBoth (h : s.InterlockLaw) (c : Nat) : (s.reevalBoth c).InterlockLaw := by
  have hboth := (h.reeval .kitchen c).reeval .counter c
  unfold State.reevalBoth
  split
  · split
    · exact hboth
    · exact (h.reeval .counter c).reeval .kitchen c
  · exact hboth

/-! ## The course of a hold (R118 to R122, R127) -/

/-- The holder's side latches and the holder becomes NONE: the other side was not the holder's (R122). -/
theorem State.InterlockLaw.holdOver (h : s.InterlockLaw) {sd : Side} (hheld : (s.door c).holder = some sd) :
    (s.holdOver c sd).InterlockLaw := by
  rw [← holdOver_eq]
  refine h.modDoor ((h.door c).update sd (interlocked_latch _ nofun) fun sd' hne => ?_) fun sd' => ?_
  · simp [hheld, hne.symm]
  · exact (sideCount_modDoor_le sd' (by simp)).trans (h.sideCount_le sd')

theorem State.InterlockLaw.holdEnd (h : s.InterlockLaw) {sd : Side} (hheld : (s.door c).holder = some sd)
    (k : HoldEnd) : (s.holdEnd c sd k).InterlockLaw := by
  have hended := h.holdOver hheld
  unfold State.holdEnd
  rw [holdOver_eq]
  have htable : ((s.holdOver c sd).shutIfEmptied ((s.holdOver c sd).tableHoldEnd c k)).InterlockLaw :=
    hended.frame (by simp)
  exact ((htable.reeval (otherSide sd) c).reevalSide sd).frame (by simp)

/-- The side that waits to be opened or settles is the holder's (R117). -/
theorem State.InterlockLaw.holder_of_sideState (h : s.InterlockLaw) {sd : Side}
    (hst : s.sideState c sd = .released ∨ s.sideState c sd = .settling) : (s.door c).holder = some sd :=
  (h.side c sd).held (.inr hst)

theorem State.InterlockLaw.forceDoor (h : s.InterlockLaw) (c : Nat) (sd : Side) : (s.forceDoor c sd).InterlockLaw := by
  have hopened : (s.modSide c sd (SideRec.open_ sd s.now)).InterlockLaw := h.modSide ((h.side c sd).open_ s.now)
  exact hopened.frame (by simp [State.forceDoor])

theorem State.InterlockLaw.noticeAjar (h : s.InterlockLaw) (c : Nat) (sd : Side) :
    (s.noticeAjar c sd).InterlockLaw := by
  have hnoted : (s.modSide c sd fun r => { r with ajarNoticed := true }).InterlockLaw :=
    h.modSide (h.side c sd).ajarNoticed
  unfold State.noticeAjar
  split <;> exact hnoted.frame (by simp)

theorem State.InterlockLaw.lapseRequest (h : s.InterlockLaw) (c : Nat) (sd : Side) :
    (s.lapseRequest c sd).InterlockLaw := by
  unfold State.lapseRequest
  split
  · exact (h.forget c .kitchen).frame (by simp)
  · exact (h.forget c .counter).frame (by simp)

end Sys2Proof.Machine
end

section
/-! SUPPORT. The ports, the Court Line, start-up and every other command keep the interlock, and so does every step
(R115 to R117). -/

namespace Sys2Proof.Machine

variable {s : State} {c : Nat}

/-! ## The ports (R145, R147, R158) -/

theorem State.InterlockLaw.outcomeKitchen (h : s.InterlockLaw) (o : KOutcome) (c arg : Option Nat) :
    (s.outcomeKitchen o c arg).InterlockLaw :=
  h.frame (by simp)

theorem State.InterlockLaw.replyCounter (h : s.InterlockLaw) (o : COutcome) (arg : Option Nat) :
    (s.replyCounter o arg).InterlockLaw :=
  h.frame (by simp)

theorem State.InterlockLaw.close (h : s.InterlockLaw) : s.close.InterlockLaw := h.frame (by simp)

/-- A kitchen record, where its decision keeps the interlock. -/
theorem State.InterlockLaw.takeKitchen (h : s.InterlockLaw) (kind : Nat) {decide : State → State}
    (hdecide : ∀ t : State, t.InterlockLaw → (decide t).InterlockLaw) : (s.takeKitchen kind decide).InterlockLaw := by
  have hcleared : s.clearKitchenPartial.InterlockLaw := h.frame (by simp)
  unfold State.takeKitchen
  dsimp only
  split
  · exact h
  · exact hcleared
  · exact hcleared.frame (by simp)
  · split
    · exact hcleared.frame (by simp)
    · exact (hdecide _ hcleared).close

/-- A counter record, where its decision keeps the interlock. -/
theorem State.InterlockLaw.takeCounter (h : s.InterlockLaw) (kind : Nat) (busy : State → Bool)
    {decide : State → State} (hdecide : ∀ t : State, t.InterlockLaw → (decide t).InterlockLaw) :
    (s.takeCounter kind busy decide).InterlockLaw := by
  have hcleared : s.clearCounterPartial.InterlockLaw := h.frame (by simp)
  unfold State.takeCounter
  dsimp only
  split
  · exact h
  · exact hcleared
  · exact hcleared.frame (by simp)
  · split
    · exact hcleared.frame (by simp)
    · exact (hdecide _ hcleared).close

/-- A condition answered with a reply. -/
theorem State.InterlockLaw.unlessReplied (h : s.InterlockLaw) {p : Prop} [Decidable p] (o : KOutcome)
    (d arg : Option Nat) {t : State} (ht : t.InterlockLaw) :
    (if p then s.outcomeKitchen o d arg else t).InterlockLaw := by
  split
  · exact h.outcomeKitchen o d arg
  · exact ht

/-- A request that names a compartment ends with a reply or with its decision. -/
theorem State.InterlockLaw.onCompartment (h : s.InterlockLaw) (kind len want c : Nat) (form check : Bool)
    {decide : State → State} (hdecide : (decide s).InterlockLaw) :
    (s.onCompartment kind len want c form check decide).InterlockLaw :=
  h.unlessReplied _ _ _ (h.unlessReplied _ _ _ (h.unlessReplied _ _ _ hdecide))

/-! ## Kitchen requests -/

theorem inFreeSet_of_allocate {reach : Bool} (ha : s.allocate reach = some c) : s.inFreeSet c = true := by
  cases reach with
  | true =>
    rcases (allocate_reach_eq_some_iff s c).mp ha with hspan | ⟨-, hrest⟩
    · exact List.find?_some hspan
    · exact List.find?_some hrest
  | false =>
    rcases (allocate_ordinary_eq_some_iff s c).mp ha with hrest | ⟨-, -, hspan⟩
    · exact List.find?_some hrest
    · exact List.find?_some hspan

/-- A LOAD that passes the checks of R3 found the kitchen side with room. -/
theorem sideCount_lt_of_loadChecks {tag cls : Nat} {reach : Bool} {probe : Option Nat}
    (hok : s.loadChecks tag cls reach probe = .ok c) : s.sideCount .kitchen < 4 := by
  by_contra hfull
  have hfull : Config.sideLimit ≤ s.sideCount .kitchen := Nat.le_of_not_lt hfull
  unfold State.loadChecks at hok
  cases hadmitted : s.admission cls with
  | some o =>
    simp only [hadmitted] at hok
    split_ifs at hok
  | none =>
    simp only [hadmitted, if_pos hfull] at hok
    split_ifs at hok

/-- R3, R4: the compartment that a LOAD is given has room for the kitchen side's seize. -/
theorem State.InterlockLaw.roomFor_of_loadChecks (h : s.InterlockLaw) {tag cls : Nat} {reach : Bool}
    {probe : Option Nat} (hok : s.loadChecks tag cls reach probe = .ok c) : s.roomFor c .kitchen := by
  obtain ⟨-, -, ha⟩ := loadChecks_passed hok
  have hfree := inFreeSet_of_allocate ha
  exact h.roomFor (Bool.and_elim_right hfree) (sideCount_lt_of_loadChecks hok)

theorem State.InterlockLaw.decideLoad (h : s.InterlockLaw) (len tag code cls reach limit probe : Nat) :
    (s.decideLoad len tag code cls reach limit probe).InterlockLaw := by
  refine h.unlessReplied _ _ _ ?_
  split
  · exact h.outcomeKitchen _ _ _
  · next hok =>
    exact (h.seize (h.roomFor_of_loadChecks hok) _).outcomeKitchen _ _ _

theorem State.InterlockLaw.seizeKitchen (h : s.InterlockLaw) (c : Nat) : (s.seizeKitchen c).InterlockLaw := by
  by_cases hroom : s.roomFor c .kitchen
  · rw [seizeKitchen_granted s hroom]
    exact (h.enterAttending hroom).outcomeKitchen _ _ _
  · rw [seizeKitchen_noRoom s hroom]
    exact h.outcomeKitchen _ _ _

theorem State.InterlockLaw.waitKitchen (h : s.InterlockLaw) (c : Nat) (kind : KitchenKind) :
    (s.waitKitchen c kind).InterlockLaw :=
  (h.rememberKitchen c kind).outcomeKitchen _ _ _

theorem State.InterlockLaw.decideAttend (h : s.InterlockLaw) (c : Nat) : (s.decideAttend c).InterlockLaw := by
  unfold State.decideAttend
  split
  · exact h.waitKitchen c _
  · split
    · exact h.seizeKitchen c
    · exact h.outcomeKitchen _ _ _

theorem State.InterlockLaw.decideReset (h : s.InterlockLaw) (c : Nat) : (s.decideReset c).InterlockLaw := by
  unfold State.decideReset
  split
  · split
    · exact h.seizeKitchen c
    · exact h.waitKitchen c _
    · exact h.outcomeKitchen _ _ _
  · exact h.outcomeKitchen _ _ _

theorem State.InterlockLaw.decideRelease (h : s.InterlockLaw) (c : Nat) : (s.decideRelease c).InterlockLaw := by
  unfold State.decideRelease
  split
  · next hheld =>
    simp only [Bool.and_eq_true, decide_eq_true_eq] at hheld
    obtain ⟨hheld, -⟩ := hheld
    exact (h.holdEnd hheld _).outcomeKitchen _ _ _
  · exact h.outcomeKitchen _ _ _

theorem State.InterlockLaw.decideService (h : s.InterlockLaw) (c : Nat) (old new : CState) :
    (s.decideService c old new).InterlockLaw := by
  unfold State.decideService
  split <;> exact h.frame (by simp)

theorem State.InterlockLaw.decideClose (h : s.InterlockLaw) : s.decideClose.InterlockLaw := by
  unfold State.decideClose State.replyMode
  split <;> exact h.frame (by simp)

theorem State.InterlockLaw.decideOpen (h : s.InterlockLaw) : s.decideOpen.InterlockLaw := by
  unfold State.decideOpen State.replyMode
  split <;> exact h.frame (by simp)

/-! ## Counter requests -/

theorem State.InterlockLaw.rightCode (h : s.InterlockLaw) (c tag : Nat) : (s.rightCode c tag).InterlockLaw := by
  unfold State.rightCode
  split
  · split
    · next hg =>
      exact (h.grantCollection ((seizeAnswer_eq_granted_iff s c _).mp hg)).replyCounter _ _
    · exact h.replyCounter _ _
  · split
    · exact (h.rememberCounter c tag).replyCounter _ _
    · exact h.replyCounter _ _

theorem State.InterlockLaw.codeCheck (h : s.InterlockLaw) (c tag code : Nat) :
    (s.codeCheck c tag code).InterlockLaw := by
  unfold State.codeCheck
  split
  · exact h.replyCounter _ _
  · split
    · exact State.InterlockLaw.rightCode (h.frame (by simp)) c tag
    · split <;> exact h.frame (by simp)

theorem State.InterlockLaw.collectRecord (h : s.InterlockLaw) (c tag code : Nat) :
    (s.collectRecord c tag code).InterlockLaw := by
  have hmeal : (if (s.door c).counterReq.isSome then s.replyCounter .busy none
      else s.codeCheck c tag code).InterlockLaw := by
    split
    · exact h.replyCounter _ _
    · exact h.codeCheck c tag code
  unfold State.collectRecord
  split
  case h_5 => exact hmeal
  case h_6 =>
    split
    · exact hmeal
    · exact h.replyCounter _ _
  all_goals exact h.replyCounter _ _

theorem State.InterlockLaw.decideCollect (h : s.InterlockLaw) (len tag code : Nat) :
    (s.decideCollect len tag code).InterlockLaw := by
  unfold State.decideCollect
  split
  · exact h.replyCounter _ _
  · split
    · exact h.collectRecord _ tag code
    · unfold State.lookUp
      (repeat' split) <;> exact h.frame (by simp)

theorem State.InterlockLaw.decideCancel (h : s.InterlockLaw) (len : Nat) : (s.decideCancel len).InterlockLaw := by
  unfold State.decideCancel
  split
  · exact h.replyCounter _ _
  · split
    · exact h.frame (by simp)
    · split
      · exact (h.forget _ .counter).replyCounter _ _
      · exact h.replyCounter _ _

/-! ## Frames on the line (R94) -/

/-- A frame on the line, where the block that acts on it leaves the doors alone. -/
theorem State.InterlockLaw.receive (h : s.InterlockLaw) (sender : Nat) (ok : Bool) {act : State → State}
    (hact : ∀ t : State, (act t).doors = t.doors) : (s.receive sender ok act).InterlockLaw := by
  unfold State.receive
  (repeat' split) <;> exact h.frame (by simp [hact])

/-! ## Start-up (R165, R169) -/

theorem interlockLaw_setUpTables (s : State) (r : ConfigRec) : (s.setUpTables r).InterlockLaw := by
  refine ⟨fun d hd => ?_, fun sd => ?_⟩
  · exact List.eq_of_mem_replicate hd ▸ law_closed
  · simp [State.sideCount, State.setUpTables, DoorRec.closed, List.countP_replicate]

theorem State.InterlockLaw.startUpDoor (h : s.InterlockLaw) (c : Nat) (sd : Side) :
    (s.startUpDoor c sd).InterlockLaw := by
  unfold State.startUpDoor
  split
  · exact h.forceDoor c sd
  · exact h

theorem State.InterlockLaw.startUpDoors (h : s.InterlockLaw) : s.startUpDoors.InterlockLaw :=
  List.foldlRecOn (motive := State.InterlockLaw) _ _ h fun _ ht c _ =>
    (ht.startUpDoor c .kitchen).startUpDoor c .counter

theorem State.InterlockLaw.firstLineMode (h : s.InterlockLaw) : s.firstLineMode.InterlockLaw := by
  unfold State.firstLineMode
  split <;> exact h.frame (by simp)

/-- The doors found open are taken as forced ones, from tables in which every side is LATCHED (R113, R169). -/
theorem interlockLaw_endOfStartUp (s : State) (r : ConfigRec) : (s.endOfStartUp r).InterlockLaw := by
  have hserving : ((s.setUpTables r).modSul fun u =>
      { u with service := some (s.setUpTables r).firstService }).InterlockLaw :=
    (interlockLaw_setUpTables s r).frame rfl
  exact hserving.firstLineMode.startUpDoors.close

/-! ## Commands that act under a condition -/

theorem State.InterlockLaw.guarded (h : s.InterlockLaw) {p : Prop} [Decidable p] {t : State}
    (ht : p → t.InterlockLaw) : (if p then t else s).InterlockLaw := by
  split
  · next hp => exact ht hp
  · exact h

/-- A command that leaves the doors alone. -/
theorem State.InterlockLaw.aside (h : s.InterlockLaw) {p : Prop} [Decidable p] {t : State} (ht : t.doors = s.doors) :
    (if p then t else s).InterlockLaw :=
  h.guarded fun _ => h.frame ht

/-- A door event on a side: its change of the input chain, then of the side. -/
theorem State.InterlockLaw.doorEvent (h : s.InterlockLaw) {sd : Side} {f : SideRec → SideRec}
    (hside : (f ((s.door c).side sd)).Interlocked sd (s.door c).holder) :
    ((s.takeDoorChange c sd).modSide c sd f).InterlockLaw :=
  State.InterlockLaw.modSide (s := s.takeDoorChange c sd) (h.frame (by simp)) hside

theorem State.InterlockLaw.execDoorClosed (h : s.InterlockLaw) (c : Nat) (sd : Side) :
    NextKeeps State.InterlockLaw (execDoorClosed c sd s) := by
  refine nextKeeps_next (h.guarded fun hp => ?_)
  simp only [Bool.and_eq_true, decide_eq_true_eq] at hp
  obtain ⟨⟨-, hst⟩, hheld⟩ := hp
  exact h.doorEvent ((h.side c sd).close hst hheld s.now)

theorem State.InterlockLaw.execForcedDoorClosed (h : s.InterlockLaw) (c : Nat) (sd : Side) :
    NextKeeps State.InterlockLaw (execForcedDoorClosed c sd s) := by
  refine nextKeeps_next (h.guarded fun hp => ?_)
  simp only [Bool.and_eq_true, decide_eq_true_eq] at hp
  obtain ⟨-, hother⟩ := hp
  have hclosed := h.doorEvent (interlocked_latch ((s.door c).side sd) hother)
  exact (hclosed.reevalBoth c).frame (by simp)

theorem State.InterlockLaw.execReleaseWindowLapse (h : s.InterlockLaw) (c : Nat) (sd : Side) :
    NextKeeps State.InterlockLaw (execReleaseWindowLapse c sd s) := by
  refine nextKeeps_next (h.guarded fun hp => ?_)
  simp only [Bool.and_eq_true, decide_eq_true_eq] at hp
  obtain ⟨⟨-, hst⟩, -⟩ := hp
  exact (h.holdEnd (h.holder_of_sideState (.inl hst)) _).close

theorem State.InterlockLaw.execSettleEnd (h : s.InterlockLaw) (c : Nat) (sd : Side) :
    NextKeeps State.InterlockLaw (execSettleEnd c sd s) := by
  refine nextKeeps_next (h.guarded fun hp => ?_)
  simp only [Bool.and_eq_true, decide_eq_true_eq] at hp
  obtain ⟨⟨-, hst⟩, -⟩ := hp
  exact (h.holdEnd (h.holder_of_sideState (.inr hst)) _).close

theorem State.InterlockLaw.execConfigReadDone (h : s.InterlockLaw) (first second : ConfigRead) :
    NextKeeps State.InterlockLaw (execConfigReadDone first second s) := by
  refine nextKeeps_next (h.guarded fun _ => ?_)
  split
  · exact h.frame rfl
  · exact interlockLaw_endOfStartUp s _

theorem State.InterlockLaw.execFrameDiscarded (h : s.InterlockLaw) (layer : DiscardLayer) :
    NextKeeps State.InterlockLaw (execFrameDiscarded layer s) := by
  refine nextKeeps_next ?_
  split
  · exact h
  · cases layer <;> exact h.frame (by simp)

theorem State.InterlockLaw.execJoiningTimerExpiry (h : s.InterlockLaw) :
    NextKeeps State.InterlockLaw (execJoiningTimerExpiry s) := by
  refine nextKeeps_next (h.guarded fun _ => ?_)
  dsimp only
  split <;> exact h.frame (by simp)

/-! ## Every command -/

theorem interlockLaw_coldStart (s : State) : s.coldStart.InterlockLaw := by
  have hdoors : s.coldStart.doors = [] := rfl
  unfold State.InterlockLaw State.sideCount
  simp [hdoors]

theorem State.InterlockLaw.exec (h : s.InterlockLaw) (i : Instr) : NextKeeps State.InterlockLaw (exec i s) :=
  match i with
  | .coldStart => nextKeeps_next (interlockLaw_coldStart s)
  | .resetAsserted => nextKeeps_next (h.frame (by simp))
  | .configReadDone first second => h.execConfigReadDone first second
  | .load len tag code cls reach limit probe =>
    nextKeeps_next (h.takeKitchen 1 fun _ ht => ht.decideLoad len tag code cls reach limit probe)
  | .attend len c =>
    nextKeeps_next (h.takeKitchen 2 fun _ ht =>
      ht.onCompartment 2 len 4 c true true (ht.unlessReplied _ _ _ (ht.decideAttend c)))
  | .compartmentReset len c =>
    nextKeeps_next (h.takeKitchen 5 fun _ ht =>
      ht.onCompartment 5 len 4 c true false (ht.unlessReplied _ _ _ (ht.decideReset c)))
  | .release len c =>
    nextKeeps_next (h.takeKitchen 3 fun _ ht => ht.onCompartment 3 len 4 c true true (ht.decideRelease c))
  | .serviceOut len c _ =>
    nextKeeps_next (h.takeKitchen 4 fun _ ht => ht.onCompartment 4 len 5 c _ true (ht.decideService c _ _))
  | .serviceIn len c _ =>
    nextKeeps_next (h.takeKitchen 4 fun _ ht => ht.onCompartment 4 len 5 c _ true (ht.decideService c _ _))
  | .bankClose _ => nextKeeps_next (h.takeKitchen 6 fun _ ht => ht.unlessReplied _ _ _ ht.decideClose)
  | .bankOpen _ => nextKeeps_next (h.takeKitchen 7 fun _ ht => ht.unlessReplied _ _ _ ht.decideOpen)
  | .statusCompartment len c =>
    nextKeeps_next (h.takeKitchen 8 fun _ ht => ht.onCompartment 8 len 4 c true false (ht.frame (by simp)))
  | .statusStation _ => nextKeeps_next (h.takeKitchen 8 fun _ ht => ht.unlessReplied _ _ _ (ht.frame (by simp)))
  | .clearFaults _ => nextKeeps_next (h.takeKitchen 9 fun _ ht => ht.unlessReplied _ _ _ (ht.frame (by simp)))
  | .whereTag _ _ => nextKeeps_next (h.takeKitchen 10 fun _ ht => ht.unlessReplied _ _ _ (ht.frame (by simp)))
  | .kitchenUnknownKind kind => nextKeeps_next (h.takeKitchen kind fun _ ht => ht.outcomeKitchen _ _ _)
  | .kitchenBadRecord => nextKeeps_next (h.frame (by simp))
  | .kitchenGapExpiry => nextKeeps_next (h.aside (by simp))
  | .kitchenTxDone => nextKeeps_next (by split <;> exact h.frame (by simp))
  | .collect len tag code =>
    nextKeeps_next (h.takeCounter 1 State.counterBusy fun _ ht => ht.decideCollect len tag code)
  | .cancel len => nextKeeps_next (h.takeCounter 2 State.cancelBusy fun _ ht => ht.decideCancel len)
  | .counterUnknownKind kind =>
    nextKeeps_next (h.takeCounter kind State.counterBusy fun _ ht => ht.replyCounter _ _)
  | .counterBadRecord => nextKeeps_next (h.frame (by simp))
  | .counterGapExpiry => nextKeeps_next (h.aside (by simp))
  | .counterTxDone => nextKeeps_next (by split <;> exact h.frame (by simp))
  | .lockoutEnd _ => nextKeeps_next (h.aside (by simp))
  | .lookupWaitEnd => nextKeeps_next (h.aside (by simp))
  | .attemptStart => nextKeeps_next (h.aside (by simp))
  | .attemptLost => nextKeeps_next (h.aside (by simp))
  | .attemptFailed => nextKeeps_next (h.aside (by simp))
  | .attemptCompleted => nextKeeps_next (by split; exacts [h.frame (by simp), h])
  | .frameDiscarded layer => h.execFrameDiscarded layer
  | .ownAddressFrame => nextKeeps_next (h.aside (by simp))
  | .unknownKindFrame sender => nextKeeps_next (h.receive sender _ fun _ => rfl)
  | .claimFrame sender _ _ _ => nextKeeps_next (h.receive sender _ fun _ => by simp)
  | .drawFrame sender _ _ _ _ _ _ _ => nextKeeps_next (h.receive sender _ fun _ => by simp)
  | .goneFrame sender _ _ _ => nextKeeps_next (h.receive sender _ fun _ => by split <;> simp)
  | .stowedFrame sender _ _ _ => nextKeeps_next (h.receive sender _ fun _ => by simp)
  | .queryFrame sender _ => nextKeeps_next (h.receive sender _ fun _ => by simp)
  | .helloFresh sender _ _ _ _ _ => nextKeeps_next (h.receive sender _ fun _ => by simp)
  | .helloAnswer sender _ _ _ _ _ => nextKeeps_next (h.receive sender _ fun _ => by simp)
  | .drawTimerExpiry => nextKeeps_next (h.aside (by simp))
  | .silenceTimerExpiry => nextKeeps_next (h.aside (by simp))
  | .joiningTimerExpiry => h.execJoiningTimerExpiry
  | .entryLapse _ => nextKeeps_next (h.aside (by simp))
  | .claimWindowEnd => nextKeeps_next (by split; exacts [h.aside (by simp), h])
  | .lostBackoffEnd => nextKeeps_next (h.aside (by simp))
  | .overrunHoldEnd => nextKeeps_next (h.aside (by simp))
  | .decayStep _ => nextKeeps_next (by split; exacts [h.aside (by simp), h])
  | .holdLimitExpiry _ => nextKeeps_next (by split; exacts [h.aside (by simp), h])
  | .pulseEnd _ => nextKeeps_next (by split; exacts [h.aside (by simp), h])
  | .channelRestEnd _ => nextKeeps_next (h.aside (by simp))
  | .staggerEnd => nextKeeps_next (h.aside (by simp))
  | .doorOpened c sd => nextKeeps_next (h.guarded fun _ => h.doorEvent ((h.side c sd).open_ s.now))
  | .doorReopened c sd => nextKeeps_next (h.guarded fun _ => h.doorEvent ((h.side c sd).open_ s.now))
  | .doorClosed c sd => h.execDoorClosed c sd
  | .doorForced c sd =>
    nextKeeps_next (h.guarded fun _ => (State.InterlockLaw.forceDoor (h.frame (by simp)) c sd).close)
  | .forcedDoorClosed c sd => h.execForcedDoorClosed c sd
  | .releaseWindowLapse c sd => h.execReleaseWindowLapse c sd
  | .ajarTime c sd => nextKeeps_next (h.guarded fun _ => (h.noticeAjar c sd).close)
  | .settleEnd c sd => h.execSettleEnd c sd
  | .waitLapse c sd => nextKeeps_next (h.guarded fun _ => (h.lapseRequest c sd).close)
  | .sensorReading _ => nextKeeps_next (h.aside (by simp))
  | .ambientReading _ => nextKeeps_next (h.aside (by simp))
  | .inputChainSample _ => nextKeeps_next (h.aside rfl)

/-! ## Every step -/

/-- A byte on a panel's line: the receiver takes it, and the record it completes runs. -/
theorem State.InterlockLaw.takeByte (h : s.InterlockLaw) (sd : Side) (b : Byte) :
    NextKeeps State.InterlockLaw (s.takeByte sd b) := by
  have hrow (row : Option Instr) {t : State} (ht : t.doors = s.doors) :
      NextKeeps State.InterlockLaw (State.runRow row t) := by
    cases row with
    | none => exact nextKeeps_next (h.frame ht)
    | some i => exact State.InterlockLaw.exec (h.frame ht) i
  unfold State.takeByte
  dsimp only
  split
  · exact nextKeeps_next (h.frame rfl)
  · cases sd with
    | kitchen => exact hrow _ rfl
    | counter => exact hrow _ rfl

theorem State.InterlockLaw.step (h : s.InterlockLaw) : NextKeeps State.InterlockLaw (step s) := by
  unfold Machine.step
  split
  · exact State.InterlockLaw.exec (h.frame (by simp)) _
  · split
    · exact h.takeByte _ _
    · split
      · exact h.exec _
      · exact nextKeeps_next (h.frame rfl)

end Sys2Proof.Machine
end

section
/-! SUPPORT. Remembered requests looked at again (R124, R125): the answer to one, and the order in which those of a side
are taken. -/

namespace Sys2Proof.Machine

variable {s : State} {c : Nat}

/-! ## A kitchen request (R124) -/

/-- R124: a kitchen request of kind `k` is allowed in state `st`, and makes `p` the prior state. -/
def KitchenKind.Grants (k : KitchenKind) (st : CState) (p : Prior) : Prop :=
  (k = .attend ∧ ((st = .holding ∧ p = .holding) ∨ (st = .condemned ∧ p = .condemned)))
    ∨ (k = .reset ∧ st = .faulted ∧ p = .faulted)

theorem KitchenKind.grants_iff (k : KitchenKind) (st : CState) (p : Prior) :
    k.Grants st p ↔ k.grantedIn st = true ∧ st.asPrior = some p := by
  constructor
  · rintro (⟨rfl, ⟨rfl, rfl⟩ | ⟨rfl, rfl⟩⟩ | ⟨rfl, rfl, rfl⟩) <;> exact ⟨rfl, rfl⟩
  · rintro ⟨hk, hp⟩
    unfold KitchenKind.grantedIn at hk
    split at hk
    · cases hp
      exact .inl ⟨rfl, .inl ⟨rfl, rfl⟩⟩
    · cases hp
      exact .inl ⟨rfl, .inr ⟨rfl, rfl⟩⟩
    · cases hp
      exact .inr ⟨rfl, rfl, rfl⟩
    · cases hk

/-- Where a kitchen request is allowed the state has a prior state. -/
theorem KitchenKind.exists_grants {k : KitchenKind} {st : CState} (h : k.grantedIn st = true) :
    ∃ p, k.Grants st p := by
  have hprior : ∃ p, st.asPrior = some p := by
    unfold KitchenKind.grantedIn at h
    split at h
    · exact ⟨_, rfl⟩
    · exact ⟨_, rfl⟩
    · exact ⟨_, rfl⟩
    · cases h
  obtain ⟨p, hp⟩ := hprior
  exact ⟨p, (k.grants_iff st p).mpr ⟨h, hp⟩⟩

theorem reevalKitchen_of_none (h : (s.door c).kitchenReq = none) : s.reevalKitchen c = s := by
  simp [State.reevalKitchen, h]

section Kitchen

variable {q : KitchenRequest} (hq : (s.door c).kitchenReq = some q)
include hq

theorem reevalKitchen_of_holder (hheld : (s.door c).holder ≠ none) : s.reevalKitchen c = s := by
  simp [State.reevalKitchen, hq, Option.isSome_iff_ne_none.mpr hheld]

/-- An allowed request is granted where there is room. -/
theorem reevalKitchen_of_roomFor {p : Prior} (hallowed : q.kind.Grants (s.comp c).state p)
    (hroom : s.roomFor c .kitchen) :
    s.reevalKitchen c
      = State.notifyKitchen (.granted c) (State.suspend c (State.withSeize c .kitchen
          ((s.forget c .kitchen).modComp c fun r => { r with state := .attending, prior := some p }))) := by
  obtain ⟨hkind, hprior⟩ := (KitchenKind.grants_iff _ _ _).mp hallowed
  have hg := (seizeAnswer_eq_granted_iff s c .kitchen).mpr hroom
  obtain ⟨hnone, -⟩ := hroom
  have hentered := enterAttending_eq (s.forget c .kitchen) (c := c) (p := p) hprior
  simp [State.reevalKitchen, hq, hnone, hkind, hg, hentered]

/-- An allowed request waits for a holder or for room. -/
theorem reevalKitchen_of_not_roomFor (hallowed : q.kind.grantedIn (s.comp c).state = true)
    (hroom : ¬s.roomFor c .kitchen) : s.reevalKitchen c = s := by
  have hg : s.seizeAnswer c .kitchen ≠ .granted := fun hg => hroom ((seizeAnswer_eq_granted_iff s c .kitchen).mp hg)
  simp [State.reevalKitchen, hq, hallowed, hg]

/-- A request that the state no longer allows is removed. -/
theorem reevalKitchen_of_not_allowed (hnone : (s.door c).holder = none)
    (hallowed : ¬q.kind.grantedIn (s.comp c).state = true) :
    s.reevalKitchen c = (s.forget c .kitchen).notifyKitchen (.attendVoid c) := by
  simp [State.reevalKitchen, hq, hnone, hallowed]

end Kitchen

/-! ## A counter request (R124) -/

theorem reevalCounter_of_none (h : (s.door c).counterReq = none) : s.reevalCounter c = s := by
  simp [State.reevalCounter, h]

section Counter

variable {q : CounterRequest} (hq : (s.door c).counterReq = some q)
include hq

theorem reevalCounter_of_holder (hheld : (s.door c).holder ≠ none) : s.reevalCounter c = s := by
  simp [State.reevalCounter, hq, Option.isSome_iff_ne_none.mpr hheld]

/-- The collection of a meal still held under its tag is granted where there is room. -/
theorem reevalCounter_of_roomFor
    (hallowed : (s.comp c).state = .holding ∧ (s.comp c).meal.map Meal.tag = some q.tag)
    (hroom : s.roomFor c .counter) :
    s.reevalCounter c
      = State.notifyCounter (.granted c) (State.suspend c (State.withSeize c .counter
          ((s.forget c .counter).modComp c fun r => { r with state := .collecting }))) := by
  have hg := (seizeAnswer_eq_granted_iff s c .counter).mpr hroom
  obtain ⟨hnone, -⟩ := hroom
  simp only [State.reevalCounter, hq, hnone, hg, if_pos hallowed, Option.isSome_none, Bool.false_eq_true, if_false,
    if_true, State.grantCollection, grantSeize_eq]

theorem reevalCounter_of_not_roomFor
    (hallowed : (s.comp c).state = .holding ∧ (s.comp c).meal.map Meal.tag = some q.tag)
    (hroom : ¬s.roomFor c .counter) : s.reevalCounter c = s := by
  have hg : s.seizeAnswer c .counter ≠ .granted := fun hg => hroom ((seizeAnswer_eq_granted_iff s c .counter).mp hg)
  simp only [State.reevalCounter, hq, if_pos hallowed, hg, if_false, ite_self]

theorem reevalCounter_of_not_allowed (hnone : (s.door c).holder = none)
    (hallowed : ¬((s.comp c).state = .holding ∧ (s.comp c).meal.map Meal.tag = some q.tag)) :
    s.reevalCounter c = (s.forget c .counter).notifyCounter (.seeStaff c) := by
  simp only [State.reevalCounter, hq, hnone, if_neg hallowed, Option.isSome_none, Bool.false_eq_true, if_false]

end Counter

/-! ## Both requests of one compartment (R125, R128) -/

/-- The older request goes first; of two of one serial number the counter's. -/
theorem reevalBoth_of_stored {q : KitchenRequest} {n : CounterRequest} (hq : (s.door c).kitchenReq = some q)
    (hn : (s.door c).counterReq = some n) :
    s.reevalBoth c = if q.serial < n.serial then (s.reeval .kitchen c).reeval .counter c
      else (s.reeval .counter c).reeval .kitchen c := by
  simp [State.reevalBoth, State.requestOrder, hq, hn]

/-! ## The order of a side's requests (R125) -/

theorem placeOldest_perm (key : Nat → Nat) (c : Nat) (l : List Nat) : (placeOldest key c l).Perm (c :: l) := by
  induction l with
  | nil => exact .refl _
  | cons d ds ih =>
    unfold placeOldest
    split
    · exact .refl _
    · exact (ih.cons d).trans (.swap c d ds)

theorem placeOldest_pairwise (key : Nat → Nat) (c : Nat) {l : List Nat} (h : l.Pairwise fun a b => key a ≤ key b) :
    (placeOldest key c l).Pairwise fun a b => key a ≤ key b := by
  induction l with
  | nil => exact List.pairwise_singleton _ _
  | cons d ds ih =>
    obtain ⟨hd, hds⟩ := List.pairwise_cons.mp h
    unfold placeOldest
    split
    · next hlt =>
      exact List.pairwise_cons.mpr
        ⟨List.forall_mem_cons.mpr ⟨hlt.le, fun x hx => hlt.le.trans (hd x hx)⟩, h⟩
    · next hge =>
      refine List.pairwise_cons.mpr ⟨fun x hx => ?_, ih hds⟩
      rcases List.mem_cons.mp ((placeOldest_perm key c ds).mem_iff.mp hx) with rfl | hx
      · exact Nat.le_of_not_lt hge
      · exact hd x hx

theorem foldr_placeOldest_perm (key : Nat → Nat) (l : List Nat) : (l.foldr (placeOldest key) []).Perm l := by
  induction l with
  | nil => exact .refl _
  | cons c cs ih => exact (placeOldest_perm key c _).trans (ih.cons c)

theorem foldr_placeOldest_pairwise (key : Nat → Nat) (l : List Nat) :
    (l.foldr (placeOldest key) []).Pairwise fun a b => key a ≤ key b := by
  induction l with
  | nil => exact List.Pairwise.nil
  | cons c cs ih => exact placeOldest_pairwise key c ih

theorem requestsOf_perm (s : State) (sd : Side) :
    (s.requestsOf sd).Perm ((List.range s.doors.length).filter fun c => (s.requestOrder sd c).isSome) :=
  foldr_placeOldest_perm _ _

theorem requestsOf_nodup (s : State) (sd : Side) : (s.requestsOf sd).Nodup :=
  (requestsOf_perm s sd).nodup_iff.mpr (List.nodup_range.filter _)

theorem mem_requestsOf (s : State) (sd : Side) (d : Nat) :
    d ∈ s.requestsOf sd ↔ d < s.doors.length ∧ s.requestOrder sd d ≠ none := by
  rw [(requestsOf_perm s sd).mem_iff, List.mem_filter, List.mem_range, Option.isSome_iff_ne_none]

/-- No request of a side comes after a younger one. -/
theorem requestsOf_pairwise (s : State) (sd : Side) :
    (s.requestsOf sd).Pairwise fun a b =>
      ∀ x y, s.requestOrder sd a = some x → s.requestOrder sd b = some y → x ≤ y := by
  refine (foldr_placeOldest_pairwise _ _).imp fun hab x y hx hy => ?_
  simpa [hx, hy] using hab

end Sys2Proof.Machine
end

section
/-! SUPPORT. How a hold of a side ends (R118, R120 to R122): the three commands that end one, in the words of
Safety.lean. -/

namespace Sys2Proof.Machine

variable {s : State} {c : Nat} {v : State}

theorem reached_of_le {t : Option Time} {e now : Time} (ht : t = some e) (he : e ≤ now) : reached t now = true := by
  subst ht
  exact decide_eq_true he

/-- R122: the side LATCHED and the holder NONE, then the Compartment Table's change, then the requests. -/
theorem holdEnd_eq {sd : Side} {k : HoldEnd} (hv : HoldOutcome (s.holdOver c sd) c k v) :
    s.holdEnd c sd k
      = State.wake (State.reevalSide sd (State.reeval (otherSide sd) c ((s.holdOver c sd).shutIfEmptied v))) := by
  unfold State.holdEnd
  rw [holdOver_eq]
  dsimp only
  rw [tableHoldEnd_eq _ c k v hv]

theorem exec_releaseWindowLapse (hrun : s.running = true) {sd : Side} {e : Time}
    (hst : ((s.door c).side sd).state = .released) (hwindow : ((s.door c).side sd).windowEnd = some e)
    (he : e ≤ s.now) : exec (.releaseWindowLapse c sd) s = .next (s.holdEnd c sd .lapse).close := by
  refine congrArg Host.Outcome.next (if_pos ?_)
  simp [hrun, State.sideState, hst, reached_of_le hwindow he]

theorem exec_settleEnd (hrun : s.running = true) {sd : Side} {e : Time}
    (hst : ((s.door c).side sd).state = .settling) (hsettle : ((s.door c).side sd).settleEnd = some e)
    (he : e ≤ s.now) : exec (.settleEnd c sd) s = .next (s.holdEnd c sd (.settled (s.presence c))).close := by
  refine congrArg Host.Outcome.next (if_pos ?_)
  simp [hrun, State.sideState, hst, reached_of_le hsettle he]

/-- RELEASE past the common checks. -/
theorem exec_release (hk : s.takesKitchen) (hc : c < s.count) (hf : (s.comp c).state ≠ .faulted) :
    exec (.release 4 c) s = .next (s.clearKitchenPartial.decideRelease c).close :=
  congrArg Host.Outcome.next (takeKitchen_onCompartment s hk hc 3 4 (fun _ => hf) _)

/-- R121: RELEASE ends the kitchen's hold while the door has not been opened. -/
theorem decideRelease_of_released (hheld : (s.door c).holder = some .kitchen)
    (hst : (s.door c).kitchen.state = .released) :
    s.decideRelease c = (s.holdEnd c .kitchen .released).outcomeKitchen .accepted (some c) none := by
  simp [State.decideRelease, hheld, hst]

theorem decideRelease_refused (h : (s.door c).holder ≠ some .kitchen ∨ (s.door c).kitchen.state ≠ .released) :
    s.decideRelease c = s.outcomeKitchen .state (some c) none := by
  refine if_neg ?_
  simp only [Bool.and_eq_true, decide_eq_true_eq]
  exact not_and_or.mpr h

end Sys2Proof.Machine
end

section
/-! SUPPORT. The events of doors, ajar times and lapsed requests, in the words of Safety.lean (R114, R118 to R120, R126
to R128). -/

namespace Sys2Proof.Machine

variable {s : State} {c : Nat} {sd : Side}

/-! ## The input chain (R114) -/

/-- The sensor of a door, once the input chain has been sampled. -/
def State.doorSensor (s : State) (c : Nat) (sd : Side) : Option Debounced :=
  (s.inputs.recs[c]?).map fun r => r.door sd

theorem doorSensor_eq_some {x : Debounced} (h : s.doorSensor c sd = some x) :
    s.doorValue c sd = x.value ∧ s.doorChangeDue c sd = decide (3 ≤ x.run) := by
  obtain ⟨r, hr, rfl⟩ := Option.map_eq_some_iff.mp h
  simp only [State.doorValue, State.doorChangeDue, hr]
  cases sd <;> exact ⟨rfl, trivial⟩

theorem doorSensor_congr {u : State} (h : u.doorSensor c sd = s.doorSensor c sd) :
    u.doorValue c sd = s.doorValue c sd ∧ u.doorChangeDue c sd = s.doorChangeDue c sd := by
  cases hs : s.doorSensor c sd with
  | some x =>
    obtain ⟨hvalue, hdue⟩ := doorSensor_eq_some hs
    obtain ⟨hvalue', hdue'⟩ := doorSensor_eq_some (h.trans hs)
    exact ⟨hvalue'.trans hvalue.symm, hdue'.trans hdue.symm⟩
  | none =>
    have hrec := Option.map_eq_none_iff.mp hs
    have hrec' := Option.map_eq_none_iff.mp (h.trans hs)
    simp only [State.doorValue, State.doorChangeDue, hrec, hrec']
    exact ⟨trivial, trivial⟩

theorem exists_doorSensor (h : s.doorChangeDue c sd = true) : ∃ x, s.doorSensor c sd = some x := by
  unfold State.doorChangeDue at h
  unfold State.doorSensor
  cases hr : s.inputs.recs[c]? with
  | none => simp [hr] at h
  | some r => exact ⟨_, rfl⟩

/-- An input record after a door's change has been taken. -/
def InputRec.takeDoor (sd : Side) (r : InputRec) : InputRec :=
  match sd with
  | .kitchen => { r with kitchen := r.kitchen.flip }
  | .counter => { r with counter := r.counter.flip }

theorem door_takeDoor (sd : Side) (r : InputRec) : (r.takeDoor sd).door sd = (r.door sd).flip := by
  cases sd <;> rfl

theorem door_takeDoor_of_ne {sd sd' : Side} (hne : sd' ≠ sd) (r : InputRec) :
    (r.takeDoor sd).door sd' = r.door sd' := by
  rw [eq_otherSide_of_ne hne]
  cases sd <;> rfl

theorem presence_takeDoor (sd : Side) (r : InputRec) : (r.takeDoor sd).presence = r.presence := by
  cases sd <;> rfl

theorem takeDoorChange_recs (s : State) (c : Nat) (sd : Side) :
    (s.takeDoorChange c sd).inputs.recs = s.inputs.recs.modify c (InputRec.takeDoor sd) := by
  cases sd <;> rfl

theorem doorSensor_takeDoorChange_self :
    (s.takeDoorChange c sd).doorSensor c sd = (s.doorSensor c sd).map Debounced.flip := by
  simp only [State.doorSensor, takeDoorChange_recs, List.getElem?_modify]
  cases s.inputs.recs[c]? with
  | none => rfl
  | some r => simp [door_takeDoor]

theorem doorSensor_takeDoorChange_of_ne {d : Nat} {sd' : Side} (hne : d ≠ c ∨ sd' ≠ sd) :
    (s.takeDoorChange c sd).doorSensor d sd' = s.doorSensor d sd' := by
  simp only [State.doorSensor, takeDoorChange_recs, List.getElem?_modify]
  cases s.inputs.recs[d]? with
  | none => rfl
  | some r =>
    by_cases hcd : c = d
    · have hsd := hne.resolve_left fun h => h hcd.symm
      simp [hcd, door_takeDoor_of_ne hsd]
    · simp [hcd]

theorem presence_takeDoorChange (d : Nat) : (s.takeDoorChange c sd).presence d = s.presence d := by
  simp only [State.presence, takeDoorChange_recs, List.getElem?_modify]
  cases s.inputs.recs[d]? with
  | none => rfl
  | some r => by_cases hcd : c = d <;> simp [hcd, presence_takeDoor]

/-- A door's event takes the change of its value that is due, and no other (R114). -/
theorem takeDoorChange_inputs (hdue : s.doorChangeDue c sd = true) :
    (s.takeDoorChange c sd).doorValue c sd = (!s.doorValue c sd)
      ∧ (s.takeDoorChange c sd).doorChangeDue c sd = false := by
  obtain ⟨x, hx⟩ := exists_doorSensor hdue
  have hflip : (s.takeDoorChange c sd).doorSensor c sd = some x.flip := by
    rw [doorSensor_takeDoorChange_self, hx]
    rfl
  obtain ⟨hvalue, -⟩ := doorSensor_eq_some hx
  obtain ⟨hvalue', hdue'⟩ := doorSensor_eq_some hflip
  exact ⟨by rw [hvalue', hvalue]; rfl, hdue'⟩

/-! ## Sides -/

theorem modSide_eq_withSide (s : State) (c : Nat) (sd : Side) (f : SideRec → SideRec) :
    s.modSide c sd f = s.withSide c sd f := by
  cases sd <;> rfl

theorem open_eq_openedAt (sd : Side) (now : Time) : SideRec.open_ sd now = SideRec.openedAt sd now := by
  cases sd <;> rfl

/-! ## Door events (R118 to R120, R127, R128) -/

theorem State.DoorDue.opens (h : s.DoorDue c sd false) : s.opens c sd = true := by
  obtain ⟨hrun, hdue, hshown⟩ := h
  simp [State.opens, hrun, hdue, hshown]

theorem State.DoorDue.closes (h : s.DoorDue c sd true) : s.closes c sd = true := by
  obtain ⟨hrun, hdue, hshown⟩ := h
  simp [State.closes, hrun, hdue, hshown]

theorem exec_doorOpened (h : s.DoorDue c sd false) (hst : ((s.door c).side sd).state = .released) :
    exec (.doorOpened c sd) s
      = .next ((s.takeDoorChange c sd).withSide c sd (SideRec.openedAt sd s.now)) := by
  rw [← modSide_eq_withSide, ← open_eq_openedAt]
  exact congrArg Host.Outcome.next (if_pos (by simp [h.opens, State.sideState, hst]))

theorem exec_doorReopened (h : s.DoorDue c sd false) (hst : ((s.door c).side sd).state = .settling) :
    exec (.doorReopened c sd) s
      = .next ((s.takeDoorChange c sd).withSide c sd (SideRec.openedAt sd s.now)) := by
  rw [← modSide_eq_withSide, ← open_eq_openedAt]
  exact congrArg Host.Outcome.next (if_pos (by simp [h.opens, State.sideState, hst]))

theorem exec_doorClosed (h : s.DoorDue c sd true) (hst : ((s.door c).side sd).state = .opened)
    (hheld : (s.door c).holder = some sd) :
    exec (.doorClosed c sd) s = .next ((s.takeDoorChange c sd).withSide c sd (SideRec.close s.now)) := by
  rw [← modSide_eq_withSide]
  exact congrArg Host.Outcome.next (if_pos (by simp [h.closes, State.sideState, hst, hheld]))

theorem exec_forcedDoorClosed (h : s.DoorDue c sd true) (hst : ((s.door c).side sd).state = .opened)
    (hother : (s.door c).holder ≠ some sd) :
    exec (.forcedDoorClosed c sd) s
      = .next (State.close (State.wake
          (State.reevalBoth c ((s.takeDoorChange c sd).withSide c sd SideRec.latch)))) := by
  rw [← modSide_eq_withSide]
  exact congrArg Host.Outcome.next (if_pos (by simp [h.closes, State.sideState, hst, hother]))

theorem exec_doorForced (h : s.DoorDue c sd false) (hst : ((s.door c).side sd).state = .latched) :
    exec (.doorForced c sd) s = .next ((s.takeDoorChange c sd).forceDoor c sd).close :=
  congrArg Host.Outcome.next (if_pos (by simp [h.opens, State.sideState, hst]))

theorem takesForced_iff (r : CompRec) :
    r.takesForced = true
      ↔ r.state = .loading ∨ r.state = .collecting ∨ (r.state = .attending ∧ r.prior = some .holding) := by
  unfold CompRec.takesForced
  cases r.state <;> simp

/-- R14, R16: a forced door condemns in HOLDING and leaves the verdict pending where a hold goes on; which of them it is
can be read from any state with the same table. -/
theorem forcedReport_eq {t : State} (htable : t.comps.map CompRec.table = s.comps.map CompRec.table) (c : Nat) :
    t.forcedReport c
      = if (s.comp c).state = .holding then t.condemnedFor c .forced
        else if (s.comp c).state = .loading ∨ (s.comp c).state = .collecting
            ∨ ((s.comp c).state = .attending ∧ (s.comp c).prior = some .holding) then
          { t with comps := t.comps.modify c fun r => { r with condemn := some .forced } }
        else t := by
  have hcomp := comp_table_of_map htable c
  have hstate : (t.comp c).state = (s.comp c).state := (congrArg CompRec.state hcomp :)
  have hprior : (t.comp c).prior = (s.comp c).prior := (congrArg CompRec.prior hcomp :)
  unfold State.forcedReport
  simp only [takesForced_iff, hstate, hprior, condemn_eq]
  rfl

/-! ## Ajar times and lapses (R119, R126) -/

theorem exec_ajarTime (hrun : s.running = true) {e : Time} (hst : ((s.door c).side sd).state = .opened)
    (hajar : ((s.door c).side sd).ajarAt = some e) (he : e ≤ s.now)
    (hfresh : ((s.door c).side sd).ajarNoticed = false) :
    exec (.ajarTime c sd) s = .next (s.noticeAjar c sd).close :=
  congrArg Host.Outcome.next
    (if_pos (by simp [hrun, State.sideState, hst, reached_of_le hajar he, hfresh]))

theorem exec_waitLapse (hrun : s.running = true) {e : Time} (hlapse : s.lapseOf c sd = some e) (he : e ≤ s.now) :
    exec (.waitLapse c sd) s = .next (s.lapseRequest c sd).close :=
  congrArg Host.Outcome.next (if_pos (by simp [hrun, reached_of_le hlapse he]))

end Sys2Proof.Machine
end

section
/-! The statements about doors, latches and the holds of sides. -/

namespace Sys2Proof.Proofs

open Sys2Proof Sys2Proof.Machine

/-- Settles O57: every command, every byte taken and the clock's step keep the law of every door record and the
side counts. -/
theorem interlockInvariant : Obligations.InterlockInvariant := fun _ t h hs => h.step t hs

/-- Settles O48: each event that is due does what its operation does; a forced door's report is decided by the record's
table, which the suspension of its pulse leaves alone. -/
theorem doorEvents : Obligations.DoorEvents := by
  intro s c sd u
  refine ⟨fun hdue => ?taken, exec_doorOpened, exec_doorReopened, exec_doorClosed, fun hdue hst => ?forced,
    exec_forcedDoorClosed, fun e hrun hst hajar he hfresh => ?ajar, fun q hrun hq he => ?kitchenLapse,
    fun q hrun hq he => ?counterLapse⟩
  case taken =>
    obtain ⟨hvalue, hnotDue⟩ := takeDoorChange_inputs hdue
    exact ⟨rfl, hvalue, hnotDue, fun _ _ hne => doorSensor_congr (doorSensor_takeDoorChange_of_ne hne),
      presence_takeDoorChange⟩
  case forced =>
    intro w told
    have htold : w.forcedReport c = told := forcedReport_eq (suspend_table _ c) c
    rw [exec_doorForced hdue hst, ← htold]
    unfold State.forceDoor
    rw [modSide_eq_withSide, open_eq_openedAt]
    rfl
  case ajar =>
    rw [exec_ajarTime hrun hst hajar he hfresh]
    unfold State.noticeAjar
    rw [modSide_eq_withSide]
    cases sd <;> rfl
  case kitchenLapse =>
    have hlapse : s.lapseOf c .kitchen = some q.lapse := congrArg (Option.map KitchenRequest.lapse) hq
    exact exec_waitLapse hrun hlapse he
  case counterLapse =>
    have hlapse : s.lapseOf c .counter = some q.lapse := congrArg (Option.map CounterRequest.lapse) hq
    exact exec_waitLapse hrun hlapse he

/-- Settles O49: the three ends of a hold with the outcome of each, the refusal of RELEASE, and the last meal's
going. -/
theorem holdEnds : Obligations.HoldEnds := by
  refine ⟨fun s c sd v hrun => ⟨fun e hst hwindow he hv => ?lapse, fun e hst hsettle he hv => ?settle⟩,
    fun s c hk hc hf => ⟨fun v hheld hst hv => ?released, fun hq hnot => ?refused⟩,
    fun before after => ⟨fun hshut => if_pos hshut, fun hopen => if_neg hopen⟩⟩
  case lapse => rw [exec_releaseWindowLapse hrun hst hwindow he, holdEnd_eq hv]
  case settle => rw [exec_settleEnd hrun hst hsettle he, holdEnd_eq hv]
  case released =>
    rw [exec_release hk hc hf, decideRelease_of_released (s := s.clearKitchenPartial) hheld hst, holdEnd_eq hv]
    rfl
  case refused =>
    rw [exec_release hk hc hf, decideRelease_refused (s := s.clearKitchenPartial) hnot]
    exact congrArg Host.Outcome.next (close_replyKitchen s _ hq)

/-- Settles O50: by what is stored, the holder, what the state allows and the room; the order of a side's requests is
that of an insertion by serial number. -/
theorem reevaluation : Obligations.Reevaluation := by
  intro s c
  refine ⟨fun q hq => ?kitchen, fun q hq => ?counter, reevalKitchen_of_none, reevalCounter_of_none,
    fun q n hq hn => ?both, fun sd => ?order⟩
  case kitchen =>
    refine ⟨reevalKitchen_of_holder hq, fun p hp hroom => ?_, fun p hp hroom => ?_, fun hnone hall => ?_⟩
    · exact reevalKitchen_of_roomFor hq hp hroom
    · obtain ⟨hkind, -⟩ := (KitchenKind.grants_iff _ _ _).mp hp
      exact reevalKitchen_of_not_roomFor hq hkind hroom
    · refine reevalKitchen_of_not_allowed hq hnone fun hkind => ?_
      obtain ⟨p, hp⟩ := KitchenKind.exists_grants hkind
      exact hall p hp
  case counter =>
    exact ⟨reevalCounter_of_holder hq, reevalCounter_of_roomFor hq, reevalCounter_of_not_roomFor hq,
      reevalCounter_of_not_allowed hq⟩
  case both =>
    rw [reevalBoth_of_stored hq hn]
    exact ⟨fun hlt => if_pos hlt, fun hge => if_neg (Nat.not_lt.mpr hge)⟩
  case order => exact ⟨rfl, requestsOf_nodup s sd, mem_requestsOf s sd, requestsOf_pairwise s sd⟩

end Sys2Proof.Proofs
end

section
/-! SUPPORT. One reading of a compartment and each of its checks, in the words of R132, R133, R135 to R137 and R139: when a
check reports, and what it leaves in the reading record. -/

namespace Sys2Proof.Machine

variable {s : State} {c t : Nat} {r : Reading}

/-! ## Updates of one reading record -/

/-- Two updates of a list that agree on the element they meet are the same update. -/
theorem modify_congr_getD {α : Type} (l : List α) (c : Nat) (d : α) {f g : α → α}
    (h : f (l.getD c d) = g (l.getD c d)) : l.modify c f = l.modify c g := by
  apply List.ext_getElem?
  intro n
  simp only [List.getElem?_modify]
  by_cases hcn : c = n
  · subst hcn
    cases hn : l[c]? with
    | none => rfl
    | some a =>
      have ha : l.getD c d = a := by rw [List.getD_eq_getElem?_getD, hn, Option.getD_some]
      rw [ha] at h
      simp [h]
  · simp [hcn]

/-- Two updates of a reading record that agree on it are the same update of the state. -/
theorem modReading_congr {f g : ReadingRec → ReadingRec} (h : f (s.reading c) = g (s.reading c)) :
    s.modReading c f = s.modReading c g := by
  unfold State.modReading
  rw [modify_congr_getD s.readings c .blank h]

/-! ## What a sensor answers (R132) -/

theorem readingValue_value (ht : t ≤ 1200) : readingValue (.value t) = some t :=
  if_pos ⟨Int.natCast_nonneg t, Int.ofNat_le.mpr ht⟩

theorem readingValue_invalid (h : r = .noAnswer ∨ r = .invalidCode ∨ ∃ v, r = .value v ∧ (v < 0 ∨ 1200 < v)) :
    readingValue r = none := by
  obtain rfl | rfl | ⟨v, rfl, hv⟩ := h
  · rfl
  · rfl
  · exact if_neg (by omega)

/-! ## The slots of the rotation (R131) -/

theorem slotDue_of_le (hrun : s.running = true) (hdue : s.ssu.start + 250 * s.ssu.slot ≤ s.now) : s.slotDue = true :=
  Bool.and_eq_true_iff.mpr ⟨hrun, decide_eq_true hdue⟩

/-- R140: a due slot of a compartment position is used up and its reading scanned. -/
theorem exec_sensorReading (hdue : s.slotDue = true) (hpos : s.scanPosition < s.count) :
    exec (.sensorReading r) s = .next (s.nextSlot.scan s.scanPosition (readingValue r)).close :=
  congrArg Host.Outcome.next (if_pos (by simp [hdue, hpos]))

/-! ## The overheat check (R136) -/

theorem overheat_iff : s.overheat c t = true
    ↔ 950 < t ∨ ((s.comp c).state = .holding ∧ (s.mealClass (s.comp c)).ceiling + 150 < t) := by
  simp [State.overheat]

/-! ## The element comparison (R139) -/

theorem elementCheck_of_not_pending (h : (s.reading c).pending = false) : s.elementCheck c t = s := by
  simp [State.elementCheck, ReadingRec.weakReport, h]

/-- A comparison that finds the element strong. -/
theorem elementCheck_of_risen {f : Nat} (hp : (s.reading c).pending = true) (hf : (s.reading c).reference = some f)
    (ht : f + 5 ≤ t) : s.elementCheck c t = s.modReading c fun x => { x with weak := 0, pending := false } := by
  have hquiet : (s.reading c).weakReport t = false := by simp [ReadingRec.weakReport, hf, Nat.not_lt.mpr ht]
  have hcompare : s.modReading c (ReadingRec.compare t) = s.modReading c fun x => { x with weak := 0, pending := false } :=
    modReading_congr (by simp [ReadingRec.compare, hf, ht])
  simp only [State.elementCheck, hp, hquiet, if_true, Bool.false_eq_true, if_false, hcompare]

/-- A comparison that finds the element weak, the third in a row and each after it reported. -/
theorem elementCheck_of_weak {f : Nat} (hp : (s.reading c).pending = true) (hf : (s.reading c).reference = some f)
    (ht : t < f + 5) : s.elementCheck c t
      = if 3 ≤ (s.reading c).weak + 1
        then (s.modReading c fun x => { x with weak := min 3 (x.weak + 1), pending := false }).faultReport c .element
        else s.modReading c fun x => { x with weak := min 3 (x.weak + 1), pending := false } := by
  have hreport : (s.reading c).weakReport t = decide (3 ≤ (s.reading c).weak + 1) := by
    simp [ReadingRec.weakReport, hp, hf, ht]
  have hcompare : s.modReading c (ReadingRec.compare t)
      = s.modReading c fun x => { x with weak := min 3 (x.weak + 1), pending := false } :=
    modReading_congr (by simp [ReadingRec.compare, hf, Nat.not_le.mpr ht])
  simp only [State.elementCheck, hp, hreport, if_true, decide_eq_true_eq, hcompare]

/-! ## The cold-reading check (R137) -/

theorem isCold_iff : s.isCold c t = true ↔ (s.comp c).state = .holding ∧ (s.door c).kitchen.state = .latched
    ∧ (s.door c).counter.state = .latched ∧ t + 100 < (s.mealClass (s.comp c)).floor := by
  simp [State.isCold, State.coldApplies, DoorRec.bothLatched, and_assoc]

theorem coldCheck_of_not_cold (h : ¬s.isCold c t = true) :
    s.coldCheck c t = s.modReading c fun x => { x with cold := 0 } := by
  simp [State.coldCheck, h]

theorem coldCheck_of_first (h : s.isCold c t = true) (hfirst : (s.reading c).cold = 0) :
    s.coldCheck c t = s.modReading c fun x => { x with cold := x.cold + 1 } := by
  simp [State.coldCheck, h, hfirst]

/-- The second cold reading in a row: the compartment is HOLDING, so the report condemns it (R14). -/
theorem coldCheck_of_second (h : s.isCold c t = true) (hsecond : 1 ≤ (s.reading c).cold) :
    s.coldCheck c t = (s.condemnedFor c .coldReading).modReading c fun x => { x with cold := 0 } := by
  obtain ⟨hholding, -⟩ := isCold_iff.mp h
  have hcondemn : s.condemnReport c .coldReading = s.condemnedFor c .coldReading :=
    (if_pos hholding).trans (condemn_eq s c .coldReading)
  have hcount : ¬(s.reading c).cold + 1 < 2 := by omega
  simp only [State.coldCheck, h, hcount, hcondemn, Bool.not_true, Bool.false_eq_true, if_false]

end Sys2Proof.Machine
end

section
/-! SUPPORT. The ambient slot (R134), and the samples of the input chain (R114): what a sample does to a presence sensor, to
a door sensor with and without the doors acted on, and to the list of records. -/

namespace Sys2Proof.Machine

variable {s : State} {r : Reading} {d : Debounced} {x : Bool}

/-! ## The ambient slot (R134) -/

/-- R134: a due slot of the ambient position is used up, and its valid reading is the ambient. -/
theorem exec_ambientReading_valid (hdue : s.slotDue = true) (hpos : s.scanPosition = s.count) {t : Nat}
    (hv : readingValue r = some t) :
    exec (.ambientReading r) s = .next (s.nextSlot.modSsu fun u => { u with ambient := t }) := by
  show execAmbientReading r s = _
  simp [execAmbientReading, hdue, hpos, hv]

/-- R134: an invalid reading of the ambient leaves the value held and sets the flag. -/
theorem exec_ambientReading_invalid (hdue : s.slotDue = true) (hpos : s.scanPosition = s.count)
    (hv : readingValue r = none) :
    exec (.ambientReading r) s = .next (s.nextSlot.modSsu fun u => { u with ambientHeld := true }) := by
  show execAmbientReading r s = _
  simp [execAmbientReading, hdue, hpos, hv]

/-! ## One sensor at a sample (R114) -/

theorem sample_of_agrees (h : x = d.value) : d.sample x = { value := d.value, run := 0 } := by
  simp [Debounced.sample, h]

theorem sample_of_early (h : x ≠ d.value) (hrun : d.run < 2) : d.sample x = { value := d.value, run := d.run + 1 } := by
  simp [Debounced.sample, h, hrun]

theorem sample_of_third (h : x ≠ d.value) (hrun : 2 ≤ d.run) : d.sample x = { value := x, run := 0 } := by
  simp [Debounced.sample, h, hrun]

/-- While no change is due, a door sensor differs from the others only in leaving the third opposite sample's change to
the door's event (log 34). -/
theorem sampleDoor_of_run_lt (hrun : d.run < 3) :
    d.sampleDoor x = if x = d.value then { value := d.value, run := 0 } else { value := d.value, run := d.run + 1 } := by
  simp [Debounced.sampleDoor, Nat.not_le.mpr hrun]

theorem sampleDoor_of_agrees (hrun : d.run < 3) (h : x = d.value) : d.sampleDoor x = { value := d.value, run := 0 } :=
  (sampleDoor_of_run_lt hrun).trans (if_pos h)

theorem sampleDoor_of_opposite (hrun : d.run < 3) (h : x ≠ d.value) :
    d.sampleDoor x = { value := d.value, run := d.run + 1 } :=
  (sampleDoor_of_run_lt hrun).trans (if_neg h)

/-- A door sensor at a sample, acted on or not (R113, R168). -/
def Debounced.doorSample (acted : Bool) (x : Bool) (d : Debounced) : Debounced :=
  if acted then d.sampleDoor x else d.sample x

theorem sample_kitchen (acted : Bool) (q : InputRec) (x : InputSample) :
    (q.sample acted x).kitchen = q.kitchen.doorSample acted x.kitchenOpen := rfl

theorem sample_counter (acted : Bool) (q : InputRec) (x : InputSample) :
    (q.sample acted x).counter = q.counter.doorSample acted x.counterOpen := rfl

theorem doorSample_of_agrees (acted : Bool) (hrun : d.run < 3) (h : x = d.value) :
    d.doorSample acted x = { value := d.value, run := 0 } := by
  cases acted with
  | true => exact sampleDoor_of_agrees hrun h
  | false => exact sample_of_agrees h

theorem doorSample_of_early (acted : Bool) (hrun : d.run < 2) (h : x ≠ d.value) :
    d.doorSample acted x = { value := d.value, run := d.run + 1 } := by
  cases acted with
  | true => exact sampleDoor_of_opposite (by omega) h
  | false => exact sample_of_early h hrun

theorem doorSample_of_third_acted (hrun : d.run = 2) (h : x ≠ d.value) :
    d.doorSample true x = { value := d.value, run := 3 } := by
  have hopposite := sampleDoor_of_opposite (d := d) (by omega) h
  rwa [hrun] at hopposite

theorem doorSample_of_third (hrun : d.run = 2) (h : x ≠ d.value) : d.doorSample false x = { value := x, run := 0 } :=
  sample_of_third h (Nat.le_of_eq hrun.symm)

/-! ## Every compartment's sensors (R114) -/

/-- A record with a sample of its own is replaced by itself at that sample. -/
theorem sampleAll_getElem? (acted : Bool) {rs : List InputRec} {xs : List InputSample} {c : Nat} {q : InputRec}
    {x : InputSample} (hq : rs[c]? = some q) (hx : xs[c]? = some x) :
    (sampleAll acted rs xs)[c]? = some (q.sample acted x) := by
  induction rs generalizing xs c with
  | nil => cases hq
  | cons r rs ih =>
    cases xs with
    | nil => cases hx
    | cons y ys =>
      cases c with
      | zero =>
        cases hq
        cases hx
        rfl
      | succ c => exact ih hq hx

/-- R114: a sample that is due is taken, and the next is due 20 ms after it. -/
theorem exec_inputChainSample {xs : List InputSample} (hphase : s.sul.phase ≠ .resetAsserted)
    (hdue : s.inputs.next ≤ s.now) :
    exec (.inputChainSample xs) s = .next { s with inputs :=
      { recs := if s.inputs.recs = [] then xs.map InputRec.first else sampleAll s.running s.inputs.recs xs,
        next := s.now + 20 } } :=
  congrArg Host.Outcome.next (if_pos ⟨hphase, hdue⟩)

end Sys2Proof.Machine
end

section
/-! The statements about the Sensor Scan Unit and the input chain's samples. -/

namespace Sys2Proof.Proofs

open Sys2Proof Sys2Proof.Machine

/-- Settles O52: the slot's reading is recorded and scanned, and each check is decided at its bounds; a comparison reads the
reference of the record it updates, and a second cold reading finds the compartment HOLDING. -/
theorem sensorReading : Obligations.SensorReading := by
  refine ⟨fun s r hrun hdue hpos => ⟨fun hinvalid => ?invalid, fun t hr ht => ?valid⟩, fun u c t =>
    ⟨fun hhot => if_pos (overheat_iff.mpr hhot), fun hcalm => if_neg (mt overheat_iff.mp hcalm),
      elementCheck_of_not_pending, fun f hp hf => ⟨elementCheck_of_risen hp hf, elementCheck_of_weak hp hf⟩,
      fun hwarm => coldCheck_of_not_cold (mt isCold_iff.mp hwarm), fun hcold => coldCheck_of_first (isCold_iff.mpr hcold),
      fun hcold => coldCheck_of_second (isCold_iff.mpr hcold)⟩⟩
  case invalid =>
    rw [exec_sensorReading (slotDue_of_le hrun hdue) hpos, readingValue_invalid hinvalid]
    rfl
  case valid =>
    rw [exec_sensorReading (slotDue_of_le hrun hdue) hpos, hr, readingValue_value ht]
    rfl

/-- Settles O53: the ambient slot; then each record of the chain is itself at its sample, and each of its sensors goes by
the length of its run of opposite samples. -/
theorem ambientAndInputSample : Obligations.AmbientAndInputSample := by
  refine ⟨fun s r hrun hdue hpos => ⟨fun t hr ht => ?valid, fun hinvalid => ?invalid⟩, fun s xs hphase hdue =>
    ⟨_, exec_inputChainSample hphase hdue, rfl, fun hfirst => if_pos hfirst, fun hlater c q x hq hx => ?sampled⟩⟩
  case valid => exact exec_ambientReading_valid (slotDue_of_le hrun hdue) hpos (hr ▸ readingValue_value ht)
  case invalid => exact exec_ambientReading_invalid (slotDue_of_le hrun hdue) hpos (readingValue_invalid hinvalid)
  case sampled =>
    refine ⟨q.sample s.running x, ?_, sample_of_agrees, sample_of_early, sample_of_third, fun d x' d' hdoor hlt => ?door⟩
    · dsimp only
      rw [if_neg hlater]
      exact sampleAll_getElem? s.running hq hx
    case door =>
      have hd : d' = d.doorSample s.running x' := by
        obtain ⟨rfl, rfl, rfl⟩ | ⟨rfl, rfl, rfl⟩ := hdoor
        · exact sample_kitchen s.running q x
        · exact sample_counter s.running q x
      rw [hd]
      refine ⟨doorSample_of_agrees s.running hlt, fun hne hearly => doorSample_of_early s.running hearly hne,
        fun hne htwo => ⟨fun hrun => ?_, fun hrun => ?_⟩⟩
      · rw [hrun]
        exact doorSample_of_third_acted htwo hne
      · rw [hrun]
        exact doorSample_of_third htwo hne

end Sys2Proof.Proofs
end

section
/-! SUPPORT. Which rows are records of the two panel ports, what each asks for, and the common checks it passes first
(R144, R145, R147, R158). -/

namespace Sys2Proof.Machine

variable {s : State} {i : Instr} {k : Nat}

/-! ## Records of the Kitchen Port (R144, R145) -/

/-- What a kitchen row does once the port takes it. Rows that are no kitchen record ask for nothing. -/
def kitchenDecision : Instr → State → State
  | .load len tag code cls reach limit probe => State.decideLoad len tag code cls reach limit probe
  | .attend len c => State.onCompartment 2 len 4 c true true (State.unlessStored c (State.decideAttend c))
  | .compartmentReset len c => State.onCompartment 5 len 4 c true false (State.unlessStored c (State.decideReset c))
  | .release len c => State.onCompartment 3 len 4 c true true (State.decideRelease c)
  | .serviceOut len c dir => State.onCompartment 4 len 5 c (dir ≤ 1) true (State.decideService c .free .outOfService)
  | .serviceIn len c dir => State.onCompartment 4 len 5 c (dir ≤ 1) true (State.decideService c .outOfService .free)
  | .bankClose len => State.withoutFields len State.decideClose
  | .bankOpen len => State.withoutFields len State.decideOpen
  | .statusCompartment len c =>
    State.onCompartment 8 len 4 c true false fun t => t.replyKitchen (.comp (t.compStatus c))
  | .statusStation len => fun t =>
    if len ≠ 4 then t.outcomeKitchen .badField none none else t.replyKitchen (.station t.stationStatus)
  | .clearFaults len => State.withoutFields len fun t => t.clearSticky.outcomeKitchen .cleared none none
  | .whereTag len tag => fun t =>
    if len ≠ 6 || !tagOk tag then t.outcomeKitchen .badField none none
    else t.replyKitchen (.whereIs (t.whereOwn tag) (t.whereDir tag))
  | .kitchenUnknownKind _ => fun t => t.outcomeKitchen .badField none none
  | _ => id

/-- Every kitchen row goes through the port, under its kind. -/
theorem exec_of_kitchenKind (h : kitchenKind i = some k) (s : State) :
    exec i s = .next (s.takeKitchen k (kitchenDecision i)) := by
  cases i <;> cases h <;> rfl

/-- A request that the port takes, and whose decision is a reply and the change to `u`, is that change and that reply. -/
theorem exec_kitchen_answered {u : State} {r : KReply} (h : kitchenKind i = some k) (hk : s.takesKitchen)
    (hq : u.Quiet) (hd : kitchenDecision i s.clearKitchenPartial = u.clearKitchenPartial.replyKitchen r) :
    exec i s = .next (u.kitchenAnswered r) := by
  rw [exec_of_kitchenKind h, takeKitchen_taken s k _ hk, hd, close_replyKitchen u r hq]

/-! ## The common checks of kitchen requests (R20, R147) -/

theorem kitchenFormOk_iff :
    kitchenFormOk k i = true ↔ recordLength i = kitchenLength k ∧ kitchenFieldsOk i = true := by
  rw [kitchenFormOk, Bool.and_eq_true, decide_eq_true_eq]

section Compartment

variable {kind len want c : Nat} {form check : Bool} (next : State → State) (t : State)

theorem onCompartment_badForm (h : (decide (len = want) && form) = false) :
    t.onCompartment kind len want c form check next = t.outcomeKitchen .badField (namedComp kind len want c) none := by
  refine if_pos ?_
  simpa [imp_iff_not_or] using h

theorem onCompartment_formOk (hlen : len = want) (hform : form = true) :
    t.onCompartment kind len want c form check next = t.onCompartment kind len len c true check next := by
  rw [hlen, hform]

theorem onCompartment_unfitted (h : t.count ≤ c) :
    t.onCompartment kind len len c true check next = t.outcomeKitchen .badCompartment (some c) none := by
  rw [State.onCompartment, if_neg (by simp), if_pos h]

theorem onCompartment_faulted (hc : c < t.count) (hcheck : check = true) (hf : (t.comp c).state = .faulted) :
    t.onCompartment kind len len c true check next = t.outcomeKitchen .faulted (some c) none := by
  rw [State.onCompartment, if_neg (by simp), if_neg (Nat.not_le.mpr hc), if_pos (by simp [hcheck, hf])]

end Compartment

theorem withoutFields_badForm {len : Nat} (h : (decide (len = 3) && true) = false) (next : State → State) (t : State) :
    t.withoutFields len next = t.outcomeKitchen .badField none none := by
  refine if_pos ?_
  simpa using h

/-- R147, step 1: a record that fails its form is refused with BAD_FIELD, whatever it asks for. -/
theorem kitchenDecision_badForm (h : kitchenKind i = some k) (hform : kitchenFormOk k i = false) (t : State) :
    kitchenDecision i t = t.outcomeKitchen .badField (badFieldNames k i) none := by
  cases i with
  | load =>
    cases h
    refine if_pos ?_
    rw [loadForm_eq_kitchenFormOk, hform]
    rfl
  | attend | compartmentReset | release | serviceOut | serviceIn | statusCompartment =>
    cases h
    exact onCompartment_badForm _ t hform
  | bankClose | bankOpen =>
    cases h
    exact withoutFields_badForm hform _ t
  | clearFaults =>
    cases h
    exact withoutFields_badForm hform (fun u => u.clearSticky.outcomeKitchen .cleared none none) t
  | statusStation len =>
    cases h
    have hlen : len ≠ 4 := by simpa [kitchenFormOk, recordLength, kitchenLength, kitchenFieldsOk] using hform
    exact if_pos hlen
  | whereTag len tag =>
    cases h
    have hlen : (decide (len = 6) && tagOk tag) = false := hform
    refine if_pos ?_
    simpa [imp_iff_not_or] using hlen
  | kitchenUnknownKind =>
    cases h
    rfl
  | _ => cases h

/-- R147, steps 2 and 3: a row of right form that names a compartment has it checked next; kinds 2 to 4 are refused where
the compartment is FAULTED (R20). -/
theorem kitchenDecision_onCompartment (h : kitchenKind i = some k) (hform : kitchenFormOk k i = true) {len c : Nat}
    (hfield : compartmentField i = some (len, c)) :
    ∃ next, ∀ t, kitchenDecision i t = t.onCompartment k len len c true (k = 2 ∨ k = 3 ∨ k = 4) next := by
  obtain ⟨hlen, hfields⟩ := kitchenFormOk_iff.mp hform
  cases i with
  | attend | compartmentReset | release | serviceOut | serviceIn | statusCompartment =>
    cases h
    cases hfield
    exact ⟨_, fun t => onCompartment_formOk _ t hlen hfields⟩
  | _ => cases hfield

/-! ## Records of the Counter Port (R158) -/

/-- When the Counter Port is busy for a row. -/
def counterBusyFor : Instr → State → Bool
  | .cancel _ => State.cancelBusy
  | _ => State.counterBusy

/-- What a counter row does once the port takes it. Rows that are no counter record ask for nothing. -/
def counterDecision : Instr → State → State
  | .collect len tag code => State.decideCollect len tag code
  | .cancel len => State.decideCancel len
  | .counterUnknownKind _ => fun t => t.replyCounter .badField none
  | _ => id

/-- Every counter row goes through the port, under its kind. -/
theorem exec_of_counterKind (h : counterKind i = some k) (s : State) :
    exec i s = .next (s.takeCounter k (counterBusyFor i) (counterDecision i)) := by
  cases i <;> cases h <;> rfl

/-- While its reply is under way the port is busy for every row; in a lookup wait it is so for all but CANCEL. -/
theorem counterBusyFor_eq_true (h : counterKind i = some k)
    (hbusy : s.cp.replying = true ∨ (s.cdir.lookup.isSome = true ∧ k ≠ 2)) (hcancel : k = 2 → s.cdir.lookup = none) :
    counterBusyFor i s = true := by
  have hany : s.counterBusy = true := Bool.or_eq_true_iff.mpr (hbusy.imp id And.left)
  cases i with
  | collect => exact hany
  | counterUnknownKind => exact hany
  | cancel =>
    cases h
    have hreply : s.cp.replying = true := hbusy.resolve_right fun hwait => hwait.2 rfl
    simp [counterBusyFor, State.cancelBusy, hcancel rfl, hreply]
  | _ => cases h

theorem counterBusyFor_eq_false (h : s.counterBusy = false) (i : Instr) : counterBusyFor i s = false := by
  obtain ⟨hreply, -⟩ := Bool.or_eq_false_iff.mp h
  cases i with
  | cancel => simp [counterBusyFor, State.cancelBusy, hreply]
  | _ => exact h

/-- A request that the port takes and decides by a reply is that reply. -/
theorem exec_counter_answered {o : COutcome} {arg : Option Nat} (h : counterKind i = some k) (hk : s.takesCounter)
    (hq : s.Quiet) (hd : counterDecision i s.clearCounterPartial = s.clearCounterPartial.replyCounter o arg) :
    exec i s = .next (s.counterAnswered o arg) := by
  obtain ⟨hrun, hfree⟩ := hk
  have hfree' : s.clearCounterPartial.counterBusy = false := hfree
  rw [exec_of_counterKind h, takeCounter_taken s k _ _ hrun (counterBusyFor_eq_false hfree' i), hd,
    close_replyCounter s o arg hq]

theorem collectForm_eq_false {len tag code : Nat} (h : ¬(len = 8 ∧ 1 ≤ tag ∧ tag ≤ 999999 ∧ code ≤ 9999)) :
    collectForm len tag code = false := by
  rw [← Bool.not_eq_true]
  simpa [collectForm, tagOk, codeOk, and_assoc] using h

/-! ## When a port is busy (R145, R158) -/

theorem sendingReply_iff (tx : Option TxJob) : sendingReply tx = true ↔ ∃ j, tx = some j ∧ j.role ≠ .notice := by
  cases tx <;> simp [sendingReply]

theorem KitchenPort.busy_iff (p : KitchenPort) :
    p.busy = true ↔ p.replies ≠ [] ∨ p.busyReply ≠ none ∨ ∃ j, p.tx = some j ∧ j.role ≠ .notice := by
  rw [KitchenPort.busy, Bool.or_eq_true, Bool.or_eq_true, sendingReply_iff, or_assoc, Option.isSome_iff_ne_none]
  simp

theorem CounterPort.replying_iff (p : CounterPort) :
    p.replying = true ↔ p.replies ≠ [] ∨ ∃ j, p.tx = some j ∧ j.role = .reply := by
  rw [CounterPort.replying, Bool.or_eq_true, Option.any_eq_true]
  simp

end Sys2Proof.Machine
end

section
/-! SUPPORT. The gaps, receivers and transmitters of the two panel ports (R144, R146, R158, R175). -/

namespace Sys2Proof.Machine

variable {s : State}

/-! ## Gaps (R144) -/

theorem reached_of_lt {t : Option Time} {e now : Time} (ht : t = some e) (he : now < e) : reached t now = false := by
  subst ht
  exact decide_eq_false (Nat.not_le.mpr he)

theorem exec_kitchenGapExpiry_of_le {e : Time} (hgap : s.kp.receiver.gapEnd = some e) (he : e ≤ s.now) :
    exec .kitchenGapExpiry s = .next s.clearKitchenPartial :=
  congrArg Host.Outcome.next (if_pos (reached_of_le hgap he))

theorem exec_kitchenGapExpiry_of_lt {e : Time} (hgap : s.kp.receiver.gapEnd = some e) (he : s.now < e) :
    exec .kitchenGapExpiry s = .next s :=
  congrArg Host.Outcome.next (if_neg (by rw [reached_of_lt hgap he]; exact Bool.false_ne_true))

theorem exec_counterGapExpiry_of_le {e : Time} (hgap : s.cp.receiver.gapEnd = some e) (he : e ≤ s.now) :
    exec .counterGapExpiry s = .next s.clearCounterPartial :=
  congrArg Host.Outcome.next (if_pos (reached_of_le hgap he))

theorem exec_counterGapExpiry_of_lt {e : Time} (hgap : s.cp.receiver.gapEnd = some e) (he : s.now < e) :
    exec .counterGapExpiry s = .next s :=
  congrArg Host.Outcome.next (if_neg (by rw [reached_of_lt hgap he]; exact Bool.false_ne_true))

/-! ## Receivers (R144, R175) -/

/-- `Receiver.take` gathers as R144 says, for an outcome that does not tell a bad record from a byte dropped. -/
theorem gathers_of_take (bad : Instr) {row : Nat → Nat → List Byte → Instr} {now : Time} {b : Byte} {r : Receiver}
    {out : Receiver → Option Instr → Prop} (h : out (r.take bad row now b).1 (r.take bad row now b).2)
    (hbad : out .empty (some bad) → out .empty none) : Gathers now b r row out := by
  refine ⟨fun hg hlow hhigh => ?first, fun hg hlen => ?alone, fun len bs hg hlt => ?more, fun len bs hg hle => ?last⟩
  case first => rwa [take_first bad row now b r hg hlow hhigh] at h
  case alone =>
    rw [take_alone bad row now b r hg hlen] at h
    exact hbad h
  case more => rwa [take_more bad row now b r len bs hg hlt] at h
  case last =>
    rw [take_last bad row now b r len bs hg hle] at h
    refine ⟨fun hsum => hbad ?_, fun hsum => ?_⟩
    · rwa [recordRow, if_neg hsum] at h
    · rwa [recordRow, if_pos hsum] at h

theorem runRow_eq_arrives (row : Option Instr) (s : State) : State.runRow row s = Arrives row s := by
  cases row <;> rfl

/-- Nothing is received while reset is asserted: the byte leaves its line, and that is all. -/
theorem takeByte_resetAsserted (hp : s.sul.phase = .resetAsserted) (sd : Side) (b : Byte) :
    s.takeByte sd b = .next { s with rx := s.rx.next sd } :=
  if_pos hp

theorem next_kitchen_of_cons {l : RxLines} {x : RxByte} {xs : List RxByte} (h : l.kitchen = x :: xs) :
    l.next .kitchen = { l with kitchen := xs } := by
  rw [RxLines.next, h, List.tail_cons]

theorem next_counter_of_cons {l : RxLines} {x : RxByte} {xs : List RxByte} (h : l.counter = x :: xs) :
    l.next .counter = { l with counter := xs } := by
  rw [RxLines.next, h, List.tail_cons]

/-- The Kitchen Port's receiver gathers the byte at the head of its line. -/
theorem gathers_kitchen (hp : s.sul.phase ≠ .resetAsserted) (b : Byte) :
    Gathers s.now b s.kp.receiver kitchenRow fun r i =>
      s.takeByte .kitchen b = Arrives i { s with rx := s.rx.next .kitchen, kp := { s.kp with receiver := r } } := by
  refine gathers_of_take .kitchenBadRecord ?_ id
  rw [takeByte_kitchen s b hp, runRow_eq_arrives]
  rfl

/-- The Counter Port's receiver gathers the byte at the head of its line. -/
theorem gathers_counter (hp : s.sul.phase ≠ .resetAsserted) (b : Byte) :
    Gathers s.now b s.cp.receiver counterRow fun r i =>
      s.takeByte .counter b = Arrives i { s with rx := s.rx.next .counter, cp := { s.cp with receiver := r } } := by
  refine gathers_of_take .counterBadRecord ?_ id
  rw [takeByte_counter s b hp, runRow_eq_arrives]
  rfl

/-! ## Transmitters (R146, R158) -/

/-- A freed kitchen transmitter takes its next record within the event. -/
theorem exec_kitchenTxDone (hp : s.sul.phase ≠ .resetAsserted) :
    exec .kitchenTxDone s = .next { s with
      kp := KitchenPort.takeNext { s.kp with tx := none }, cp := s.cp.pump s.cdir.lookup.isSome } :=
  congrArg Host.Outcome.next (if_neg hp)

/-- A freed counter transmitter does so too. -/
theorem exec_counterTxDone (hp : s.sul.phase ≠ .resetAsserted) :
    exec .counterTxDone s = .next { s with
      kp := s.kp.pump, cp := CounterPort.takeNext s.cdir.lookup.isSome { s.cp with tx := none } } :=
  congrArg Host.Outcome.next (if_neg hp)

section Kitchen

variable {p : KitchenPort}

theorem KitchenPort.takeNext_reply {r : KReply} {rs : List KReply} (h : p.replies = r :: rs) :
    p.takeNext = { p with replies := rs, tx := some { role := .reply, bytes := r.bytes } } := by
  simp only [KitchenPort.takeNext, h]

theorem KitchenPort.takeNext_busyReply {k : Nat} (h : p.replies = []) (hbusy : p.busyReply = some k) :
    p.takeNext = { p with busyReply := none,
                          tx := some { role := .busyReply,
                                       bytes := (KReply.outcome .busy none (some k)).bytes } } := by
  simp only [KitchenPort.takeNext, h, hbusy]

theorem KitchenPort.takeNext_notice {n : KNotice} {ns : List KNotice} (h : p.replies = []) (hbusy : p.busyReply = none)
    (hn : p.notices = n :: ns) :
    p.takeNext = { p with notices := ns, tx := some { role := .notice, bytes := n.bytes } } := by
  simp only [KitchenPort.takeNext, h, hbusy, hn]

theorem KitchenPort.takeNext_nothing (h : p.replies = []) (hbusy : p.busyReply = none) (hn : p.notices = []) :
    p.takeNext = p := by
  simp only [KitchenPort.takeNext, h, hbusy, hn]

end Kitchen

section Counter

variable {p : CounterPort}

theorem CounterPort.takeNext_reply (waiting : Bool) {r : CReply} {rs : List CReply} (h : p.replies = r :: rs) :
    p.takeNext waiting = { p with replies := rs, tx := some { role := .reply, bytes := r.bytes } } := by
  simp only [CounterPort.takeNext, h]

theorem CounterPort.takeNext_busyReply {k : Nat} (h : p.replies = []) (hbusy : p.busyReply = some k) :
    p.takeNext false = { p with busyReply := none,
                                tx := some { role := .busyReply, bytes := (CReply.mk .busy (some k)).bytes } } := by
  simp [CounterPort.takeNext, h, hbusy]

/-- A BUSY reply that waits behind a lookup wait is passed over. -/
theorem CounterPort.takeNext_notice {waiting : Bool} {n : CNotice} {ns : List CNotice} (h : p.replies = [])
    (hbusy : p.busyReply = none ∨ waiting = true) (hn : p.notices = n :: ns) :
    p.takeNext waiting = { p with notices := ns, tx := some { role := .notice, bytes := n.bytes } } := by
  rcases hbusy with hbusy | rfl <;> simp [CounterPort.takeNext, *]

theorem CounterPort.takeNext_nothing {waiting : Bool} (h : p.replies = [])
    (hbusy : p.busyReply = none ∨ waiting = true) (hn : p.notices = []) : p.takeNext waiting = p := by
  rcases hbusy with hbusy | rfl <;> simp [CounterPort.takeNext, *]

end Counter

end Sys2Proof.Machine
end

section
/-! SUPPORT. The figures of the STATUS and WHERE replies, in the words of R153 to R155. -/

namespace Sys2Proof.Machine

/-! ## STATUS of a compartment (R16, R46, R153) -/

theorem holdRemaining_eq (r : CompRec) (now : Time) :
    r.holdRemaining now = match r.meal, r.holdStart with
      | none, _ => 0
      | some m, some h => (m.limit * 1000 - (now - h)) / 1000
      | some m, none => if r.state = .loading then m.limit else Config.unstartedRemaining m.limit := by
  unfold CompRec.holdRemaining
  cases r.meal <;> cases r.holdStart <;> rfl

/-- A verdict `b` is pending in the states in which a forced door does not condemn yet. -/
theorem takesForced_and_eq (r : CompRec) (b : Bool) :
    (r.takesForced && b) = (b && (r.state = .loading || r.state = .collecting
      || (r.state = .attending && r.prior = some .holding))) := by
  rw [Bool.eq_iff_iff, Bool.and_eq_true, Bool.and_eq_true, takesForced_iff]
  simp [and_comm, or_assoc]

/-- The seconds of a lockout that stands, 0 of one that does not. -/
theorem lockoutSeconds_eq (lockoutEnd : Option Time) (now : Time) :
    (match lockoutEnd with
      | some e => lockoutLeft e now
      | none => 0)
      = match lockoutEnd with
        | none => 0
        | some e => max 1 ((e - now + 999) / 1000) := by
  cases lockoutEnd <;> rfl

theorem pulseReport_eq (p : Option Pulse) :
    pulseReport p = match p with
      | none => .noPulse
      | some { state := .running ch, planned := l, run := n, start := _ } => .running ch l n
      | some { state := .suspended, planned := l, run := n, start := _ } => .suspended (l - n) := by
  rcases p with _ | ⟨_ | _, _, _, _⟩ <;> rfl

/-! ## STATUS of the station (R69, R70, R154) -/

theorem foldl_minMargin_some (l : List PeerEntry) (a : Nat) :
    l.foldl (fun m e => minMargin m e.margin) (some a) = some ((l.filterMap PeerEntry.margin).foldl min a) := by
  induction l generalizing a with
  | nil => rfl
  | cons e es ih =>
    rw [List.foldl_cons]
    cases he : e.margin with
    | none => rw [List.filterMap_cons_none he]; exact ih a
    | some x => rw [List.filterMap_cons_some he]; exact ih (min a x)

/-- The peers' margin is the least of those that are present. -/
theorem foldl_minMargin_none (l : List PeerEntry) :
    l.foldl (fun m e => minMargin m e.margin) none = (l.filterMap PeerEntry.margin).min? := by
  induction l with
  | nil => rfl
  | cons e es ih =>
    rw [List.foldl_cons]
    cases he : e.margin with
    | none => rw [List.filterMap_cons_none he]; exact ih
    | some x => rw [List.filterMap_cons_some he, List.min?_cons']; exact foldl_minMargin_some es x

theorem foldl_minMargin_eq_some_iff (l : List PeerEntry) (v : Nat) :
    l.foldl (fun m e => minMargin m e.margin) none = some v
      ↔ (∃ e ∈ l, e.margin = some v) ∧ ∀ e ∈ l, ∀ x, e.margin = some x → v ≤ x := by
  rw [foldl_minMargin_none, List.min?_eq_some_iff]
  simp only [List.mem_filterMap]
  exact and_congr_right fun _ => ⟨fun h e he x hx => h x ⟨e, he, hx⟩, fun h x ⟨e, he, hx⟩ => h e he x hx⟩

/-- What a station shows does not depend on the Kitchen Port's receiver. -/
theorem stationStatus_clearKitchenPartial (s : State) : s.clearKitchenPartial.stationStatus = s.stationStatus := by
  have hqueue : s.clearKitchenPartial.dueQueue = s.dueQueue := dueQueue_congr rfl
  unfold State.stationStatus
  rw [hqueue]
  rfl

/-! ## WHERE (R155) -/

variable {s : State} {tag : Nat}

theorem not_tagOk (h : tag = 0 ∨ 999999 < tag) : tagOk tag = false := by
  rw [← Bool.not_eq_true, tagOk, Bool.and_eq_true, decide_eq_true_eq, decide_eq_true_eq]
  omega

theorem whereOwn_eq_none_iff : s.whereOwn tag = none ↔ ∀ r ∈ s.comps, r.meal.map Meal.tag ≠ some tag := by
  rw [State.whereOwn, Option.map_eq_none_iff]
  exact findTag_eq_none_iff s tag

/-- The record found for a tag is fitted and holds it. -/
theorem comp_tag_of_findTag {c : Nat} (h : s.findTag tag = some c) : c < s.count ∧ (s.comp c).tag = some tag := by
  obtain ⟨hc, htag, -⟩ := List.findIdx?_eq_some_iff_getElem.mp h
  refine ⟨hc, ?_⟩
  rw [State.comp, List.getD_eq_getElem _ _ hc]
  exact of_decide_eq_true htag

theorem whereOwn_eq_some {o : WhereOwn} (h : s.whereOwn tag = some o) :
    o.comp < s.count ∧ (s.comp o.comp).tag = some tag ∧ o.state = (s.comp o.comp).state := by
  obtain ⟨c, hfind, rfl⟩ := Option.map_eq_some_iff.mp h
  obtain ⟨hc, htag⟩ := comp_tag_of_findTag hfind
  exact ⟨hc, htag, rfl⟩

theorem whereDir_eq_none_iff : s.whereDir tag = none ↔ ∀ e ∈ s.cdir.entries, e.tag ≠ tag := by
  rw [State.whereDir, Option.map_eq_none_iff]
  exact find_eq_none_iff s.cdir tag

theorem whereDir_eq_some {d : WhereDir} (h : s.whereDir tag = some d) :
    ∃ e ∈ s.cdir.entries, e.tag = tag ∧ d.station = e.station ∧ d.comp = e.comp ∧ d.cls = e.cls
      ∧ d.seconds = (s.now - e.heard) / 1000 := by
  obtain ⟨e, hfind, rfl⟩ := Option.map_eq_some_iff.mp h
  have htag : e.tag = tag := by simpa using List.find?_some hfind
  exact ⟨e, List.mem_of_find?_eq_some hfind, htag, rfl, rfl, rfl, rfl⟩

end Sys2Proof.Machine
end

section
/-! The statements about the Kitchen Port and what the two panel ports share. -/

namespace Sys2Proof.Proofs

open Sys2Proof Sys2Proof.Machine

/-- Settles O9: every record goes through its port, whose answer outside service, and in service while it is busy, does
not depend on what the record asks for. -/
theorem portsThatTakeNoRequest : Obligations.PortsThatTakeNoRequest := by
  refine ⟨fun i k s hi => ⟨fun hp => ?kitchenCold, fun cause hp => ?kitchenFault⟩,
    fun i k s hi => ⟨fun hp => ?counterCold, fun cause hp => ?counterFault⟩,
    fun i k s hi hrun hq hbusy => ?kitchenBusy, fun i k s hi hrun hq hbusy hcancel => ?counterBusy,
    KitchenPort.busy_iff, CounterPort.replying_iff⟩
  case kitchenCold =>
    rw [exec_of_kitchenKind hi, takeKitchen_coldStart s k _ hp]
    rfl
  case kitchenFault => rw [exec_of_kitchenKind hi, takeKitchen_configFault s k _ cause hp]
  case counterCold =>
    rw [exec_of_counterKind hi, takeCounter_coldStart s k _ _ hp]
    rfl
  case counterFault => rw [exec_of_counterKind hi, takeCounter_configFault s k _ _ cause hp]
  case kitchenBusy => rw [exec_of_kitchenKind hi, takeKitchen_busy s k _ hrun hbusy, close_busyKitchen s k hq]
  case counterBusy =>
    have hbusy' : counterBusyFor i s.clearCounterPartial = true := counterBusyFor_eq_true hi hbusy hcancel
    rw [exec_of_counterKind hi, takeCounter_busy s k _ _ hrun hbusy', close_busyCounter s k hq]

/-- Settles O10: a bad record and a gap's end empty the receiver, each byte is gathered by `Receiver.take`, and a freed
transmitter takes what `takeNext` finds first. -/
theorem receiversAndTransmitters : Obligations.ReceiversAndTransmitters := by
  intro s
  refine ⟨rfl, rfl, fun e he => ⟨exec_kitchenGapExpiry_of_le he, exec_kitchenGapExpiry_of_lt he⟩,
    fun e he => ⟨exec_counterGapExpiry_of_le he, exec_counterGapExpiry_of_lt he⟩, fun x xs hx => ?kitchenByte,
    fun x xs hx => ?counterByte, fun hp => ⟨⟨_, exec_kitchenTxDone hp, rfl, ?kitchenTx⟩,
      ⟨_, exec_counterTxDone hp, rfl, ?counterTx⟩⟩⟩
  case kitchenByte =>
    rw [← next_kitchen_of_cons hx]
    exact ⟨fun hp => takeByte_resetAsserted hp _ _, fun hp => gathers_kitchen hp _⟩
  case counterByte =>
    rw [← next_counter_of_cons hx]
    exact ⟨fun hp => takeByte_resetAsserted hp _ _, fun hp => gathers_counter hp _⟩
  case kitchenTx =>
    exact ⟨fun r rs h => KitchenPort.takeNext_reply h, fun k h hbusy => KitchenPort.takeNext_busyReply h hbusy,
      fun n ns h hbusy hn => KitchenPort.takeNext_notice h hbusy hn,
      fun h hbusy hn => KitchenPort.takeNext_nothing h hbusy hn⟩
  case counterTx =>
    have hwaits (h : s.cp.busyReply = none ∨ s.cdir.lookup ≠ none) :
        s.cp.busyReply = none ∨ s.cdir.lookup.isSome = true := h.imp_right Option.isSome_iff_ne_none.mpr
    refine ⟨fun r rs h => CounterPort.takeNext_reply _ h, fun k h hbusy hlookup => ?_,
      fun n ns h hbusy hn => CounterPort.takeNext_notice h (hwaits hbusy) hn,
      fun h hbusy hn => CounterPort.takeNext_nothing h (hwaits hbusy) hn⟩
    rw [hlookup]
    exact CounterPort.takeNext_busyReply h hbusy

/-- Settles O11: the form decides first, then the count, then R20; each refusal is a reply and nothing else. -/
theorem commonChecks : Obligations.CommonChecks := by
  refine ⟨fun i k s hi hk hq => ⟨fun hform => ?form, fun len c hform hfield => ?compartment⟩,
    fun s kind hk hq => exec_kitchen_answered (k := kind) rfl hk hq rfl, fun s hk hq =>
      ⟨fun len tag code hbad => exec_counter_answered rfl hk hq (if_pos ?collect),
        fun len hlen => exec_counter_answered rfl hk hq (if_pos hlen),
        fun kind => exec_counter_answered (k := kind) rfl hk hq rfl⟩⟩
  case form => exact exec_kitchen_answered hi hk hq (kitchenDecision_badForm hi hform _)
  case compartment =>
    obtain ⟨next, hnext⟩ := kitchenDecision_onCompartment hi hform hfield
    refine ⟨fun hc => ?_, fun hc hf hkind => ?_⟩
    · exact exec_kitchen_answered hi hk hq ((hnext _).trans (onCompartment_unfitted next s.clearKitchenPartial hc))
    · exact exec_kitchen_answered hi hk hq
        ((hnext _).trans (onCompartment_faulted next s.clearKitchenPartial hc (decide_eq_true hkind) hf))
  case collect => rw [collectForm_eq_false hbad, Bool.not_false]

/-- Settles O20: the sticky flags are Cleared before the reply is given, and the reply reads none of them. -/
theorem clearFaultsClearsStickyFlags : Obligations.ClearFaultsClearsStickyFlags := by
  intro s hk hq
  exact exec_kitchen_answered rfl hk (quiet_of_psc hq rfl) rfl

/-- Settles O21: the reply is `compStatus` of the compartment, field by field that of R153. -/
theorem statusOfCompartment : Obligations.StatusOfCompartment := by
  intro s c hk hq hc r d
  have hdecide : kitchenDecision (.statusCompartment 4 c) s.clearKitchenPartial
      = s.clearKitchenPartial.replyKitchen (.comp (s.compStatus c)) :=
    onCompartment_passed s.clearKitchenPartial hc 8 4 (by simp) _
  refine (exec_kitchen_answered rfl hk hq hdecide).trans
    (congrArg (fun st => Host.Outcome.next (s.kitchenAnswered (.comp st))) ?_)
  simp only [State.compStatus, CompStatus.mk.injEq, State.due, State.urgent, r, d, true_and]
  exact ⟨holdRemaining_eq _ _, takesForced_and_eq _ _, pulseReport_eq _, lockoutSeconds_eq _ _⟩

/-- Settles O22: the reply is `stationStatus`, whose peer margin is the least one present and whose headroom counts the
draws of the live entries. -/
theorem statusOfStation : Obligations.StatusOfStation := by
  intro s hk hq
  refine ⟨_, foldl_minMargin_eq_some_iff _, ?_⟩
  rw [← peerDraw_eq_sum_live]
  have hdecide : kitchenDecision (.statusStation 4) s.clearKitchenPartial
      = s.clearKitchenPartial.replyKitchen (.station s.stationStatus) :=
    congrArg (fun st => s.clearKitchenPartial.replyKitchen (.station st)) (stationStatus_clearKitchenPartial s)
  exact exec_kitchen_answered rfl hk hq hdecide

/-- Settles O23: the own part is the record found for the tag, the directory part the entry found for it. -/
theorem whereReply : Obligations.WhereReply := by
  refine fun s tag hk hq => ⟨fun hbad => ?refused, fun hlow hhigh => ?answered⟩
  case refused => exact exec_kitchen_answered rfl hk hq (if_pos (by rw [not_tagOk hbad]; rfl))
  case answered =>
    refine ⟨s.whereOwn tag, s.whereDir tag, ?_, whereOwn_eq_none_iff, fun o ho => whereOwn_eq_some ho,
      whereDir_eq_none_iff, fun d hd => whereDir_eq_some hd⟩
    exact exec_kitchen_answered rfl hk hq (if_neg (by rw [tagOk_eq_true hlow hhigh]; exact Bool.false_ne_true))

end Sys2Proof.Proofs
end

section
/-! SUPPORT. What the Counter Port makes of a COLLECT whose tag a record holds, and of a CANCEL (R159 to R162). -/

namespace Sys2Proof.Machine

variable {s : State} {c tag code : Nat}

/-! ## Requests that the port takes (R158) -/

/-- R159: a well-formed COLLECT of a tag that a record holds is that record's. -/
theorem exec_collect_record (ht : s.takesCounter) (hlow : 1 ≤ tag) (hhigh : tag ≤ 999999) (hcode : code ≤ 9999)
    (hfind : s.findTag tag = some c) :
    exec (.collect 8 tag code) s = .next (s.clearCounterPartial.collectRecord c tag code).close := by
  obtain ⟨hrun, hfree⟩ := ht
  have hform : collectForm 8 tag code = true := by simp [collectForm, tagOk, codeOk, hlow, hhigh, hcode]
  have hfind' : s.clearCounterPartial.findTag tag = some c := hfind
  have hdecide : s.clearCounterPartial.decideCollect 8 tag code = s.clearCounterPartial.collectRecord c tag code := by
    simp [State.decideCollect, hform, hfind']
  rw [← hdecide]
  exact congrArg Host.Outcome.next (takeCounter_taken s 1 _ _ hrun hfree)

/-! ## The record's state (R159) -/

theorem collectRecord_loading (h : (s.comp c).state = .loading) :
    s.collectRecord c tag code = s.replyCounter .notReady none := by
  simp [State.collectRecord, h]

theorem collectRecord_collecting (h : (s.comp c).state = .collecting) :
    s.collectRecord c tag code = s.replyCounter .busy none := by
  simp [State.collectRecord, h]

/-- CONDEMNED and FAULTED, also while the kitchen attends, are for the staff. -/
theorem collectRecord_staff
    (h : (s.comp c).state = .condemned ∨ (s.comp c).state = .faulted
      ∨ ((s.comp c).state = .attending ∧ ((s.comp c).prior = some .condemned ∨ (s.comp c).prior = some .faulted))) :
    s.collectRecord c tag code = s.replyCounter .seeStaff none := by
  rcases h with hst | hst | ⟨hst, hprior | hprior⟩ <;> simp [State.collectRecord, *]

/-- R159, the meal states: HOLDING, also while the kitchen attends. -/
def CompRec.inMealState (r : CompRec) : Prop := r.state = .holding ∨ (r.state = .attending ∧ r.prior = some .holding)

theorem collectRecord_of_inMealState (h : (s.comp c).inMealState) :
    s.collectRecord c tag code
      = if (s.door c).counterReq.isSome then s.replyCounter .busy none else s.codeCheck c tag code := by
  rcases h with hst | ⟨hst, hprior⟩
  · simp [State.collectRecord, hst]
  · simp [State.collectRecord, hst, hprior]

theorem collectRecord_stored (h : (s.comp c).inMealState) (hreq : (s.door c).counterReq ≠ none) :
    s.collectRecord c tag code = s.replyCounter .busy none := by
  rw [collectRecord_of_inMealState h, if_pos (Option.isSome_iff_ne_none.mpr hreq)]

theorem collectRecord_codeCheck (h : (s.comp c).inMealState) (hreq : (s.door c).counterReq = none) :
    s.collectRecord c tag code = s.codeCheck c tag code := by
  rw [collectRecord_of_inMealState h, hreq]
  rfl

/-! ## The code check (R160) -/

theorem codeCheck_lockedOut {e : Time} (h : (s.comp c).lockoutEnd = some e) :
    s.codeCheck c tag code = s.replyCounter .lockedOut (some (max 1 ((e - s.now + 999) / 1000))) := by
  simp only [State.codeCheck, h, lockoutLeft]

/-- The wrong-code count of `c` zeroed, as a right code does before the holder decides. -/
def State.zeroWrongCount (c : Nat) (s : State) : State := s.modComp c fun r => { r with wrongCount := 0 }

theorem state_zeroWrongCount (hc : c < s.count) : ((s.zeroWrongCount c).comp c).state = (s.comp c).state := by
  rw [State.zeroWrongCount, comp_modComp_self s c _ hc]

section Unlocked

variable (hopen : (s.comp c).lockoutEnd = none)
include hopen

theorem codeCheck_wrong (hcode : (s.comp c).meal.map Meal.code ≠ some code) (hcount : (s.comp c).wrongCount < 2) :
    s.codeCheck c tag code
      = (s.modComp c fun r => { r with wrongCount := r.wrongCount + 1 }).replyCounter .wrongCode
          (some (3 - ((s.comp c).wrongCount + 1))) := by
  simp only [State.codeCheck, hopen, if_neg hcode, if_pos (Nat.succ_lt_succ hcount)]

/-- The third wrong code starts the lockout of 60 s. -/
theorem codeCheck_locks (hcode : (s.comp c).meal.map Meal.code ≠ some code) (hcount : 2 ≤ (s.comp c).wrongCount) :
    s.codeCheck c tag code
      = (s.modComp c fun r => { r with wrongCount := 0, lockoutEnd := some (s.now + 60000) }).replyCounter .wrongCode
          (some 0) := by
  simp only [State.codeCheck, hopen, if_neg hcode, if_neg (Nat.not_lt.mpr (Nat.succ_le_succ hcount)), Config.lockout]

theorem codeCheck_right (hcode : (s.comp c).meal.map Meal.code = some code) :
    s.codeCheck c tag code = (s.zeroWrongCount c).rightCode c tag := by
  simp only [State.codeCheck, hopen, if_pos hcode, State.zeroWrongCount]

end Unlocked

theorem exec_lockoutEnd {e : Time} (hrun : s.running = true) (he : (s.comp c).lockoutEnd = some e) (hover : e ≤ s.now) :
    exec (.lockoutEnd c) s = .next (s.modComp c fun r => { r with lockoutEnd := none }) :=
  congrArg Host.Outcome.next (if_pos (running_and_reached hrun he hover))

/-! ## The right code (R161) -/

/-- R10: the collection of a HOLDING meal, granted where there is room. -/
theorem rightCode_of_roomFor (hst : (s.comp c).state = .holding) (hroom : s.roomFor c .counter) :
    s.rightCode c tag
      = State.replyCounter .opened (some c)
          (State.suspend c (State.withSeize c .counter (s.modComp c fun r => { r with state := .collecting }))) := by
  have hg := (seizeAnswer_eq_granted_iff s c .counter).mpr hroom
  obtain ⟨hnone, -⟩ := hroom
  simp [State.rightCode, hst, hnone, hg, State.grantCollection, grantSeize_eq]

theorem rightCode_of_not_roomFor (hst : (s.comp c).state = .holding) (hnone : (s.door c).holder = none)
    (hroom : ¬s.roomFor c .counter) : s.rightCode c tag = s.replyCounter .busy none := by
  have hg : s.seizeAnswer c .counter ≠ .granted := fun hg => hroom ((seizeAnswer_eq_granted_iff s c .counter).mp hg)
  simp [State.rightCode, hst, hnone, hg]

/-- R123: while the kitchen holds the doors the request is remembered. -/
theorem rightCode_of_kitchen (hheld : (s.door c).holder = some .kitchen) :
    s.rightCode c tag = (s.rememberCounter c tag).replyCounter .wait none := by
  simp [State.rightCode, hheld]

/-! ## A suspension and the Counter Port (R56) -/

section Suspend

variable (s : State) (c : Nat) (f : CounterPort → CounterPort)

theorem release_modCp : (s.modCp f).release c = (s.release c).modCp f := by
  have hconn : (s.modCp f).connected c = s.connected c := rfl
  unfold State.release
  rw [hconn]
  split <;> rfl

theorem setEst_modCp (e : Option Estimate) : (s.modCp f).setEst c e = (s.setEst c e).modCp f := by
  have hcomp : (s.modCp f).comp c = s.comp c := rfl
  simp only [State.setEst, hcomp]
  split <;> rfl

theorem creditPoint_modCp : (s.modCp f).creditPoint c = (s.creditPoint c).modCp f := by
  have hcomp : (s.modCp f).comp c = s.comp c := rfl
  unfold State.creditPoint
  rw [hcomp]
  cases (s.comp c).est with
  | none => rfl
  | some e => exact setEst_modCp s c f _

theorem suspendPulse_modCp (p : Pulse) : (s.modCp f).suspendPulse c p = (s.suspendPulse c p).modCp f := by
  unfold State.suspendPulse State.endPulse
  rw [release_modCp, creditPoint_modCp]
  split <;> rfl

/-- A suspension and a change of the Counter Port do not touch each other. -/
theorem suspend_modCp : (s.modCp f).suspend c = (s.suspend c).modCp f := by
  have hrun : (s.modCp f).runningPulse c = s.runningPulse c := rfl
  unfold State.suspend
  rw [hrun]
  cases s.runningPulse c with
  | none => rfl
  | some p => exact suspendPulse_modCp s c f p

theorem suspend_clearCounterPartial :
    s.clearCounterPartial.suspend c = (s.suspend c).clearCounterPartial := suspend_modCp s c _

end Suspend

/-- A collection granted after the count is zeroed is one change of the record, and the receiver is no part of it. -/
theorem granted_zeroWrongCount (s : State) (c : Nat) :
    State.suspend c (State.withSeize c .counter
        ((s.zeroWrongCount c).clearCounterPartial.modComp c fun r => { r with state := .collecting }))
      = State.clearCounterPartial (State.suspend c (State.withSeize c .counter
          { s with comps := s.comps.modify c fun r => { r with state := .collecting, wrongCount := 0 } })) := by
  have hrecord : (s.zeroWrongCount c).clearCounterPartial.modComp c (fun r => { r with state := .collecting })
      = State.clearCounterPartial
          { s with comps := s.comps.modify c fun r => { r with state := .collecting, wrongCount := 0 } } :=
    congrArg (fun l => { s.clearCounterPartial with comps := l }) (modify_modify s.comps c _ _)
  rw [hrecord]
  exact suspend_clearCounterPartial (State.withSeize c .counter
    { s with comps := s.comps.modify c fun r => { r with state := .collecting, wrongCount := 0 } }) c

/-! ## CANCEL (R162) -/

/-- A CANCEL of right form is taken in a lookup wait, and where no reply is under way. -/
theorem exec_cancel (hrun : s.running = true) (hfree : s.cdir.lookup ≠ none ∨ s.cp.replying = false) :
    exec (.cancel 3) s = .next (s.clearCounterPartial.decideCancel 3).close := by
  have hbusy : s.clearCounterPartial.cancelBusy = false := by
    change (s.cdir.lookup.isNone && s.cp.replying) = false
    rcases hfree with hwait | hidle
    · simp [hwait]
    · simp [hidle]
  exact congrArg Host.Outcome.next (takeCounter_taken s 2 _ _ hrun hbusy)

theorem decideCancel_lookup (h : s.cdir.lookup ≠ none) :
    s.decideCancel 3 = (s.modCdir fun d => { d with lookup := none }).replyCounter .cancelled none := by
  simp [State.decideCancel, State.endLookup, Option.isSome_iff_ne_none, h]

theorem decideCancel_request (hl : s.cdir.lookup = none) (h : s.latestCounterRequest = some c) :
    s.decideCancel 3 = (s.forget c .counter).replyCounter .cancelled (some c) := by
  simp [State.decideCancel, hl, h]

theorem decideCancel_nothing (hl : s.cdir.lookup = none) (h : s.latestCounterRequest = none) :
    s.decideCancel 3 = s.replyCounter .nothingPending none := by
  simp [State.decideCancel, hl, h]

/-! ## The counter request remembered last (R126, R162) -/

/-- A compartment with a request stored has a door record. -/
theorem lt_length_of_counterReq (h : (s.door c).counterReq ≠ none) : c < s.doors.length := by
  by_contra hc
  refine h ?_
  rw [State.door, List.getD_eq_default _ _ (Nat.le_of_not_lt hc)]
  rfl

theorem mem_requestsOf_counter : c ∈ s.requestsOf .counter ↔ (s.door c).counterReq ≠ none := by
  rw [mem_requestsOf]
  simp only [State.requestOrder, ne_eq, Option.map_eq_none_iff]
  exact ⟨And.right, fun h => ⟨lt_length_of_counterReq h, h⟩⟩

theorem latestCounterRequest_eq_none (h : ∀ d, (s.door d).counterReq = none) : s.latestCounterRequest = none :=
  List.getLast?_eq_none_iff.mpr (List.eq_nil_iff_forall_not_mem.mpr fun d hd => mem_requestsOf_counter.mp hd (h d))

/-- The list of requests is oldest first, so that one remembered after all others ends it. -/
theorem latestCounterRequest_eq_some {q : CounterRequest} (hq : (s.door c).counterReq = some q)
    (hlast : ∀ d q', d ≠ c → (s.door d).counterReq = some q' → q'.serial < q.serial) :
    s.latestCounterRequest = some c := by
  have hmem : c ∈ s.requestsOf .counter := mem_requestsOf_counter.mpr (by simp [hq])
  have hne : s.requestsOf .counter ≠ [] := List.ne_nil_of_mem hmem
  obtain ⟨q', hq'⟩ := Option.ne_none_iff_exists'.mp (mem_requestsOf_counter.mp (List.getLast_mem hne))
  have hle : q.serial ≤ q'.serial :=
    (requestsOf_pairwise s .counter).rel_getLast_of_rel_getLast_getLast hmem
      (fun x y hx hy => (Option.some.inj (hx.symm.trans hy)).le) _ _
      (by simp [State.requestOrder, hq]) (by simp [State.requestOrder, hq'])
  have heq : (s.requestsOf .counter).getLast hne = c := by
    by_contra hother
    exact absurd (hlast _ q' hother hq') (Nat.not_lt.mpr hle)
  rw [State.latestCounterRequest, List.getLast?_eq_some_getLast hne, heq]

end Sys2Proof.Machine
end

section
/-! The statements about the Counter Port. -/

namespace Sys2Proof.Proofs

open Sys2Proof Sys2Proof.Machine

/-- Settles O24: the record found is the one that holds the tag; its state decides, then the stored request, then the
lockout and the code. -/
theorem collectAnsweredByRecordAndCode : Obligations.CollectAnsweredByRecordAndCode := by
  refine ⟨fun s tag code c ht hq hlow hhigh hcode hc htag hone => ?state,
    fun s tag code c m ht hq hlow hhigh hcode hc hm hmtag hone hst hreq => ?code,
    fun s c e hrun he hover => exec_lockoutEnd hrun he hover⟩
  case state =>
    rw [exec_collect_record ht hlow hhigh hcode (findTag_eq_some hc htag hone)]
    refine ⟨fun hst => ?_, fun hst => ?_, fun hst => ?_, fun hst hreq => ?_⟩
    · rw [collectRecord_loading (s := s.clearCounterPartial) hst, close_replyCounter s _ _ hq]
    · rw [collectRecord_staff (s := s.clearCounterPartial) hst, close_replyCounter s _ _ hq]
    · rw [collectRecord_collecting (s := s.clearCounterPartial) hst, close_replyCounter s _ _ hq]
    · rw [collectRecord_stored (s := s.clearCounterPartial) hst hreq, close_replyCounter s _ _ hq]
  case code =>
    have htag : (s.comp c).tag = some tag := by simp [hm, hmtag]
    have hwrong (hne : code ≠ m.code) : (s.comp c).meal.map Meal.code ≠ some code := by simpa [hm] using hne.symm
    have hcomp : s.clearCounterPartial.comp c = s.comp c := rfl
    rw [exec_collect_record ht hlow hhigh hcode (findTag_eq_some hc htag hone),
      collectRecord_codeCheck (s := s.clearCounterPartial) hst hreq]
    refine ⟨fun e he => ?_, fun hopen hne hcount => ?_, fun hopen hne hcount => ?_⟩
    · rw [codeCheck_lockedOut (s := s.clearCounterPartial) he, clearCounterPartial_now, close_replyCounter s _ _ hq]
    · rw [codeCheck_wrong (s := s.clearCounterPartial) hopen (hwrong hne) hcount, hcomp]
      exact congrArg Host.Outcome.next (close_replyCounter
        (s.modComp c fun r => { r with wrongCount := r.wrongCount + 1 }) _ _ (quiet_of_psc hq rfl))
    · rw [codeCheck_locks (s := s.clearCounterPartial) hopen (hwrong hne) hcount]
      exact congrArg Host.Outcome.next (close_replyCounter
        (s.modComp c fun r => { r with wrongCount := 0, lockoutEnd := some (s.now + 60000) }) _ _ (quiet_of_psc hq rfl))

/-- Settles O25: the count is zeroed first, then the holder decides; neither touches the port's receiver. -/
theorem rightCode : Obligations.RightCode := by
  intro s tag code c m ht hq hlow hhigh hcode hc hm hmtag hmcode hone hreq hopen
  have htag : (s.comp c).tag = some tag := by simp [hm, hmtag]
  have hright : (s.comp c).meal.map Meal.code = some code := by simp [hm, hmcode]
  have hdecided (hst : (s.comp c).inMealState) :
      exec (.collect 8 tag code) s = .next ((s.zeroWrongCount c).clearCounterPartial.rightCode c tag).close := by
    rw [exec_collect_record ht hlow hhigh hcode (findTag_eq_some hc htag hone),
      collectRecord_codeCheck (s := s.clearCounterPartial) hst hreq,
      codeCheck_right (s := s.clearCounterPartial) hopen hright]
    rfl
  have hstate : ((s.zeroWrongCount c).clearCounterPartial.comp c).state = (s.comp c).state := state_zeroWrongCount hc
  refine ⟨fun hst hroom => ?granted, fun hst hnone hroom => ?noRoom, fun hst hprior hheld => ?remembered⟩
  case granted =>
    rw [hdecided (.inl hst), rightCode_of_roomFor (hstate.trans hst) hroom, granted_zeroWrongCount]
  case noRoom =>
    rw [hdecided (.inl hst), rightCode_of_not_roomFor (hstate.trans hst) hnone hroom]
    exact congrArg Host.Outcome.next (close_replyCounter _ _ _ (quiet_of_psc hq rfl))
  case remembered =>
    rw [hdecided (.inr ⟨hst, hprior⟩), rightCode_of_kitchen (s := (s.zeroWrongCount c).clearCounterPartial) hheld]
    exact congrArg Host.Outcome.next
      (close_replyCounter ((s.zeroWrongCount c).rememberCounter c tag) _ _ (quiet_of_psc hq rfl))

/-- Settles O27: the lookup wait comes first, then the request that ends the list of those stored. -/
theorem cancel : Obligations.Cancel := by
  intro s hrun hq
  refine ⟨fun l hl => ?lookup, fun c q hl hidle hreq hlast => ?request, fun hl hidle hnone => ?nothing⟩
  case lookup =>
    have hwait : s.cdir.lookup ≠ none := by simp [hl]
    rw [exec_cancel hrun (.inl hwait), decideCancel_lookup (s := s.clearCounterPartial) hwait]
    exact congrArg Host.Outcome.next
      (close_replyCounter (s.modCdir fun d => { d with lookup := none }) _ _ (quiet_of_psc hq rfl))
  case request =>
    have hlatest : s.latestCounterRequest = some c := latestCounterRequest_eq_some hreq hlast
    rw [exec_cancel hrun (.inr hidle), decideCancel_request (s := s.clearCounterPartial) hl hlatest]
    exact congrArg Host.Outcome.next (close_replyCounter (s.forget c .counter) _ _ (quiet_of_psc hq rfl))
  case nothing =>
    have hlatest : s.latestCounterRequest = none := latestCounterRequest_eq_none hnone
    rw [exec_cancel hrun (.inr hidle), decideCancel_nothing (s := s.clearCounterPartial) hl hlatest,
      close_replyCounter s _ _ hq]

end Sys2Proof.Proofs
end

section
/-! SUPPORT. Start-up: what reset leaves, the reads of the configuration memory and their checks, and the end of start-up
(R165 to R169). -/

namespace Sys2Proof.Machine

variable {s : State} {r : ConfigRec}

/-! ## Reset (R165) -/

/-- Reset is the start of a cold start with nothing before it. -/
theorem coldStart_reset : State.reset.coldStart = State.reset := rfl

/-- While reset is asserted every position of the output chain is deasserted. -/
theorem outputChain_resetAsserted (hp : s.sul.phase = .resetAsserted) :
    (∀ l ∈ s.outputChain.latches, l = (false, false)) ∧ (∀ e ∈ s.outputChain.enables, e = false)
      ∧ ∀ c ∈ s.outputChain.selects, c = none := by
  rw [State.outputChain, if_pos hp]
  simp

/-! ## The configuration memory (R166, R167) -/

section Reads

variable {read first second : ConfigRead} {bs : List Byte}

theorem readRecord_of_silent (h : ReadSilent read) : readRecord read = .error .noAnswer := by
  rcases h with rfl | ⟨bs, rfl, hlen⟩
  · rfl
  · exact if_pos hlen

theorem readRecord_of_badSum (h : ReadBadSum read) : readRecord read = .error .badSum := by
  obtain ⟨bs, rfl, hlen, hsum⟩ := h
  exact (if_neg (Nat.not_lt.mpr hlen)).trans (if_neg hsum)

theorem readRecord_of_good (h : ReadGood read bs) : readRecord read = .ok (configOf bs) := by
  obtain ⟨rfl, hlen, hsum⟩ := h
  exact (if_neg (Nat.not_lt.mpr hlen)).trans (if_pos hsum)

theorem readRecord_of_failed (h : ReadSilent read ∨ ReadBadSum read) : ∃ e, readRecord read = .error e :=
  h.elim (fun hs => ⟨_, readRecord_of_silent hs⟩) fun hb => ⟨_, readRecord_of_badSum hb⟩

theorem structureOk_iff (r : ConfigRec) : r.structureOk = true ↔ r.InRanges := by
  simp [ConfigRec.structureOk, ConfigRec.InRanges, and_assoc]

theorem courtOk_iff (r : ConfigRec) : r.courtOk = true ↔ r.FitsCourt := by
  rw [ConfigRec.courtOk, ConfigRec.FitsCourt, ConfigRec.share, ConfigRec.wAvail]
  simp only [Bool.and_eq_true, decide_eq_true_iff, and_assoc]

/-- With both reads failed the cause is the second's. -/
theorem checkConfig_of_failed (hfirst : ReadSilent first ∨ ReadBadSum first) {e : ReadFailure}
    (hsecond : readRecord second = .error e) : checkConfig first second = .error e.cause := by
  obtain ⟨e', he'⟩ := readRecord_of_failed hfirst
  simp only [checkConfig, he', hsecond]

/-- The record of the first good read is checked, its structure before the court. -/
theorem checkConfig_of_recordRead (h : RecordRead first second bs) :
    checkConfig first second
      = if !(configOf bs).structureOk then .error .structural
        else if !(configOf bs).courtOk then .error .court else .ok (configOf bs) := by
  rcases h with hgood | ⟨hfailed, hgood⟩
  · simp only [checkConfig, readRecord_of_good hgood]
  · obtain ⟨e, he⟩ := readRecord_of_failed hfailed
    simp only [checkConfig, he, readRecord_of_good hgood]

theorem checkConfig_badStructure (h : RecordRead first second bs) (hbad : ¬(configOf bs).InRanges) :
    checkConfig first second = .error .structural := by
  rw [checkConfig_of_recordRead h, if_pos]
  rwa [Bool.not_eq_true', ← Bool.not_eq_true, structureOk_iff]

theorem checkConfig_badCourt (h : RecordRead first second bs) (hranges : (configOf bs).InRanges)
    (hbad : ¬(configOf bs).FitsCourt) : checkConfig first second = .error .court := by
  rw [checkConfig_of_recordRead h, (structureOk_iff _).mpr hranges, if_neg (by simp), if_pos]
  rwa [Bool.not_eq_true', ← Bool.not_eq_true, courtOk_iff]

theorem checkConfig_passed (h : RecordRead first second bs) (hranges : (configOf bs).InRanges)
    (hfits : (configOf bs).FitsCourt) : checkConfig first second = .ok (configOf bs) := by
  rw [checkConfig_of_recordRead h, (structureOk_iff _).mpr hranges, (courtOk_iff _).mpr hfits]
  rfl

theorem exec_configReadDone_refused (hp : s.sul.phase = .coldStart) {cause : FaultCause}
    (h : checkConfig first second = .error cause) :
    exec (.configReadDone first second) s = .next { s with sul := { s.sul with phase := .configFault cause } } := by
  show execConfigReadDone first second s = _
  rw [execConfigReadDone, if_pos hp, h]
  rfl

theorem exec_configReadDone_passed (hp : s.sul.phase = .coldStart) (h : checkConfig first second = .ok r) :
    exec (.configReadDone first second) s = .next (s.endOfStartUp r) := by
  show execConfigReadDone first second s = _
  rw [execConfigReadDone, if_pos hp, h]

end Reads

/-! ## Service and line mode at the end of start-up (R96, R170) -/

theorem occupied_atColdStart (present : Bool) : (CompRec.atColdStart present).occupied = present := by
  cases present <;> rfl

/-- A meal found at the end of start-up makes a compartment occupied, and nothing else does. -/
theorem setUpTables_occupiedCount_eq_zero_iff (s : State) (r : ConfigRec) :
    (s.setUpTables r).occupiedCount = 0 ↔ ¬∃ c < r.count, s.presence c = true := by
  simp [State.occupiedCount, State.setUpTables, List.countP_eq_zero, occupied_atColdStart]

theorem setUpTables_firstService (s : State) (r : ConfigRec) :
    (s.setUpTables r).firstService
      = if r.startShut = false then .serving
        else if ∃ c < r.count, s.presence c = true then .windingDown else .shut := by
  have hcfg : (s.setUpTables r).cfg = r := rfl
  rw [State.firstService, hcfg]
  simp only [setUpTables_occupiedCount_eq_zero_iff, ite_not, Bool.not_eq_true']

theorem firstLineMode_eq_lif (s : State) : s.firstLineMode = { s with lif := s.firstLineMode.lif } := by
  unfold State.firstLineMode
  split
  · rfl
  · unfold State.queueDraw State.queueNote
    (repeat' split) <;> rfl

theorem firstLineMode_alone (h : s.cfg.courtSize = 1) : s.firstLineMode.lif = { s.lif with mode := some .court } := by
  rw [State.firstLineMode, if_pos h]
  rfl

/-- In a court the station is JOINING, with its three timers set and HELLO(fresh) queued behind the first DRAW. -/
theorem firstLineMode_joining (hrun : s.running = true) (h : s.cfg.courtSize ≠ 1) (hlif : s.lif = .cold) :
    s.firstLineMode.lif = { s.lif with
      mode := some .joining, drawAt := some (s.now + 1000), joiningAt := some (s.now + 2000),
      silenceAt := some (s.now + 2000), queue := [⟨.draw, 1⟩, ⟨.hello .fresh s.courtParams, 0⟩], stamp := 2 } := by
  rw [State.firstLineMode, if_neg h, queueNote_of_room, queueDraw_of_takesFrames]
  · simp only [modLif_lif, hlif]
    rfl
  · exact (takesFrames_iff _).mpr ⟨hrun, h, _, rfl, nofun⟩
  · exact (takesFrames_iff _).mpr ⟨hrun, h, _, rfl, nofun⟩
  · simp [hlif, Lif.noteCount, Lif.cold]

/-! ## Notices and records in order -/

/-- A port with the notice `n` told (R146). -/
def KitchenPort.noticed (k : KitchenPort) (n : KNotice) : KitchenPort :=
  if k.notices.length < Config.kitchenNotices then { k with notices := k.notices ++ [n] }
  else { k with noticeLost := true }

theorem notifyKitchen_eq_noticed (n : KNotice) (s : State) : s.notifyKitchen n = s.modKp fun k => k.noticed n := rfl

/-- Of the notices told in order, those up to the sixteenth are held, and a further one is lost. -/
theorem foldl_noticed (ns : List KNotice) (k : KitchenPort) (hroom : k.notices.length ≤ 16) :
    ns.foldl KitchenPort.noticed k = { k with
      notices := k.notices ++ ns.take (16 - k.notices.length),
      noticeLost := k.noticeLost || decide (16 < k.notices.length + ns.length) } := by
  induction ns generalizing k with
  | nil => simp [Nat.not_lt.mpr hroom]
  | cons n ns ih =>
    rw [List.foldl_cons]
    by_cases hfull : k.notices.length < 16
    · have htold : k.noticed n = { k with notices := k.notices ++ [n] } := if_pos hfull
      have hleft : 16 - k.notices.length = (16 - (k.notices.length + 1)) + 1 := by omega
      rw [htold, ih _ (by simpa using hfull), hleft]
      simp [Nat.add_right_comm, Nat.add_assoc]
    · have htold : k.noticed n = { k with noticeLost := true } := if_neg hfull
      have hleft : 16 - k.notices.length = 0 := by omega
      have hmany : 16 < k.notices.length + (ns.length + 1) := by omega
      rw [htold, ih { k with noticeLost := true } hroom, hleft]
      simp [hmany]

/-- Each record of a table modified once, by its index. -/
theorem foldl_modify_replicate {α : Type} (f : Nat → α → α) (n : Nat) (a : α) :
    (List.range n).foldl (fun xs i => xs.modify i (f i)) (List.replicate n a) = (List.range n).map fun i => f i a := by
  have hentry (k i : Nat) : ((List.range k).foldl (fun xs i => xs.modify i (f i)) (List.replicate n a))[i]?
      = if i < k then ((List.replicate n a)[i]?).map (f i) else (List.replicate n a)[i]? := by
    induction k with
    | zero => simp
    | succ k ih =>
      rw [List.range_succ, List.foldl_append, List.foldl_cons, List.foldl_nil, List.getElem?_modify, ih]
      grind
  refine List.ext_getElem? fun i => ?_
  rw [hentry, List.getElem?_map]
  by_cases hi : i < n <;> simp [hi]

/-! ## The doors at the end of start-up (R113, R127) -/

/-- No record set up from the presence input has a hold to be suspended or condemned (R2). -/
theorem forceDoor_atColdStart {c : Nat} {present : Bool} (h : s.comp c = CompRec.atColdStart present) (sd : Side) :
    s.forceDoor c sd = (s.modSide c sd (SideRec.open_ sd s.now)).notifyKitchen (.doorForced c sd) := by
  have hc : (s.modSide c sd (SideRec.open_ sd s.now)).comp c = CompRec.atColdStart present := h
  have hrun : (s.modSide c sd (SideRec.open_ sd s.now)).runningPulse c = none := by
    rw [State.runningPulse, hc]
    cases present <;> rfl
  have hforced : (s.modSide c sd (SideRec.open_ sd s.now)).forcedReport c = s.modSide c sd (SideRec.open_ sd s.now) := by
    rw [State.forcedReport, hc]
    cases present <;> rfl
  rw [State.forceDoor, suspend_of_not_running _ c hrun, hforced]

/-- A side as it is found: OPEN when its door shows open, else as it was. -/
def State.foundSide (s : State) (c : Nat) (sd : Side) (q : SideRec) : SideRec :=
  if s.doorValue c sd then q.open_ sd s.now else q

theorem foundSide_latchedNew (s : State) (c : Nat) (sd : Side) :
    s.foundSide c sd .latchedNew = s.sideAtStart c sd := rfl

/-- The door table `ds` after side `x` has been examined. -/
def State.examined (s : State) (ds : List DoorRec) (x : Nat × Side) : List DoorRec :=
  ds.modify x.1 fun d => d.modSide x.2 (s.foundSide x.1 x.2)

theorem examined_of_shut {x : Nat × Side} (h : ¬s.doorValue x.1 x.2 = true) (ds : List DoorRec) :
    s.examined ds x = ds := by
  have hside : (fun d : DoorRec => d.modSide x.2 (s.foundSide x.1 x.2)) = id := by
    funext d
    cases hsd : x.2 <;> simp [DoorRec.modSide, State.foundSide, ← hsd, h]
  rw [State.examined, hside, List.modify_id]

theorem examined_of_open {x : Nat × Side} (h : s.doorValue x.1 x.2 = true) (ds : List DoorRec) :
    s.examined ds x = ds.modify x.1 fun d => d.modSide x.2 (SideRec.open_ x.2 s.now) := by
  have hside : s.foundSide x.1 x.2 = SideRec.open_ x.2 s.now := funext fun q => if_pos h
  rw [State.examined, hside]

/-- The notices told of the sides `xs`. -/
def State.forcedNotices (s : State) (xs : List (Nat × Side)) : List KNotice :=
  (xs.filter fun x => s.doorValue x.1 x.2).map fun x => .doorForced x.1 x.2

theorem forcedNotices_cons_of_open {x : Nat × Side} (h : s.doorValue x.1 x.2 = true) (xs : List (Nat × Side)) :
    s.forcedNotices (x :: xs) = .doorForced x.1 x.2 :: s.forcedNotices xs := by
  simp [State.forcedNotices, h]

theorem forcedNotices_cons_of_shut {x : Nat × Side} (h : ¬s.doorValue x.1 x.2 = true) (xs : List (Nat × Side)) :
    s.forcedNotices (x :: xs) = s.forcedNotices xs := by
  simp [State.forcedNotices, h]

/-- The sides of `n` compartments in the order in which they are examined (log 18). -/
def sidesInOrder (n : Nat) : List (Nat × Side) := (List.range n).flatMap fun c => [(c, .kitchen), (c, .counter)]

theorem forcedNotices_sidesInOrder (s : State) (n : Nat) :
    s.forcedNotices (sidesInOrder n) = (s.openAtStart n).map fun x => .doorForced x.1 x.2 := rfl

theorem foldl_sidesInOrder {α : Type} (f : α → Nat × Side → α) (a : α) (n : Nat) :
    (sidesInOrder n).foldl f a = (List.range n).foldl (fun b c => f (f b (c, .kitchen)) (c, .counter)) a :=
  List.foldl_flatMap

/-- The sides `xs` examined in order: the doors found open are OPEN, and a notice is told of each. -/
theorem foldl_startUpDoor (h : ∀ c, ∃ present, s.comp c = CompRec.atColdStart present) (xs : List (Nat × Side)) :
    xs.foldl (fun t x => t.startUpDoor x.1 x.2) s = { s with
      doors := xs.foldl s.examined s.doors,
      kp := (s.forcedNotices xs).foldl KitchenPort.noticed s.kp } := by
  induction xs generalizing s with
  | nil => rfl
  | cons x xs ih =>
    obtain ⟨present, hc⟩ := h x.1
    rw [List.foldl_cons, List.foldl_cons]
    by_cases hopen : s.doorValue x.1 x.2 = true
    · have hforced : s.startUpDoor x.1 x.2 = { s with
          doors := s.examined s.doors x, kp := s.kp.noticed (.doorForced x.1 x.2) } := by
        rw [State.startUpDoor, if_pos hopen, forceDoor_atColdStart hc, examined_of_open hopen,
          notifyKitchen_eq_noticed]
        rfl
      have hkeep : ∀ c, ∃ present, (s.startUpDoor x.1 x.2).comp c = CompRec.atColdStart present := by
        rw [hforced]
        exact h
      rw [ih hkeep, hforced, forcedNotices_cons_of_open hopen]
      rfl
    · have hshut : s.startUpDoor x.1 x.2 = s := if_neg hopen
      rw [hshut, ih h, examined_of_shut hopen, forcedNotices_cons_of_shut hopen]

/-- Both sides of a compartment examined in turn. -/
theorem examined_both (s : State) (c : Nat) (ds : List DoorRec) :
    s.examined (s.examined ds (c, .kitchen)) (c, .counter) = ds.modify c fun d =>
      { d with kitchen := s.foundSide c .kitchen d.kitchen, counter := s.foundSide c .counter d.counter } :=
  List.modify_modify_eq _ _ _ _

/-- The door records of `n` compartments once every side has been examined (R113). -/
def State.doorsAtStart (s : State) (n : Nat) : List DoorRec :=
  (List.range n).map fun c =>
    { kitchen := s.sideAtStart c .kitchen, counter := s.sideAtStart c .counter, holder := none, kitchenReq := none,
      counterReq := none }

/-- The Kitchen Port with the notices told of `n` compartments (R127, R146). -/
def State.kitchenAtStart (s : State) (n : Nat) : KitchenPort :=
  { s.kp with
    notices := ((s.openAtStart n).map fun x => KNotice.doorForced x.1 x.2).take 16,
    noticeLost := 16 < (s.openAtStart n).length }

theorem foldl_examined (s : State) (n : Nat) :
    (sidesInOrder n).foldl s.examined (List.replicate n .closed) = s.doorsAtStart n := by
  simp only [foldl_sidesInOrder, examined_both, foldl_modify_replicate, DoorRec.closed, foundSide_latchedNew]
  rfl

theorem foldl_forcedNotices (hroom : s.kp.notices = []) (hlost : s.kp.noticeLost = false) (n : Nat) :
    (s.forcedNotices (sidesInOrder n)).foldl KitchenPort.noticed s.kp = s.kitchenAtStart n := by
  rw [forcedNotices_sidesInOrder, foldl_noticed _ _ (by simp [hroom]), hroom, hlost]
  simp [State.kitchenAtStart]

/-- The end of start-up's door check, from door records at their cold start. -/
theorem startUpDoors_eq (h : ∀ c, ∃ present, s.comp c = CompRec.atColdStart present)
    (hdoors : s.doors = List.replicate s.count .closed) (hroom : s.kp.notices = []) (hlost : s.kp.noticeLost = false) :
    s.startUpDoors = { s with doors := s.doorsAtStart s.count, kp := s.kitchenAtStart s.count } := by
  have hsides : s.startUpDoors = (sidesInOrder s.count).foldl (fun t x => t.startUpDoor x.1 x.2) s :=
    (foldl_sidesInOrder (fun (t : State) x => t.startUpDoor x.1 x.2) s s.count).symm
  rw [hsides, foldl_startUpDoor h, hdoors, foldl_examined, foldl_forcedNotices hroom hlost]

/-! ## The end of start-up (R169) -/

theorem comp_setUpTables (s : State) (r : ConfigRec) (c : Nat) :
    ∃ present, (s.setUpTables r).comp c = CompRec.atColdStart present := by
  by_cases hc : c < r.count
  · exact ⟨s.presence c, by simp [State.comp, State.setUpTables, hc]⟩
  · exact ⟨false, by simp [State.comp, State.setUpTables, hc, CompRec.atColdStart]⟩

/-- The tables set up and the first service mode taken. -/
def State.beginService (s : State) (r : ConfigRec) : State :=
  (s.setUpTables r).modSul fun u => { u with service := some (s.setUpTables r).firstService }

/-- The first line mode taken and the doors examined: what start-up leaves for the transmitters. The Line Interface is
that of `firstLineMode_alone` or `firstLineMode_joining`. -/
def State.doorsExamined (s : State) (r : ConfigRec) : State :=
  { s.beginService r with
    lif := (s.beginService r).firstLineMode.lif, doors := s.doorsAtStart r.count, kp := s.kitchenAtStart r.count }

theorem startUpDoors_beginService (h : s.ColdStarting) (r : ConfigRec) :
    (s.beginService r).firstLineMode.startUpDoors = s.doorsExamined r := by
  obtain ⟨-, -, -, -, -, hkp, -⟩ := h
  unfold State.doorsExamined
  generalize hl : (s.beginService r).firstLineMode.lif = l
  have hcount : State.count { s.beginService r with lif := l } = r.count := by
    simp [State.count, State.beginService, State.setUpTables]
  rw [firstLineMode_eq_lif, hl, startUpDoors_eq (s := { s.beginService r with lif := l }) (comp_setUpTables s r)
    (by rw [hcount]; rfl) (congrArg KitchenPort.notices hkp) (congrArg KitchenPort.noticeLost hkp), hcount]
  rfl

/-- R169: no trigger of a start attempt is left over, and only the Kitchen Port has a record to send. -/
theorem endOfStartUp_eq (h : s.ColdStarting) (r : ConfigRec) :
    s.endOfStartUp r = { s.doorsExamined r with kp := (s.doorsExamined r).kp.pump } := by
  have hdoors := startUpDoors_beginService h r
  obtain ⟨-, hpsc, -, -, hcdir, -, hcp⟩ := h
  have hquiet : (s.doorsExamined r).Quiet := quiet_of_psc (s := State.reset) ⟨rfl, rfl⟩ hpsc
  have hcounter : s.cp.pump s.cdir.lookup.isSome = s.cp := by
    rw [hcdir, hcp]
    rfl
  have hcounter' : (s.doorsExamined r).cp.pump (s.doorsExamined r).cdir.lookup.isSome = (s.doorsExamined r).cp :=
    hcounter
  show (s.beginService r).firstLineMode.startUpDoors.close = _
  rw [hdoors, close_eq_of_quiet _ hquiet, hcounter']

theorem beginService_sul (s : State) (r : ConfigRec) :
    (s.beginService r).sul = {
      phase := .running, config := some r, classOn := r.classes.map ClassRec.enabled,
      service := some (if r.startShut = false then .serving
                       else if ∃ c < r.count, s.presence c = true then .windingDown else .shut) } := by
  rw [← setUpTables_firstService]
  rfl

end Sys2Proof.Machine
end

section
/-! SUPPORT. BANK CLOSE and BANK OPEN (R151, R171). -/

namespace Sys2Proof.Machine

variable {s : State} {m m' : ServiceMode}

/-- `s` in service mode `m'`, a DRAW queued exactly where that is a change from `m`. -/
def State.inMode (s : State) (m m' : ServiceMode) : State :=
  { s with sul := { s.sul with service := some m' }, lif := if m' = m then s.lif else s.queueDraw.lif }

theorem inMode_same (h : s.sul.service = some m) : s.inMode m m = s := by
  rw [State.inMode, if_pos rfl, ← h]

/-- The change of mode, seen past the Kitchen Port's receiver. -/
theorem setService_clearKitchenPartial (hne : m' ≠ m) :
    s.clearKitchenPartial.setService m' = (s.inMode m m').clearKitchenPartial := by
  rw [State.inMode, if_neg hne]
  unfold State.setService State.queueDraw
  have htakes :
      State.takesFrames (s.clearKitchenPartial.modSul fun u => { u with service := some m' }) = s.takesFrames := rfl
  rw [htakes]
  split <;> rfl

/-- The mode BANK CLOSE leads to from `m`: SERVING ends, the other two modes stay. -/
def State.modeClosed (s : State) (m : ServiceMode) : ServiceMode :=
  if m = .serving then (if 0 < s.occupiedCount then .windingDown else .shut) else m

theorem modeClosed_serving (s : State) :
    s.modeClosed .serving = if s.occupiedCount = 0 then .shut else .windingDown := by
  rw [State.modeClosed, if_pos rfl]
  simp only [Nat.pos_iff_ne_zero, ite_not]

theorem modeClosed_serving_ne (s : State) : s.modeClosed .serving ≠ .serving := by
  rw [modeClosed_serving]
  split <;> nofun

theorem decideClose_eq (h : s.sul.service = some m) :
    s.clearKitchenPartial.decideClose = (s.inMode m (s.modeClosed m)).clearKitchenPartial.replyMode := by
  by_cases hm : m = .serving
  · subst hm
    rw [← setService_clearKitchenPartial (modeClosed_serving_ne s), modeClosed_serving]
    exact congrArg State.replyMode (if_pos h)
  · have hstays : s.modeClosed m = m := if_neg hm
    have hother : s.clearKitchenPartial.sul.service ≠ some .serving := by simp [h, hm]
    rw [hstays, inMode_same h]
    exact congrArg State.replyMode (if_neg hother)

theorem decideOpen_eq (h : s.sul.service = some m) :
    s.clearKitchenPartial.decideOpen = (s.inMode m .serving).clearKitchenPartial.replyMode := by
  by_cases hm : m = .serving
  · subst hm
    rw [inMode_same h]
    exact congrArg State.replyMode (if_pos h)
  · have hother : s.clearKitchenPartial.sul.service ≠ some .serving := by simp [h, hm]
    rw [← setService_clearKitchenPartial (Ne.symm hm)]
    exact congrArg State.replyMode (if_neg hother)

/-- R21, in the words of chapter 1.2. -/
theorem occupiedCount_eq (s : State) :
    s.occupiedCount = s.comps.countP fun r =>
      match r.state with
      | .loading | .holding | .collecting | .attending | .condemned => true
      | .faulted => r.mealPresent = some true
      | .free | .outOfService => false := by
  refine congrArg s.comps.countP (funext fun r => ?_)
  unfold CompRec.occupied
  cases r.state <;> rfl

end Sys2Proof.Machine
end

section
/-! The statements about start-up, the configuration and the bank's service modes. -/

namespace Sys2Proof.Proofs

open Sys2Proof Sys2Proof.Machine

/-- Settles O4: reset and the cold start are the blocks' cold-start values, and RESET_ASSERTED deasserts every output. -/
theorem resetAndColdStart : Obligations.ResetAndColdStart := by
  refine ⟨?reset, fun s => rfl, fun s => ⟨_, rfl, rfl, outputChain_resetAsserted rfl⟩⟩
  case reset =>
    exact ⟨rfl, rfl, rfl, rfl, rfl, rfl, rfl, rfl, rfl, rfl, rfl, rfl, rfl, rfl, rfl, rfl, rfl, rfl, rfl, rfl, rfl,
      rfl⟩

/-- Settles O5: the second read's failure gives the cause where both fail, else the first check that fails. -/
theorem configFaultCause : Obligations.ConfigFaultCause := by
  intro s first second hp
  refine ⟨fun hfirst hsecond => exec_configReadDone_refused hp ?memory,
    fun hfirst hsecond => exec_configReadDone_refused hp ?sum,
    fun bs hread hbad => exec_configReadDone_refused hp ?layout,
    fun bs hread hranges hbad => exec_configReadDone_refused hp ?court⟩
  case memory => exact checkConfig_of_failed hfirst (readRecord_of_silent hsecond)
  case sum => exact checkConfig_of_failed hfirst (readRecord_of_badSum hsecond)
  case layout => exact checkConfig_badStructure hread hbad
  case court => exact checkConfig_badCourt hread hranges hbad

/-- Settles O8: the tables are set up, the modes taken and the doors examined, and nothing is left for the event's end but
the first notice. -/
theorem endOfStartUp : Obligations.EndOfStartUp := by
  intro s first second bs r hcold hread hr hranges hfits
  subst hr
  have hpass := checkConfig_passed hread hranges hfits
  have ⟨hp, _, _, hlif, _⟩ := hcold
  refine ⟨_, exec_configReadDone_passed hp hpass, ?_⟩
  rw [endOfStartUp_eq hcold]
  refine ⟨beginService_sul s _, rfl, rfl, rfl, rfl, rfl, rfl, rfl, rfl, rfl, rfl, fun halone => ?alone,
    fun hcourt => ?joining, rfl⟩
  case alone => exact firstLineMode_alone halone
  case joining =>
    have hjoining := firstLineMode_joining (s := s.beginService (configOf bs)) rfl hcourt hlif
    refine ⟨congrArg (fun l => l.queue.map Queued.frame) hjoining, ?_⟩
    dsimp only [State.doorsExamined]
    rw [hjoining]
    rfl

/-- Settles O19: each request goes to the mode it asks for, or stays, and MODE names the mode that results. -/
theorem bankCloseAndOpen : Obligations.BankCloseAndOpen := by
  intro s m hk hq hm after
  have hanswered (i : Instr) (k : Nat) (m' : ServiceMode) (hi : kitchenKind i = some k)
      (hd : kitchenDecision i s.clearKitchenPartial = (s.inMode m m').clearKitchenPartial.replyMode) :
      exec i s = .next (after m') :=
    exec_kitchen_answered hi hk (quiet_of_psc hq rfl) hd
  exact ⟨hanswered (.bankClose 3) 6 _ rfl (decideClose_eq hm), hanswered (.bankOpen 3) 7 _ rfl (decideOpen_eq hm),
    occupiedCount_eq s⟩

/-- Settles O55: the state after reset is a cold start's, where each law holds. -/
theorem lawsHoldAtReset : Obligations.LawsHoldAtReset :=
  ⟨directoryLaw_of_entries_eq_nil rfl, List.nodup_nil, coldStart_reset ▸ interlockLaw_coldStart State.reset,
    coldStart_reset ▸ heaterLaw_coldStart State.reset, coldStart_reset ▸ holdLaw_coldStart State.reset, drawLaw_reset,
    rfl, rfl⟩

end Sys2Proof.Proofs
end

section
/-! SUPPORT. What no command touches: the clock, the queue of waiting commands and the panels' lines (log 1, 3, 5). They
are the outside's to fill and the step's to use up, so every operation within a command hands them on. -/

namespace Sys2Proof.Machine

/-! ## The relation -/

/-- `t` shows the clock of `s`, and the commands and bytes that wait there. -/
@[simp] def State.WaitsAs (t s : State) : Prop := t.now = s.now ∧ t.pending = s.pending ∧ t.rx = s.rx

section Relation

variable {s t u : State}

theorem State.WaitsAs.refl (s : State) : s.WaitsAs s := ⟨rfl, rfl, rfl⟩

theorem State.WaitsAs.trans (h : u.WaitsAs t) (ht : t.WaitsAs s) : u.WaitsAs s := by
  obtain ⟨hnow, hpending, hrx⟩ := h
  obtain ⟨hnow', hpending', hrx'⟩ := ht
  exact ⟨hnow.trans hnow', hpending.trans hpending', hrx.trans hrx'⟩

/-- What is done under a condition. -/
theorem State.WaitsAs.guarded {p : Prop} [Decidable p] (h : t.WaitsAs s) : (if p then t else s).WaitsAs s := by
  split
  · exact h
  · exact .refl s

theorem State.WaitsAs.close (h : t.WaitsAs s) : t.close.WaitsAs s := .trans (by simp) h

end Relation

variable (s : State)

/-! ## Kitchen requests -/

theorem onCompartment_waitsAs (kind len want c : Nat) (form check : Bool) {decide : State → State}
    (hdecide : (decide s).WaitsAs s) : (s.onCompartment kind len want c form check decide).WaitsAs s := by
  unfold State.onCompartment
  (repeat' split)
  case isFalse.isFalse.isFalse => exact hdecide
  all_goals simp

theorem withoutFields_waitsAs (len : Nat) {decide : State → State} (hdecide : (decide s).WaitsAs s) :
    (s.withoutFields len decide).WaitsAs s := by
  unfold State.withoutFields
  split
  · simp
  · exact hdecide

theorem unlessStored_waitsAs (c : Nat) {decide : State → State} (hdecide : (decide s).WaitsAs s) :
    (s.unlessStored c decide).WaitsAs s := by
  unfold State.unlessStored
  split
  · simp
  · exact hdecide

theorem decideLoad_waitsAs (len tag code cls reach limit probe : Nat) :
    (s.decideLoad len tag code cls reach limit probe).WaitsAs s := by
  unfold State.decideLoad
  (repeat' split) <;> simp

theorem seizeKitchen_waitsAs (c : Nat) : (s.seizeKitchen c).WaitsAs s := by
  unfold State.seizeKitchen
  split <;> simp

theorem waitKitchen_waitsAs (c : Nat) (kind : KitchenKind) : (s.waitKitchen c kind).WaitsAs s := by
  simp [State.waitKitchen]

theorem stateRefusal_waitsAs (c : Nat) : (s.stateRefusal c).WaitsAs s := by simp [State.stateRefusal]

theorem decideAttend_waitsAs (c : Nat) : (s.decideAttend c).WaitsAs s := by
  unfold State.decideAttend
  split
  · exact waitKitchen_waitsAs s c _
  · split
    · exact seizeKitchen_waitsAs s c
    · exact stateRefusal_waitsAs s c

theorem decideReset_waitsAs (c : Nat) : (s.decideReset c).WaitsAs s := by
  unfold State.decideReset
  split
  · split
    · exact seizeKitchen_waitsAs s c
    · exact waitKitchen_waitsAs s c _
    · exact stateRefusal_waitsAs s c
  · exact stateRefusal_waitsAs s c

theorem decideRelease_waitsAs (c : Nat) : (s.decideRelease c).WaitsAs s := by
  unfold State.decideRelease
  split <;> simp

theorem decideService_waitsAs (c : Nat) (old new : CState) : (s.decideService c old new).WaitsAs s := by
  unfold State.decideService
  split <;> simp

theorem decideClose_waitsAs : s.decideClose.WaitsAs s := by
  unfold State.decideClose State.replyMode
  split <;> simp

theorem decideOpen_waitsAs : s.decideOpen.WaitsAs s := by
  unfold State.decideOpen State.replyMode
  split <;> simp

/-! ## Counter requests -/

theorem rightCode_waitsAs (c tag : Nat) : (s.rightCode c tag).WaitsAs s := by
  unfold State.rightCode
  (repeat' split) <;> simp

theorem codeCheck_waitsAs (c tag code : Nat) : (s.codeCheck c tag code).WaitsAs s := by
  unfold State.codeCheck
  split
  · simp
  · split
    · exact (rightCode_waitsAs _ c tag).trans (by simp)
    · split <;> simp

theorem collectRecord_waitsAs (c tag code : Nat) : (s.collectRecord c tag code).WaitsAs s := by
  have hmeal :
      (if (s.door c).counterReq.isSome then s.replyCounter .busy none else s.codeCheck c tag code).WaitsAs s := by
    split
    · simp
    · exact codeCheck_waitsAs s c tag code
  unfold State.collectRecord
  split
  case h_5 => exact hmeal
  case h_6 =>
    split
    · exact hmeal
    · simp
  all_goals simp

theorem lookUp_waitsAs (tag : Nat) : (s.lookUp tag).WaitsAs s := by
  unfold State.lookUp
  (repeat' split) <;> simp

theorem decideCollect_waitsAs (len tag code : Nat) : (s.decideCollect len tag code).WaitsAs s := by
  unfold State.decideCollect
  split
  · simp
  · split
    · exact collectRecord_waitsAs s _ tag code
    · exact lookUp_waitsAs s tag

theorem decideCancel_waitsAs (len : Nat) : (s.decideCancel len).WaitsAs s := by
  unfold State.decideCancel
  (repeat' split) <;> simp

/-! ## Records and frames taken (R94, R144, R158) -/

/-- A kitchen record, where its decision hands on what waits. -/
theorem takeKitchen_waitsAs (kind : Nat) {decide : State → State} (hdecide : ∀ t, (decide t).WaitsAs t) :
    (s.takeKitchen kind decide).WaitsAs s := by
  have hcleared : s.clearKitchenPartial.WaitsAs s := by simp
  unfold State.takeKitchen
  dsimp only
  split
  · exact .refl s
  · exact hcleared
  · simp
  · split
    · simp
    · exact ((hdecide _).trans hcleared).close

/-- A counter record, where its decision hands on what waits. -/
theorem takeCounter_waitsAs (kind : Nat) (busy : State → Bool) {decide : State → State}
    (hdecide : ∀ t, (decide t).WaitsAs t) : (s.takeCounter kind busy decide).WaitsAs s := by
  have hcleared : s.clearCounterPartial.WaitsAs s := by simp
  unfold State.takeCounter
  dsimp only
  split
  · exact .refl s
  · exact hcleared
  · simp
  · split
    · simp
    · exact ((hdecide _).trans hcleared).close

/-- A frame on the line, where the block that acts on a peer's frame hands on what waits. -/
theorem receive_waitsAs (sender : Nat) (ok : Bool) {act : State → State} (hact : ∀ t, (act t).WaitsAs t) :
    (s.receive sender ok act).WaitsAs s := by
  have hheard : s.heardPeer.WaitsAs s := by simp
  unfold State.receive
  split
  · exact .refl s
  · split
    · simp
    · split
      · exact ((hact _).trans hheard).close
      · simp

/-! ## Start-up (R96, R113, R169) -/

theorem firstLineMode_waitsAs : s.firstLineMode.WaitsAs s := by
  unfold State.firstLineMode
  split <;> simp

theorem startUpDoors_waitsAs : s.startUpDoors.WaitsAs s := by
  have hdoor (t : State) (c : Nat) (sd : Side) : (t.startUpDoor c sd).WaitsAs t := State.WaitsAs.guarded (by simp)
  exact List.foldlRecOn (motive := fun t => t.WaitsAs s) _ _ (.refl s) fun t ht c _ =>
    ((hdoor _ c .counter).trans (hdoor t c .kitchen)).trans ht

theorem endOfStartUp_waitsAs (r : ConfigRec) : (s.endOfStartUp r).WaitsAs s := by
  have hserving : ((s.setUpTables r).modSul fun u =>
      { u with service := some (s.setUpTables r).firstService }).WaitsAs s := ⟨rfl, rfl, rfl⟩
  exact (((startUpDoors_waitsAs _).trans (firstLineMode_waitsAs _)).trans hserving).close

/-! ## Commands -/

/-- The command answers a next state that hands on what waits. -/
def AnswersNext (s : State) (o : Result) : Prop := ∃ t, o = .next t ∧ t.WaitsAs s

variable {s}

theorem answersNext_next {t : State} (h : t.WaitsAs s) : AnswersNext s (.next t) := ⟨t, rfl, h⟩

variable (s)

theorem execConfigReadDone_answersNext (first second : ConfigRead) :
    AnswersNext s (execConfigReadDone first second s) := by
  refine answersNext_next (.guarded ?_)
  split
  · simp
  · exact endOfStartUp_waitsAs s _

theorem execFrameDiscarded_answersNext (layer : DiscardLayer) : AnswersNext s (execFrameDiscarded layer s) := by
  refine answersNext_next ?_
  split
  · exact .refl s
  · cases layer <;> simp

theorem execGoneFrame_answersNext (sender tag comp reason : Nat) :
    AnswersNext s (execGoneFrame sender tag comp reason s) := by
  refine answersNext_next (receive_waitsAs s sender _ fun t => ?_)
  split <;> simp

theorem execJoiningTimerExpiry_answersNext : AnswersNext s (execJoiningTimerExpiry s) := by
  refine answersNext_next (.guarded (.close ?_))
  split <;> simp

theorem execStatusStation_answersNext (len : Nat) : AnswersNext s (execStatusStation len s) := by
  refine answersNext_next (takeKitchen_waitsAs s 8 fun t => ?_)
  split <;> simp

theorem execWhere_answersNext (len tag : Nat) : AnswersNext s (execWhere len tag s) := by
  refine answersNext_next (takeKitchen_waitsAs s 10 fun t => ?_)
  split <;> simp

theorem exec_answersNext (i : Instr) : AnswersNext s (exec i s) :=
  match i with
  | .coldStart => answersNext_next ⟨rfl, rfl, rfl⟩
  | .resetAsserted => answersNext_next (by simp)
  | .configReadDone first second => execConfigReadDone_answersNext s first second
  | .load len tag code cls reach limit probe =>
    answersNext_next (takeKitchen_waitsAs s 1 fun t => decideLoad_waitsAs t len tag code cls reach limit probe)
  | .attend _ c =>
    answersNext_next (takeKitchen_waitsAs s 2 fun t =>
      onCompartment_waitsAs t _ _ _ _ _ _ (unlessStored_waitsAs t c (decideAttend_waitsAs t c)))
  | .compartmentReset _ c =>
    answersNext_next (takeKitchen_waitsAs s 5 fun t =>
      onCompartment_waitsAs t _ _ _ _ _ _ (unlessStored_waitsAs t c (decideReset_waitsAs t c)))
  | .release _ c =>
    answersNext_next (takeKitchen_waitsAs s 3 fun t =>
      onCompartment_waitsAs t _ _ _ _ _ _ (decideRelease_waitsAs t c))
  | .serviceOut _ c _ =>
    answersNext_next (takeKitchen_waitsAs s 4 fun t =>
      onCompartment_waitsAs t _ _ _ _ _ _ (decideService_waitsAs t c _ _))
  | .serviceIn _ c _ =>
    answersNext_next (takeKitchen_waitsAs s 4 fun t =>
      onCompartment_waitsAs t _ _ _ _ _ _ (decideService_waitsAs t c _ _))
  | .bankClose len =>
    answersNext_next (takeKitchen_waitsAs s 6 fun t => withoutFields_waitsAs t len (decideClose_waitsAs t))
  | .bankOpen len =>
    answersNext_next (takeKitchen_waitsAs s 7 fun t => withoutFields_waitsAs t len (decideOpen_waitsAs t))
  | .statusCompartment _ _ =>
    answersNext_next (takeKitchen_waitsAs s 8 fun t => onCompartment_waitsAs t _ _ _ _ _ _ (by simp))
  | .statusStation len => execStatusStation_answersNext s len
  | .clearFaults len => answersNext_next (takeKitchen_waitsAs s 9 fun t => withoutFields_waitsAs t len (by simp))
  | .whereTag len tag => execWhere_answersNext s len tag
  | .kitchenUnknownKind kind => answersNext_next (takeKitchen_waitsAs s kind fun _ => by simp)
  | .kitchenBadRecord => answersNext_next (by simp)
  | .kitchenGapExpiry => answersNext_next (.guarded (by simp))
  | .kitchenTxDone => answersNext_next (by split <;> simp)
  | .collect len tag code =>
    answersNext_next (takeCounter_waitsAs s 1 State.counterBusy fun t => decideCollect_waitsAs t len tag code)
  | .cancel len => answersNext_next (takeCounter_waitsAs s 2 State.cancelBusy fun t => decideCancel_waitsAs t len)
  | .counterUnknownKind kind =>
    answersNext_next (takeCounter_waitsAs s kind State.counterBusy fun _ => by simp)
  | .counterBadRecord => answersNext_next (by simp)
  | .counterGapExpiry => answersNext_next (.guarded (by simp))
  | .counterTxDone => answersNext_next (by split <;> simp)
  | .lockoutEnd _ => answersNext_next (.guarded (by simp))
  | .lookupWaitEnd => answersNext_next (.guarded (by simp))
  | .attemptStart => answersNext_next (.guarded (by simp))
  | .attemptLost => answersNext_next (.guarded (by simp))
  | .attemptFailed => answersNext_next (.guarded (by simp))
  | .attemptCompleted => answersNext_next (by split <;> simp)
  | .frameDiscarded layer => execFrameDiscarded_answersNext s layer
  | .ownAddressFrame => answersNext_next (.guarded (by simp))
  | .unknownKindFrame sender => answersNext_next (receive_waitsAs s sender _ .refl)
  | .claimFrame sender _ _ _ => answersNext_next (receive_waitsAs s sender _ fun _ => by simp)
  | .drawFrame sender _ _ _ _ _ _ _ => answersNext_next (receive_waitsAs s sender _ fun _ => by simp)
  | .goneFrame sender tag comp reason => execGoneFrame_answersNext s sender tag comp reason
  | .stowedFrame sender _ _ _ => answersNext_next (receive_waitsAs s sender _ fun _ => by simp)
  | .queryFrame sender _ => answersNext_next (receive_waitsAs s sender _ fun _ => by simp)
  | .helloFresh sender _ _ _ _ _ => answersNext_next (receive_waitsAs s sender _ fun _ => by simp)
  | .helloAnswer sender _ _ _ _ _ => answersNext_next (receive_waitsAs s sender _ fun _ => by simp)
  | .drawTimerExpiry => answersNext_next (.guarded (by simp))
  | .silenceTimerExpiry => answersNext_next (.guarded (by simp))
  | .joiningTimerExpiry => execJoiningTimerExpiry_answersNext s
  | .entryLapse _ => answersNext_next (.guarded (by simp))
  | .claimWindowEnd => answersNext_next (by split; exacts [.guarded (by simp), .refl s])
  | .lostBackoffEnd => answersNext_next (.guarded (by simp))
  | .overrunHoldEnd => answersNext_next (.guarded (by simp))
  | .decayStep _ => answersNext_next (by split; exacts [.guarded (by simp), .refl s])
  | .holdLimitExpiry _ => answersNext_next (by split; exacts [.guarded (by simp), .refl s])
  | .pulseEnd _ => answersNext_next (by split; exacts [.guarded (by simp), .refl s])
  | .channelRestEnd _ => answersNext_next (.guarded (by simp))
  | .staggerEnd => answersNext_next (.guarded (by simp))
  | .doorOpened _ _ => answersNext_next (.guarded (by simp))
  | .doorReopened _ _ => answersNext_next (.guarded (by simp))
  | .doorClosed _ _ => answersNext_next (.guarded (by simp))
  | .doorForced _ _ => answersNext_next (.guarded (by simp))
  | .forcedDoorClosed _ _ => answersNext_next (.guarded (by simp))
  | .releaseWindowLapse _ _ => answersNext_next (.guarded (by simp))
  | .ajarTime _ _ => answersNext_next (.guarded (by simp))
  | .settleEnd _ _ => answersNext_next (.guarded (by simp))
  | .waitLapse _ _ => answersNext_next (.guarded (by simp))
  | .sensorReading _ => answersNext_next (.guarded (by simp))
  | .ambientReading _ => answersNext_next (.guarded (by simp))
  | .inputChainSample _ => answersNext_next (.guarded (by simp))

end Sys2Proof.Machine
end

section
/-! SUPPORT. Which bytes a field of the configuration record is read from, and what its sum covers (R166, R176). -/

namespace Sys2Proof.Machine

variable {bs : List Byte} {start n : Nat}

/-! ## Fields -/

/-- The value of byte `i` of a string. -/
def byteAt (bs : List Byte) (i : Nat) : Nat := (bs.getD i 0#8).toNat

/-- The value of the two bytes at `i`, most significant first. -/
def wordAt (bs : List Byte) (i : Nat) : Nat := 256 * byteAt bs i + byteAt bs (i + 1)

theorem byteAt_eq_getElem (h : start < bs.length) : byteAt bs start = bs[start].toNat := by
  rw [byteAt, List.getD_eq_getElem _ _ h]

theorem fieldAt_one (h : start < bs.length) : fieldAt bs start 1 = byteAt bs start := by
  rw [byteAt_eq_getElem h, fieldAt, List.drop_eq_getElem_cons h]
  simp only [fromBe, List.take_succ_cons, List.take_zero, List.foldl_cons, List.foldl_nil, Nat.zero_mul, Nat.zero_add]

theorem fieldAt_two (h : start + 1 < bs.length) : fieldAt bs start 2 = wordAt bs start := by
  have hstart : start < bs.length := by omega
  rw [wordAt, byteAt_eq_getElem hstart, byteAt_eq_getElem h, fieldAt, List.drop_eq_getElem_cons hstart,
    List.drop_eq_getElem_cons h]
  simp only [fromBe, List.take_succ_cons, List.take_zero, List.foldl_cons, List.foldl_nil]
  omega

/-- A field that ends within the first `m` bytes is read from them alone. -/
theorem fieldAt_take {m : Nat} (h : start + n ≤ m) : fieldAt (bs.take m) start n = fieldAt bs start n := by
  rw [fieldAt, fieldAt, List.drop_take, List.take_take, Nat.min_eq_left (by omega)]

/-! ## The record (R176) -/

theorem classAt_eq (hlen : 85 ≤ bs.length) {i : Nat} (hi : i < 4) :
    classAt bs i =
      { load := wordAt bs (16 + 17 * i), floor := wordAt bs (18 + 17 * i), threshold := wordAt bs (20 + 17 * i),
        ceiling := wordAt bs (22 + 17 * i), urgentBand := wordAt bs (24 + 17 * i), cooling := byteAt bs (26 + 17 * i),
        gain := byteAt bs (27 + 17 * i), pulseLen := byteAt bs (28 + 17 * i), maxHold := wordAt bs (29 + 17 * i),
        duty := wordAt bs (31 + 17 * i) } := by
  have hplace (k : Nat) : 16 + 17 * i + k = 16 + k + 17 * i := Nat.add_right_comm _ _ _
  simp (disch := omega) only [classAt, fieldAt_one, fieldAt_two, hplace]

theorem configOf_eq (hlen : 85 ≤ bs.length) :
    configOf bs =
      { address := byteAt bs 0, courtSize := byteAt bs 1, count := byteAt bs 2, reach := byteAt bs 3,
        power := byteAt bs 4, allowance := wordAt bs 5, reserve := wordAt bs 7, guardW := wordAt bs 9,
        isolated := wordAt bs 11, ambient := wordAt bs 13, startShut := byteAt bs 15 % 2 = 1,
        classes := [0, 1, 2, 3].map (classAt bs) } := by
  simp (disch := omega) only [configOf, fieldAt_one, fieldAt_two, List.map_cons, List.map_nil]

theorem classAt_take {i : Nat} (hi : i < 4) : classAt (bs.take 85) i = classAt bs i := by
  simp (disch := omega) only [classAt, fieldAt_take]

/-- Nothing is read beyond byte 84. -/
theorem configOf_take (bs : List Byte) : configOf (bs.take 85) = configOf bs := by
  simp (disch := omega) only [configOf, classAt_take, fieldAt_take]

/-! ## The sum (R166) -/

theorem readRecord_eq_ok_iff (hlen : 85 ≤ bs.length) :
    readRecord (.data bs) = .ok (configOf bs) ↔ (bs.take 85).foldl (· + ·) 0#8 = 0#8 := by
  constructor
  · intro hread
    by_contra hsum
    rw [readRecord_of_badSum ⟨bs, rfl, hlen, hsum⟩] at hread
    cases hread
  · intro hsum
    exact readRecord_of_good ⟨rfl, hlen, hsum⟩

/-! ## Classes out of range (R22, R23, R167) -/

/-- The structural checks read no class record. -/
theorem structureOk_classes (r : ConfigRec) (ks : List ClassRec) :
    ({ r with classes := ks } : ConfigRec).structureOk = r.structureOk := rfl

theorem enabled_eq_false_of_outOfRange (k : ClassRec)
    (h : 1200 < k.load ∨ 1200 < k.floor ∨ 1200 < k.threshold ∨ 1000 < k.ceiling ∨ 1200 < k.urgentBand
      ∨ k.cooling = 0 ∨ 255 < k.cooling ∨ k.gain = 0 ∨ 20 < k.gain ∨ k.pulseLen < 4 ∨ 90 < k.pulseLen
      ∨ k.maxHold < 60 ∨ 14400 < k.maxHold ∨ k.duty = 0 ∨ 1000 < k.duty) : k.enabled = false := by
  rw [← Bool.not_eq_true, enabled_iff]
  rintro ⟨hranges, -⟩
  omega

end Sys2Proof.Machine
end

section
/-! The statements about the step, what every command leaves alone, and the configuration record's layout. -/

namespace Sys2Proof.Proofs

open Sys2Proof Sys2Proof.Machine

/-- Settles O1: the first case of `step`. -/
theorem stepRunsFrontCommand : Obligations.StepRunsFrontCommand := by
  intro s c rest hpending
  rw [step, hpending]

/-- Settles O3: each command's meaning is a next state, and each of its operations hands on what waits. -/
theorem everyCommandAnswersNext : Obligations.EveryCommandAnswersNext := fun i s => exec_answersNext s i

/-- Settles O6: the layout field by field and class by class, the sum, and the class records outside the structural
checks. -/
theorem configRecordLayout : Obligations.ConfigRecordLayout := by
  refine ⟨fun bs hlen => ⟨?layout, configOf_take bs, readRecord_eq_ok_iff hlen⟩, structureOk_classes,
    enabled_eq_false_of_outOfRange⟩
  case layout =>
    rw [configOf_eq hlen]
    have hclasses : [0, 1, 2, 3].map (classAt bs) = _ :=
      List.map_congr_left fun i hi => classAt_eq hlen (by simp at hi; omega)
    rw [hclasses]
    rfl

end Sys2Proof.Proofs
end
